-- ==== Sys2Proof/Word.lean ====
section
/-! DEFINITION. The words of the Gafcen 6240's two wires: bytes, 16-bit words, and the numbers of doors and ring slots. -/

namespace Sys2Proof

/-- One byte of a telegram or of a ring frame (R36, R40). -/
abbrev Byte := BitVec 8

/-- A 16-bit word: a test word, an echo, a check (R36, R103). -/
abbrev Word16 := BitVec 16

/-- A platform door: 0 to 47 (chapter 0, Indices). Door d has ring slot d. -/
abbrev DoorNo := Fin 48

/-- A ring slot: 0 to 47 the doors, 48 the FRONT panel, 49 the REAR panel. -/
abbrev SlotNo := Fin 50

/-- Every door, in ascending order. -/
def allDoors : List DoorNo := List.finRange 48

/-- Every ring slot, in ascending order. -/
def allSlots : List SlotNo := List.finRange 50

end Sys2Proof
end

