-- ==== Sys2Proof/Syntax.lean ====
section
/-! DEFINITION. The commands of the part: one constructor per row of spec/opcode_table.json.

A row that is a request of a station party carries the request as the line link delivered it: the source byte and the
payload bytes of the telegram (R36, R39). The kind is the constructor's own. UNKNOWN_KIND_REQUEST carries its kind byte too.
A timer row carries the door or berth whose timer it is. An event row carries what the outside world presents. -/

namespace Sys2Proof

/-- The two berth records (R42). -/
inductive BerthId where
  | A | B
deriving DecidableEq, Repr

/-- The two door ring ports and their receive lines (R90). -/
inductive Port where
  | A | B
deriving DecidableEq, Repr

/-- The commands: the steps listed in spec/opcode_table.json, in its order. -/
inductive Instr where
  /-- LINE_RUN_RECEIVED (R23): the bytes of one run that ended in line idle. -/
  | lineRunReceived (run : List Byte)
  /-- LINK_TIMEOUT (R32). -/
  | linkTimeout
  /-- TRANSMIT_COMPLETE (R30). -/
  | transmitComplete
  /-- UNKNOWN_KIND_REQUEST (R25). -/
  | unknownKindRequest (src kind : Byte) (payload : List Byte)
  /-- ARRIVAL (R46). -/
  | arrival (src : Byte) (payload : List Byte)
  /-- STOP_REPORT (R49). -/
  | stopReport (src : Byte) (payload : List Byte)
  /-- RELEASE (R57). -/
  | release (src : Byte) (payload : List Byte)
  /-- CLOSE (R59). -/
  | close (src : Byte) (payload : List Byte)
  /-- CANCEL (R65). -/
  | cancel (src : Byte) (payload : List Byte)
  /-- DEPARTED (R66). -/
  | departed (src : Byte) (payload : List Byte)
  /-- EVACUATE (R177). -/
  | evacuate (src : Byte) (payload : List Byte)
  /-- BERTH_QUERY (R68). -/
  | berthQuery (src : Byte) (payload : List Byte)
  /-- ALIGN_DETAIL (R86). -/
  | alignDetail (src : Byte) (payload : List Byte)
  /-- DOOR_QUERY (R139). -/
  | doorQuery (src : Byte) (payload : List Byte)
  /-- EDGE_QUERY (R210). -/
  | edgeQuery (src : Byte) (payload : List Byte)
  /-- IDENT (R214). -/
  | ident (src : Byte) (payload : List Byte)
  /-- TABLE_WRITE (R12). -/
  | tableWrite (src : Byte) (payload : List Byte)
  /-- TABLE_READ (R13). -/
  | tableRead (src : Byte) (payload : List Byte)
  /-- PROFILE_BEGIN (R16). -/
  | profileBegin (src : Byte) (payload : List Byte)
  /-- PROFILE_CAR (R17). -/
  | profileCar (src : Byte) (payload : List Byte)
  /-- PROFILE_DELETE (R18). -/
  | profileDelete (src : Byte) (payload : List Byte)
  /-- STORE_SAVE (R20). -/
  | storeSave (src : Byte) (payload : List Byte)
  /-- STORE_SAVE_COMPLETE (R21): the read-back has finished; whether its check matches. -/
  | storeSaveComplete (readBackMatches : Bool)
  /-- STORE_SAVE_TIMEOUT (R21). -/
  | storeSaveTimeout
  /-- MODE_ENTER (R174). -/
  | modeEnter (src : Byte) (payload : List Byte)
  /-- MODE_EXIT (R175). -/
  | modeExit (src : Byte) (payload : List Byte)
  /-- DOOR_COMMAND (R137). -/
  | doorCommand (src : Byte) (payload : List Byte)
  /-- RESET_LATCH (R138). -/
  | resetLatch (src : Byte) (payload : List Byte)
  /-- RING_TEST_START (R108). -/
  | ringTestStart (src : Byte) (payload : List Byte)
  /-- RING_TEST_STOP (R109). -/
  | ringTestStop (src : Byte) (payload : List Byte)
  /-- RING_TEST_INSERT (R110). -/
  | ringTestInsert (src : Byte) (payload : List Byte)
  /-- RING_TEST_RESULT (R111). -/
  | ringTestResult (src : Byte) (payload : List Byte)
  /-- EVENT_ACK (R207). -/
  | eventAck (src : Byte) (payload : List Byte)
  /-- EVENT_MASK (R208). -/
  | eventMask (src : Byte) (payload : List Byte)
  /-- CHANGE_MAP (R209). -/
  | changeMap (src : Byte) (payload : List Byte)
  /-- SNAPSHOT (R212). -/
  | snapshot (src : Byte) (payload : List Byte)
  /-- COUNTER_READ (R213). -/
  | counterRead (src : Byte) (payload : List Byte)
  /-- PART_RESET (R216). -/
  | partReset (src : Byte) (payload : List Byte)
  /-- POWER_ON (R215). -/
  | powerOn
  /-- SUPPLY_DIP (R215). -/
  | supplyDip
  /-- RESET_LINE_ASSERTED (R215). -/
  | resetLineAsserted
  /-- RESET_LINE_RELEASED (R215). -/
  | resetLineReleased
  /-- STARTING_END (R217). -/
  | startingEnd
  /-- FIRE_CHANGE (R180): the level the FIRE input now stands at. -/
  | fireChange (asserted : Bool)
  /-- RING_COPY_RECEIVED (R90): the bytes of one copy that arrived complete on a port's receive line. -/
  | ringCopyReceived (port : Port) (copy : List Byte)
  /-- CYCLE_CLOSE (R93): the order in which the slots' replies are handed on. The slots take no order among themselves
  (R95), so the order is the outside world's; slots it leaves out follow in ascending order. -/
  | cycleClose (order : List SlotNo)
  /-- MOTION_TIMEOUT (R121). -/
  | motionTimeout (d : DoorNo)
  /-- LOCK_PROOF_TIMEOUT (R123). -/
  | lockProofTimeout (d : DoorNo)
  /-- RECLOSE_TIMEOUT (R126). -/
  | recloseTimeout (d : DoorNo)
  /-- PROOF_TIMEOUT (R62). -/
  | proofTimeout (b : BerthId)
  /-- AUTO_SNAPSHOT_TIMEOUT (R211). -/
  | autoSnapshotTimeout
  /-- SUPPLY_FALL (R215). -/
  | supplyFall
deriving DecidableEq, Repr

end Sys2Proof
end

