-- ==== Sys2Proof/Decode.lean ====
section
/-! DEFINITION. The command a word spells by the table's bits: none, since no row of spec/opcode_table.json gives bits. -/

namespace Sys2Proof

/-- The table gives no row any bits: a command is presented by the outside world, not spelled by a word
(notes/assumptions/6.md). -/
def decodeTableWord (_nbits _w : Nat) : Option Instr := none

end Sys2Proof
end

