-- ==== Sys2Proof/Machine/State.lean ====
section
/-! DEFINITION. Every record the part keeps (each block's own, as chapter 0 lists the blocks), the reasons a step can stop,
and the machine right after reset. Plain data throughout. -/

namespace Sys2Proof.Machine

/-! ## Names of the manual -/

/-- A platform zone: a stretch of the edge (chapter 0, Zones). -/
inductive Zone where
  | front | rear
deriving DecidableEq, Repr

/-- The six sensing zones of a door, in the order in which one reply's samples are worked (R152, R157). -/
inductive ZoneId where
  | g1 | g2 | g3 | g4 | th | ed
deriving DecidableEq, Repr

/-- The place of a sensing zone in its door's six zones. -/
def ZoneId.idx : ZoneId → Fin 6
  | .g1 => 0 | .g2 => 1 | .g3 => 2 | .g4 => 3 | .th => 4 | .ed => 5

/-- G1 to G4 are the gap zones (R152). -/
def ZoneId.isGap : ZoneId → Bool
  | .g1 | .g2 | .g3 | .g4 => true
  | .th | .ed => false

/-- The sensing zones in the order of R157. -/
def allZoneIds : List ZoneId := [.g1, .g2, .g3, .g4, .th, .ed]

/-- A timer that is stopped, or runs for the duration it was started with (R11), in milliseconds. Its expiry is a
command of its own. -/
inductive Timer where
  | stopped
  | running (ms : Nat)
deriving DecidableEq, Repr

/-! ## Table Store (chapter 1) -/

/-- One Platform Door Table entry (R2). -/
structure PdtEntry where
  inService : Bool
  zone : Zone
  centre : Nat
  width : Nat
  driveClass : Fin 4
  profile : Fin 8
  fitted : Vector Bool 6
deriving DecidableEq, Repr

/-- The empty value of a PDT entry (R2). -/
def PdtEntry.empty : PdtEntry :=
  { inService := false, zone := .front, centre := 0, width := 1000, driveClass := 0, profile := 0,
    fitted := Vector.replicate 6 false }

/-- A loaded Drive Class entry (R5). -/
structure DriveClass where
  iNom : Nat
  iHard : Nat
  k : Nat
  startBlank : Nat
deriving DecidableEq, Repr

/-- The effort limit L of a drive class, derived and not stored (R5). -/
def DriveClass.limit (c : DriveClass) : Nat := c.iNom ^ 2 * c.k

/-- GAP_RESPONSE (R7). -/
inductive GapResponse where
  | holdDeparture | reopen
deriving DecidableEq, Repr

/-- A loaded Sensing Profile entry (R7). -/
structure SensingProfile where
  n : Nat
  kOn : Nat
  kOff : Nat
  stuckLimit : Nat
  gapResponse : GapResponse
  intrusionReport : Bool
deriving DecidableEq, Repr

/-- FIRE_SCOPE (R9). -/
inductive FireScope where
  | alignedOnly | allInService
deriving DecidableEq, Repr

/-- PANELS_FITTED (R9). -/
inductive PanelsFitted where
  | none | front | rear | both
deriving DecidableEq, Repr

/-- Whether a platform zone's panel is fitted. -/
def PanelsFitted.fits : PanelsFitted → Zone → Bool
  | .none, _ => false
  | .both, _ => true
  | .front, z => z == .front
  | .rear, z => z == .rear

/-- The settings block (R9), each in the unit R9 gives. -/
structure Settings where
  platformSide : Nat
  zsplit : Nat
  zend : Nat
  stopMarkFront : Nat
  stopMarkRear : Nat
  stopMarkFull : Nat
  minPassage : Nat
  creepTol : Nat
  ringPeriod : Nat
  holdCycles : Nat
  linkTimeout : Nat
  openTimeLimit : Nat
  closeTimeLimit : Nat
  lockProofTime : Nat
  recloseDelay : Nat
  reopenLimit : Nat
  proofTime : Nat
  fireScope : FireScope
  autoSnapshot : Bool
  panelsFitted : PanelsFitted
deriving DecidableEq, Repr

/-- The default of every setting (R9). -/
def Settings.default : Settings :=
  { platformSide := 1, zsplit := 60000, zend := 120000, stopMarkFront := 0, stopMarkRear := 60000, stopMarkFull := 0,
    minPassage := 700, creepTol := 150, ringPeriod := 10, holdCycles := 3, linkTimeout := 300, openTimeLimit := 4,
    closeTimeLimit := 5, lockProofTime := 500, recloseDelay := 2000, reopenLimit := 3, proofTime := 15,
    fireScope := .alignedOnly, autoSnapshot := false, panelsFitted := .none }

/-- One train-door record of a stock profile: offset from its car's A end, and clear width (R14). -/
structure ProfileDoor where
  offset : Nat
  width : Nat
deriving DecidableEq, Repr

/-- A written car record (R14). -/
structure Car where
  length : Nat
  side1 : List ProfileDoor
  side2 : List ProfileDoor
deriving DecidableEq, Repr

/-- The train-door records a car record holds: none while it is unwritten (R14). -/
def carDoors : Option Car → Nat
  | .none => 0
  | .some c => c.side1.length + c.side2.length

inductive ProfileState where
  | empty | building | valid
deriving DecidableEq, Repr

/-- A stock profile (R14): its car records, each written (`some`) or unwritten (`none`), and its coupling allowance. -/
structure StockProfile where
  state : ProfileState
  cars : List (Option Car)
  allowance : Nat
deriving DecidableEq, Repr

def StockProfile.emptyProfile : StockProfile := { state := .empty, cars := [], allowance := 0 }

/-- Car records a profile holds (R14). -/
def StockProfile.carsHeld (p : StockProfile) : Nat := p.cars.length

/-- Train-door records a profile holds (R14). -/
def StockProfile.doorsHeld (p : StockProfile) : Nat := (p.cars.map carDoors).sum

/-- The loaded content of the Table Store, in the order the image lists it (R19). -/
structure Tables where
  pdt : Vector PdtEntry 48
  classes : Vector (Option DriveClass) 4
  profiles : Vector (Option SensingProfile) 8
  settings : Settings
  stock : Vector StockProfile 16
deriving DecidableEq, Repr

/-- The content a start-up load takes when it finds no good image (R22). -/
def Tables.empty : Tables :=
  { pdt := Vector.replicate 48 .empty, classes := Vector.replicate 4 none, profiles := Vector.replicate 8 none,
    settings := .default, stock := Vector.replicate 16 .emptyProfile }

inductive ConfigState where
  | configured | unconfigured
deriving DecidableEq, Repr

inductive ImageState where
  | valid | invalid
deriving DecidableEq, Repr

inductive SaveState where
  | idle | saving
deriving DecidableEq, Repr

/-- The nonvolatile image (R19): its contents, their check and the valid mark. -/
structure Image where
  validMark : Bool
  contents : Tables
  check : Word16
deriving DecidableEq, Repr

/-- The Table Store (R1, R14, R19). -/
structure TableStore where
  tables : Tables
  freeCars : Nat
  freeDoors : Nat
  config : ConfigState
  imageState : ImageState
  saveState : SaveState
  image : Image
deriving DecidableEq, Repr

/-! ## Line Link Interface (chapter 2) -/

inductive LinkState where
  | up | lost
deriving DecidableEq, Repr

/-- A valid request that waits to be routed (R27): source, kind and payload as received. -/
structure Request where
  src : Byte
  kind : Byte
  payload : List Byte
deriving DecidableEq, Repr

/-- The classes of the telegrams the part sends (R30, R36). -/
inductive TxClass where
  | answer | report | event
deriving DecidableEq, Repr

/-- A complete telegram the part sends; its source is always PART (R30). -/
structure Telegram where
  cls : TxClass
  kind : Byte
  payload : List Byte
deriving DecidableEq, Repr

/-- The Line Link Interface (chapter 2): link state, link timer, valid-run count, degraded flag (R32, R34), the requests
waiting to be routed (R27), the transmit queue, oldest first, and the bytes the transmitter is sending, if any (R30), and
the three live link counters (R35). -/
structure LineLink where
  link : LinkState
  linkTimer : Timer
  validRun : Nat
  degraded : Bool
  waiting : List Request
  txQueue : List Telegram
  sending : Option (List Byte)
  crcErrors : Nat
  lengthErrors : Nat
  txDrops : Nat
deriving DecidableEq, Repr

/-! ## Berth Unit and Alignment Engine (chapters 3, 4, 10) -/

inductive BerthState where
  | vacant | announced | berthed | released | proving | proven
deriving DecidableEq, Repr

inductive Span where
  | front | rear | full
deriving DecidableEq, Repr

/-- The platform zones of a span (R43). -/
def Span.has : Span → Zone → Bool
  | .full, _ => true
  | .front, z => z == .front
  | .rear, z => z == .rear

/-- Two spans overlap when they share a platform zone (R43). -/
def Span.overlaps (a b : Span) : Bool :=
  (a.has .front && b.has .front) || (a.has .rear && b.has .rear)

inductive Orientation where
  | forward | reversed
deriving DecidableEq, Repr

/-- One unit of a consist (R42). -/
structure TrainUnit where
  profile : Fin 16
  orientation : Orientation
deriving DecidableEq, Repr

inductive Verdict where
  | good | partly | none
deriving DecidableEq, Repr

inductive CloseCause where
  | order | creep | moving | panel
deriving DecidableEq, Repr

inductive Permit where
  | granted | withdrawn
deriving DecidableEq, Repr

inductive ProofTimer where
  | stopped
  | running (ms : Nat)
  | expired
deriving DecidableEq, Repr

/-- One entry of a train door list (R74); the train door index t is its place in the list. -/
structure TrainDoor where
  o : Int
  w : Int
  pos : Int
  eligible : Bool
  unit : Nat
  car : Nat
  door : Nat
deriving DecidableEq, Repr

/-- One match record (R79). -/
structure MatchRec where
  p : DoorNo
  t : Nat
  overlap : Nat
  residual : Int
deriving DecidableEq, Repr

/-- A berth record (R42). -/
structure Berth where
  state : BerthState
  span : Option Span
  trainNumber : Option Nat
  consist : List TrainUnit
  lastReport : Option Int
  standstill : Bool
  saturated : Bool
  eUsed : Option Int
  verdict : Option Verdict
  nEligible : Nat
  nAligned : Nat
  trainDoors : List TrainDoor
  matchList : List MatchRec
  platformEnable : Vector Bool 48
  trainEnable : Vector Bool 96
  permit : Permit
  proofTimer : ProofTimer
  closeCause : Option CloseCause
deriving DecidableEq, Repr

/-- The berth record after every reset kind (R42), which is also the record of a VACANT berth (R64). -/
def Berth.vacantRec : Berth :=
  { state := .vacant, span := none, trainNumber := none, consist := [], lastReport := none, standstill := false,
    saturated := false, eUsed := none, verdict := none, nEligible := 0, nAligned := 0, trainDoors := [], matchList := [],
    platformEnable := Vector.replicate 48 false, trainEnable := Vector.replicate 96 false, permit := .withdrawn,
    proofTimer := .stopped, closeCause := none }

/-! ## Door Ring Master (chapter 5) -/

inductive FrameKind where
  | normal | test
deriving DecidableEq, Repr

/-- The owner's part of one order slot: order byte and test word (R40); address and check follow from them. -/
structure OrderSlot where
  order : Byte
  testWord : Word16
deriving DecidableEq, Repr

/-- Bytes 1 to 6 of a valid reply slot (R41). -/
structure Reply where
  status : Byte
  current : Byte
  sensors : Byte
  keys : Byte
  echo : Word16
deriving DecidableEq, Repr

inductive CommState where
  | noReply | live | holding | lost
deriving DecidableEq, Repr

/-- The comm record of a configured slot (R91). -/
structure CommRec where
  state : CommState
  miss : Nat
  run : Nat
  held : Option Reply
deriving DecidableEq, Repr

/-- A slot that joins the configured set (R91). -/
def CommRec.fresh : CommRec := { state := .noReply, miss := 0, run := 0, held := none }

inductive RingState where
  | intact | openRing
deriving DecidableEq, Repr

inductive TestStatus where
  | idle | run | finished | abort
deriving DecidableEq, Repr

/-- The ring test's items for one slot of the test set (R102). `reached` is the inserted count as it stood at the last test cycle
close, which RING_TEST_RESULT gives during RUN (R111); before the first test cycle close it is 0 (notes/assumptions/34.md). -/
structure TestSlot where
  slot : SlotNo
  word : Option Word16
  errors : Nat
  inserted : Nat
  reached : Nat
  pending : Bool
  verdict : Option Bool
deriving DecidableEq, Repr

/-- The ring test record (R102); the test set is the list's slots, in ascending order. -/
structure RingTest where
  status : TestStatus
  slots : List TestSlot
  gen : BitVec 15
  cyclesDone : Nat
deriving DecidableEq, Repr

/-- The Door Ring Master. `judged` says that the cycle in progress sent a TEST frame of the running test, so that its
close is judged for that test (R104, R106). -/
structure RingMaster where
  cycleNo : BitVec 8
  period : Nat
  kind : FrameKind
  judged : Bool
  frame : Vector OrderSlot 50
  copyA : Option (List Byte)
  copyB : Option (List Byte)
  comm : Vector (Option CommRec) 50
  ring : RingState
  breakPos : Option Nat
  test : RingTest
deriving DecidableEq, Repr

/-! ## Door Supervisor (chapters 6, 7) -/

inductive DoorState where
  | unknown | outOfService | closed | opening | opened | closing | reopening | held | releasedManual | fault
deriving DecidableEq, Repr

inductive HeldCause where
  | obstructed | openTrip | startOpen | commRecovered | manualRestored
deriving DecidableEq, Repr

inductive FaultCause where
  | commLost | lockNotProven | lockLost | motionTimeout | unitFault | driveOverload
deriving DecidableEq, Repr

inductive Order where
  | none | opn | close | stop
deriving DecidableEq, Repr

inductive Reason where
  | release | key | fire | evac | maint
deriving DecidableEq, Repr

/-- An open reason set (R112). -/
structure Reasons where
  release : Bool
  key : Bool
  fire : Bool
  evac : Bool
  maint : Bool
deriving DecidableEq, Repr

def Reasons.empty : Reasons := { release := false, key := false, fire := false, evac := false, maint := false }

def Reasons.has (r : Reasons) : Reason → Bool
  | .release => r.release | .key => r.key | .fire => r.fire | .evac => r.evac | .maint => r.maint

/-- The set with one reason put in (`true`) or taken out (`false`). -/
def Reasons.put (r : Reasons) (v : Bool) : Reason → Reasons
  | .release => { r with release := v }
  | .key => { r with key := v }
  | .fire => { r with fire := v }
  | .evac => { r with evac := v }
  | .maint => { r with maint := v }

inductive LeafClass where
  | closed | opening | opened | closing | stopped | unknown
deriving DecidableEq, Repr

/-- The last known status but for the isolation key, which can be known alone (R92, R112). -/
structure UnitStatus where
  leaf : LeafClass
  lock : Bool
  faultCode : BitVec 4
  manual : Bool
deriving DecidableEq, Repr

/-- The seven counters of a door (R136). -/
structure DoorCounters where
  openCycles : Nat
  reopens : Nat
  effortTrips : Nat
  commMisses : Nat
  disagree : Nat
  gapEvents : Nat
  manualReleases : Nat
deriving DecidableEq, Repr

def DoorCounters.zero : DoorCounters :=
  { openCycles := 0, reopens := 0, effortTrips := 0, commMisses := 0, disagree := 0, gapEvents := 0, manualReleases := 0 }

/-- A door record (R112). `returning` says that a PDT write has returned the door to service and it has not re-adopted
yet (R135, R182). -/
structure Door where
  state : DoorState
  reasons : Reasons
  reopenCount : Nat
  heldCause : Option HeldCause
  faultCause : Option FaultCause
  order : Order
  lastStatus : Option UnitStatus
  isoKey : Option Bool
  motion : Timer
  lockProof : Timer
  reclose : Timer
  effort : Nat
  blank : Nat
  counters : DoorCounters
  returning : Bool
deriving DecidableEq, Repr

/-- A door record after every reset kind (R112). -/
def Door.resetRec : Door :=
  { state := .unknown, reasons := .empty, reopenCount := 0, heldCause := none, faultCause := none, order := .none,
    lastStatus := none, isoKey := none, motion := .stopped, lockProof := .stopped, reclose := .stopped, effort := 0,
    blank := 0, counters := .zero, returning := false }

/-! ## Sensing Evaluator (chapter 8) -/

inductive ZoneState where
  | clear | occupied | stuck
deriving DecidableEq, Repr

/-- A zone record (R153); the window holds the oldest sample first. -/
structure ZoneRec where
  window : List Bool
  count : Nat
  state : ZoneState
  run : Nat
  forced : Bool
deriving DecidableEq, Repr

/-- A fresh zone record (R4, R153). -/
def ZoneRec.fresh : ZoneRec := { window := [], count := 0, state := .clear, run := 0, forced := false }

/-- The six zones of a door; a zone that is not fitted has no record (R152). -/
abbrev DoorZones := Vector (Option ZoneRec) 6

/-! ## Override Unit (chapter 9) -/

inductive OverrideKind where
  | maint | test | evac | fire
deriving DecidableEq, Repr

/-- The rank of an override kind (R172). -/
def OverrideKind.rank : OverrideKind → Nat
  | .maint => 1 | .test => 2 | .evac => 3 | .fire => 4

inductive KeyState where
  | unseen | off | onGranted | onNotGranted
deriving DecidableEq, Repr

/-- A panel record (R188). -/
structure Panel where
  seen : Bool
  key : Bool
  openPressed : Bool
  closePressed : Bool
  resetPressed : Bool
  lampProven : Bool
  lampDoorsOpen : Bool
  lampAlarm : Bool
deriving DecidableEq, Repr

/-- A fitted panel's record after reset (R188), its lamps dark until the next frame is built
(notes/assumptions/1.md). -/
def Panel.fresh : Panel :=
  { seen := false, key := false, openPressed := false, closePressed := false, resetPressed := false, lampProven := false,
    lampDoorsOpen := false, lampAlarm := false }

/-- The Override Unit: the override list, bottom to top (R172), the last level taken from the FIRE input (R180), the staff
key records (R184) and the panel records (R188). -/
structure OverrideUnit where
  list : List OverrideKind
  fireTaken : Bool
  keys : Vector KeyState 48
  panelFront : Option Panel
  panelRear : Option Panel
deriving DecidableEq, Repr

/-! ## Event Reporter (chapter 11) -/

inductive ResetKind where
  | powerOn | supplyDip | resetLine | linkReset
deriving DecidableEq, Repr

/-- The snapshot set: the seven counters of each door and the three link counters (R211). -/
structure SnapshotSet where
  doors : Vector DoorCounters 48
  crcErrors : Nat
  lengthErrors : Nat
  txDrops : Nat
deriving DecidableEq, Repr

/-- The Event Reporter (R205). -/
structure EventReporter where
  doorFlags : Vector Bool 48
  berthFlagA : Bool
  berthFlagB : Bool
  mask : Vector Bool 16
  eventsLost : Bool
  snap : SnapshotSet
  seq : BitVec 8
  autoTimer : Timer
  cause : ResetKind
deriving DecidableEq, Repr

/-! ## The whole part -/

/-- Where the part stands between a reset and its work (R215, R217). -/
inductive Phase where
  | inReset | starting | running
deriving DecidableEq, Repr

/-- Every record of the part, the levels of its discrete inputs, and the commands that wait. -/
structure State where
  /-- held in reset, STARTING, or running (R215, R217) -/
  phase : Phase
  /-- whether the supply stands at its operating level (R215) -/
  supplyOk : Bool
  /-- whether the reset input is asserted (R215) -/
  resetLine : Bool
  /-- the level at which the FIRE input stands (R180) -/
  firePin : Bool
  ts : TableStore
  lli : LineLink
  berthA : Berth
  berthB : Berth
  drm : RingMaster
  doors : Vector Door 48
  zones : Vector DoorZones 48
  ou : OverrideUnit
  /-- the FRONT loop output is closed (R195) -/
  loopFront : Bool
  /-- the REAR loop output is closed (R195) -/
  loopRear : Bool
  er : EventReporter
  /-- the MODEL's own: how many free values have been used (notes/assumptions/4.md) -/
  freeSeq : Nat
  /-- the MODEL's own: the commands that wait, first in, first out -/
  pending : List Instr
deriving DecidableEq, Repr

/-- No command of this block ends in a fault: the manual names no condition that stops the part (see NOTES.md). -/
inductive Fault where
deriving DecidableEq, Repr

/-- Why a command could be refused. -/
inductive Refusal where
  /-- Raised by exec for a command with no meaning yet: none here. Safe: the model stops. -/
  | notModelled (mnemonic : String)
deriving DecidableEq, Repr

/-! ## The machine right after reset -/

def TableStore.reset : TableStore :=
  { tables := .empty, freeCars := 96, freeDoors := 320, config := .unconfigured, imageState := .invalid, saveState := .idle,
    image := { validMark := false, contents := .empty, check := 0 } }

def LineLink.reset : LineLink :=
  { link := .lost, linkTimer := .stopped, validRun := 0, degraded := true, waiting := [], txQueue := [], sending := none,
    crcErrors := 0, lengthErrors := 0, txDrops := 0 }

def RingMaster.reset : RingMaster :=
  { cycleNo := 0, period := 0, kind := .normal, judged := false, frame := Vector.replicate 50 { order := 0, testWord := 0 },
    copyA := none, copyB := none, comm := Vector.replicate 50 none, ring := .intact, breakPos := none,
    test := { status := .idle, slots := [], gen := 0, cyclesDone := 0 } }

def OverrideUnit.reset : OverrideUnit :=
  { list := [], fireTaken := false, keys := Vector.replicate 48 .unseen, panelFront := none, panelRear := none }

def EventReporter.reset (cause : ResetKind) : EventReporter :=
  { doorFlags := Vector.replicate 48 false, berthFlagA := false, berthFlagB := false, mask := Vector.replicate 16 false,
    eventsLost := true, snap := { doors := Vector.replicate 48 .zero, crcErrors := 0, lengthErrors := 0, txDrops := 0 },
    seq := 0, autoTimer := .stopped, cause := cause }

/-- The part at the start of the STARTING phase of a power-on, with a blank nonvolatile store and its inputs de-asserted.
Every record holds the value the manual gives it after every reset kind; notes/assumptions/1.md names the rest. -/
def State.reset : State :=
  { phase := .starting, supplyOk := true, resetLine := false, firePin := false, ts := .reset, lli := .reset,
    berthA := .vacantRec, berthB := .vacantRec, drm := .reset, doors := Vector.replicate 48 .resetRec,
    zones := Vector.replicate 48 (Vector.replicate 6 none), ou := .reset, loopFront := false, loopRear := false,
    er := .reset .powerOn, freeSeq := 0, pending := [] }

end Sys2Proof.Machine
end

