-- ==== Sys2Proof/Config.lean ====
section
/-! DEFINITION. What the manual leaves open: constants with no body, so that nothing can be proved of their values. -/

namespace Sys2Proof.Config

/-- The milliseconds left on a running timer when a query reads it (R139). Time is not modelled, so the n-th value read is
free; the machine keeps it within the duration the timer was started with (notes/assumptions/4.md). -/
opaque timeLeft : Nat → Nat

/-- The bytes over which the nonvolatile image's check is computed (R19): the manual gives the order of the contents, not
their layout (notes/assumptions/5.md). -/
opaque imageBytes : Machine.Tables → List Byte

end Sys2Proof.Config
end

