-- ==== Sys2Proof/Machine/Wire.lean ====
section
/-! DEFINITION. The wire: the two checks (R36, R40), how values are laid out in a payload (R39), the codes of every named
value, and the framing of a telegram (R36). -/

namespace Sys2Proof.Machine

/-! ## Checks -/

/-- n bit steps of the CRC-16 register with polynomial x^16+x^12+x^5+1 (R36). -/
def crc16Bits : Nat → Word16 → Word16
  | 0, c => c
  | n + 1, c => crc16Bits n (if c.msb then (c <<< 1) ^^^ 0x1021#16 else c <<< 1)

/-- One byte, most significant bit first, through the CRC-16 register (R36). -/
def crc16Byte (c : Word16) (b : Byte) : Word16 := crc16Bits 8 (c ^^^ (b.setWidth 16 <<< 8))

/-- The CRC-16 of R19 and R36: the register starts at all ones, and there is no final inversion. -/
def crc16 (bs : List Byte) : Word16 := bs.foldl crc16Byte 0xFFFF#16

/-- n bit steps of the CRC-8 register with polynomial x^8+x^2+x+1 (R40). -/
def crc8Bits : Nat → Byte → Byte
  | 0, c => c
  | n + 1, c => crc8Bits n (if c.msb then (c <<< 1) ^^^ 0x07#8 else c <<< 1)

/-- The CRC-8 of R40: the register starts at 0, most significant bit first, no final inversion. -/
def crc8 (bs : List Byte) : Byte := bs.foldl (fun c b => crc8Bits 8 (c ^^^ b)) 0#8

/-! ## Numbers, flags, sets (R39): most significant byte first -/

def enc1 (n : Nat) : List Byte := [BitVec.ofNat 8 n]
def enc2 (n : Nat) : List Byte := [BitVec.ofNat 8 (n / 256), BitVec.ofNat 8 n]
def enc4 (n : Nat) : List Byte := enc2 (n / 65536) ++ enc2 n
def encWord (w : Word16) : List Byte := enc2 w.toNat

/-- A number whose range includes negative values, in two bytes of two's complement (R39). -/
def encInt2 (i : Int) : List Byte := encWord (BitVec.ofInt 16 i)

def encFlag (b : Bool) : List Byte := [if b then 1 else 0]

/-- An absent one-byte item (R39). -/
def absent1 : List Byte := [0xFF]
def absent2 : List Byte := [0xFF, 0xFF]
def absent4 : List Byte := [0xFF, 0xFF, 0xFF, 0xFF]

def encOpt1 (o : Option Nat) : List Byte := o.elim absent1 enc1
def encOpt2 (o : Option Nat) : List Byte := o.elim absent2 enc2

/-- An absent number whose range includes negative values is 0x80, 0x00 (R39). -/
def encOptInt2 (o : Option Int) : List Byte := o.elim [0x80, 0x00] encInt2

/-- Byte k of a set's bit map: member n is bit n mod 8 of byte n / 8 (R39). -/
def mapByte (members : List Bool) (k : Nat) : Byte :=
  (List.range 8).foldl (fun acc j => if members.getD (8 * k + j) false then acc ||| (1#8 <<< j) else acc) 0#8

/-- A set or group of flags: as many whole bytes as its members need (R39). -/
def encMap (members : List Bool) : List Byte :=
  (List.range ((members.length + 7) / 8)).map (mapByte members)

/-! ## Codes of named values (R36, R37, R38, R39) -/

def TxClass.code : TxClass → Byte
  | .answer => 0x02 | .report => 0x03 | .event => 0x04

/-- The request class code, the two station sources and the part's own source (R36). -/
def requestClass : Byte := 0x01
def srcSignalling : Byte := 0x01
def srcSupervisor : Byte := 0x02
def srcPart : Byte := 0x03

/-- The request kinds (R26). -/
inductive Kind where
  | arrival | stopReport | release | close | cancel | departed | evacuate | berthQuery | alignDetail | doorQuery
  | edgeQuery | ident | tableWrite | tableRead | profileBegin | profileCar | profileDelete | storeSave | modeEnter
  | modeExit | doorCommand | resetLatch | ringTestStart | ringTestStop | ringTestInsert | ringTestResult | eventAck
  | eventMask | changeMap | snapshot | counterRead | partReset
deriving DecidableEq, Repr

/-- The kind code of a request (R38). -/
def Kind.code : Kind → Byte
  | .arrival => 0x01 | .stopReport => 0x02 | .release => 0x03 | .close => 0x04 | .cancel => 0x05 | .departed => 0x06
  | .evacuate => 0x07 | .berthQuery => 0x08 | .alignDetail => 0x09 | .doorQuery => 0x0A | .edgeQuery => 0x0B
  | .ident => 0x0C | .tableWrite => 0x0D | .tableRead => 0x0E | .profileBegin => 0x0F | .profileCar => 0x10
  | .profileDelete => 0x11 | .storeSave => 0x12 | .modeEnter => 0x13 | .modeExit => 0x14 | .doorCommand => 0x15
  | .resetLatch => 0x16 | .ringTestStart => 0x17 | .ringTestStop => 0x18 | .ringTestInsert => 0x19
  | .ringTestResult => 0x1A | .eventAck => 0x1B | .eventMask => 0x1C | .changeMap => 0x1D | .snapshot => 0x1E
  | .counterRead => 0x1F | .partReset => 0x20

/-- A kind code is a request kind's when it is one of 0x01 to 0x20 (R38). -/
def isRequestKind (code : Byte) : Bool := 1 ≤ code.toNat && code.toNat ≤ 0x20

/-- Who may send a request kind (R26). -/
inductive Senders where
  | signalling | supervisor | either
deriving DecidableEq, Repr

def Kind.senders : Kind → Senders
  | .arrival | .stopReport | .release | .close | .cancel | .departed | .evacuate => .signalling
  | .berthQuery | .alignDetail | .doorQuery | .edgeQuery | .ident => .either
  | .tableWrite | .tableRead | .profileBegin | .profileCar | .profileDelete | .storeSave | .modeEnter | .modeExit
  | .doorCommand | .resetLatch | .ringTestStart | .ringTestStop | .ringTestInsert | .ringTestResult | .eventAck
  | .eventMask | .changeMap | .snapshot | .counterRead | .partReset => .supervisor

/-- Whether a source byte is permitted: neither another value, nor PART, is (R25, checks 2 and 3). -/
def Senders.permit : Senders → Byte → Bool
  | .signalling, src => src == srcSignalling
  | .supervisor, src => src == srcSupervisor
  | .either, src => src == srcSignalling || src == srcSupervisor

/-- The refusal codes (R28). -/
inductive Code where
  | wrongState | range | notPermitted | overridden | berthOccupied | overlap | inUse | noSpace | profileInvalid
  | tooManyDoors | notConfigured | busy | unknownKind
deriving DecidableEq, Repr

/-- The value of a refusal code (R37). -/
def Code.value : Code → Byte
  | .wrongState => 0x01 | .range => 0x02 | .notPermitted => 0x03 | .overridden => 0x04 | .berthOccupied => 0x05
  | .overlap => 0x06 | .inUse => 0x07 | .noSpace => 0x08 | .profileInvalid => 0x09 | .tooManyDoors => 0x0A
  | .notConfigured => 0x0B | .busy => 0x0C | .unknownKind => 0x0D

/-- The REPORT kinds (R38). -/
def kindBerthStatus : Byte := 0x40
def kindDeparturePermit : Byte := 0x41
def kindEdgeStatus : Byte := 0x42
def kindRingTestReport : Byte := 0x43

/-- The EVENT kinds (R38, R206). -/
inductive EventKind where
  | doorChange | berthChange | obstructed | effortTrip | gapOccupied | intrusion | zoneStuck | manualRelease | keyRefused
  | commLost | commRecovered | doorFault | proofTimeout | creep | modeChange | ringState
deriving DecidableEq, Repr

/-- The place of an event kind in the event mask (R39). -/
def EventKind.idx : EventKind → Fin 16
  | .doorChange => 0 | .berthChange => 1 | .obstructed => 2 | .effortTrip => 3 | .gapOccupied => 4 | .intrusion => 5
  | .zoneStuck => 6 | .manualRelease => 7 | .keyRefused => 8 | .commLost => 9 | .commRecovered => 10 | .doorFault => 11
  | .proofTimeout => 12 | .creep => 13 | .modeChange => 14 | .ringState => 15

/-- The kind code of an event: flag n of the mask stands for code 0x60 + n (R39). -/
def EventKind.code (e : EventKind) : Byte := BitVec.ofNat 8 (0x60 + e.idx.val)

def berthCode : BerthId → Nat
  | .A => 0 | .B => 1
def Zone.code : Zone → Nat
  | .front => 0 | .rear => 1
def Span.code : Span → Nat
  | .front => 0 | .rear => 1 | .full => 2
def BerthState.code : BerthState → Nat
  | .vacant => 0 | .announced => 1 | .berthed => 2 | .released => 3 | .proving => 4 | .proven => 5
def Verdict.code : Verdict → Nat
  | .good => 0 | .partly => 1 | .none => 2
def CloseCause.code : CloseCause → Nat
  | .order => 0 | .creep => 1 | .moving => 2 | .panel => 3
def DoorState.code : DoorState → Nat
  | .unknown => 0 | .outOfService => 1 | .closed => 2 | .opening => 3 | .opened => 4 | .closing => 5 | .reopening => 6
  | .held => 7 | .releasedManual => 8 | .fault => 9
def HeldCause.code : HeldCause → Nat
  | .obstructed => 0 | .openTrip => 1 | .startOpen => 2 | .commRecovered => 3 | .manualRestored => 4
def FaultCause.code : FaultCause → Nat
  | .commLost => 0 | .lockNotProven => 1 | .lockLost => 2 | .motionTimeout => 3 | .unitFault => 4 | .driveOverload => 5
def Order.code : Order → Nat
  | .none => 0 | .opn => 1 | .close => 2 | .stop => 3
def LeafClass.code : LeafClass → Nat
  | .closed => 0 | .opening => 1 | .opened => 2 | .closing => 3 | .stopped => 4 | .unknown => 5
def CommState.code : CommState → Nat
  | .noReply => 0 | .live => 1 | .holding => 2 | .lost => 3
def OverrideKind.code : OverrideKind → Nat
  | .maint => 0 | .test => 1 | .evac => 2 | .fire => 3
def RingState.code : RingState → Nat
  | .intact => 0 | .openRing => 1
def TestStatus.code : TestStatus → Nat
  | .idle => 0 | .run => 1 | .finished => 2 | .abort => 3
def ResetKind.code : ResetKind → Nat
  | .powerOn => 0 | .supplyDip => 1 | .resetLine => 2 | .linkReset => 3
def ConfigState.code : ConfigState → Nat
  | .configured => 0 | .unconfigured => 1
def ImageState.code : ImageState → Nat
  | .valid => 0 | .invalid => 1
def SaveState.code : SaveState → Nat
  | .idle => 0 | .saving => 1
def ProfileState.code : ProfileState → Nat
  | .empty => 0 | .building => 1 | .valid => 2
def GapResponse.code : GapResponse → Nat
  | .holdDeparture => 0 | .reopen => 1
def FireScope.code : FireScope → Nat
  | .alignedOnly => 0 | .allInService => 1
def PanelsFitted.code : PanelsFitted → Nat
  | .none => 0 | .front => 1 | .rear => 2 | .both => 3
def FrameKind.code : FrameKind → Byte
  | .normal => 0x00 | .test => 0x01

/-- An open reason set as a bit map, in the order of R112. -/
def Reasons.members (r : Reasons) : List Bool := [r.release, r.key, r.fire, r.evac, r.maint]

/-- Leaf class values 6 and 7 are read as UNKNOWN (R41). -/
def LeafClass.ofCode : Nat → LeafClass
  | 0 => .closed | 1 => .opening | 2 => .opened | 3 => .closing | 4 => .stopped | _ => .unknown

/-! ## Framing (R36) -/

/-- The bytes of a telegram the part sends, between sync and check. -/
def Telegram.body (t : Telegram) : List Byte :=
  [t.cls.code, srcPart, t.kind, BitVec.ofNat 8 t.payload.length] ++ t.payload

/-- A telegram as it goes out on the line. -/
def Telegram.wire (t : Telegram) : List Byte := [0xC3, 0x3C] ++ t.body ++ encWord (crc16 t.body)

/-! ## Bits of a reply slot (R41) -/

def Reply.leaf (r : Reply) : LeafClass := LeafClass.ofCode (r.status.toNat % 8)
def Reply.lock (r : Reply) : Bool := r.status.getLsbD 3
def Reply.faultCode (r : Reply) : BitVec 4 := r.status.extractLsb' 4 4
def Reply.manual (r : Reply) : Bool := r.keys.getLsbD 0
def Reply.staffKey (r : Reply) : Bool := r.keys.getLsbD 1
def Reply.isoKey (r : Reply) : Bool := r.keys.getLsbD 2
def Reply.sensor (r : Reply) (z : ZoneId) : Bool := r.sensors.getLsbD z.idx.val
def Reply.panelKey (r : Reply) : Bool := r.keys.getLsbD 1
def Reply.openButton (r : Reply) : Bool := r.keys.getLsbD 4
def Reply.closeButton (r : Reply) : Bool := r.keys.getLsbD 5
def Reply.resetButton (r : Reply) : Bool := r.keys.getLsbD 6

/-- The status of a door unit carried by its reply, but for the isolation key (R95, step 3). -/
def Reply.unitStatus (r : Reply) : UnitStatus :=
  { leaf := r.leaf, lock := r.lock, faultCode := r.faultCode, manual := r.manual }

/-- The valid reply that slot i of a received copy holds, if any: its check is good and its address is its slot (R41, R90).
The copy is a 2-byte header, 50 order slots of 5 bytes and 50 reply slots of 8 bytes (R40). -/
def replyAt (copy : List Byte) (i : SlotNo) : Option Reply :=
  match (copy.drop (252 + 8 * i.val)).take 8 with
  | [a, b1, b2, b3, b4, b5, b6, chk] =>
    if a.toNat = i.val ∧ crc8 [a, b1, b2, b3, b4, b5, b6] = chk then
      some { status := b1, current := b2, sensors := b3, keys := b4, echo := b5 ++ b6 }
    else none
  | _ => none

/-- One order slot as it goes out: address, order, test word, check (R40). -/
def OrderSlot.wire (o : OrderSlot) (i : SlotNo) : List Byte :=
  let b := [BitVec.ofNat 8 i.val, o.order] ++ encWord o.testWord
  b ++ [crc8 b]

/-- The 652 bytes of a frame: header, order slots, and reply slots of 0xFF (R40). -/
def frameWire (kind : FrameKind) (cycleNo : Byte) (frame : Vector OrderSlot 50) : List Byte :=
  [kind.code, cycleNo] ++ (allSlots.flatMap fun i => (frame[i]).wire i) ++ List.replicate 400 0xFF

end Sys2Proof.Machine
end

