-- ==== Sys2Proof/Machine/Ops.lean ====
section
/-! DEFINITION. The named operations every block shares: reading and writing one record of the State, counters that
saturate, the transmit queue (R30, R31), and events (R206). -/

namespace Sys2Proof.Machine

/-! ## One record at a time -/

def State.door (s : State) (d : DoorNo) : Door := s.doors[d]
def State.setDoor (s : State) (d : DoorNo) (r : Door) : State := { s with doors := s.doors.set d r }
def State.zonesOf (s : State) (d : DoorNo) : DoorZones := s.zones[d]
def State.setZones (s : State) (d : DoorNo) (z : DoorZones) : State := { s with zones := s.zones.set d z }
def State.zone (s : State) (d : DoorNo) (z : ZoneId) : Option ZoneRec := (s.zonesOf d)[z.idx]
def State.setZone (s : State) (d : DoorNo) (z : ZoneId) (r : Option ZoneRec) : State :=
  s.setZones d ((s.zonesOf d).set z.idx r)

def State.berth (s : State) : BerthId → Berth
  | .A => s.berthA
  | .B => s.berthB
def State.setBerth (s : State) (b : BerthId) (r : Berth) : State :=
  match b with
  | .A => { s with berthA := r }
  | .B => { s with berthB := r }
def otherBerth : BerthId → BerthId
  | .A => .B
  | .B => .A
def allBerths : List BerthId := [.A, .B]

def State.loop (s : State) : Zone → Bool
  | .front => s.loopFront
  | .rear => s.loopRear
def State.setLoop (s : State) (z : Zone) (v : Bool) : State :=
  match z with
  | .front => { s with loopFront := v }
  | .rear => { s with loopRear := v }

def State.panel (s : State) : Zone → Option Panel
  | .front => s.ou.panelFront
  | .rear => s.ou.panelRear
def State.setPanel (s : State) (z : Zone) (p : Option Panel) : State :=
  match z with
  | .front => { s with ou := { s.ou with panelFront := p } }
  | .rear => { s with ou := { s.ou with panelRear := p } }

def State.key (s : State) (d : DoorNo) : KeyState := s.ou.keys[d]
def State.setKey (s : State) (d : DoorNo) (k : KeyState) : State :=
  { s with ou := { s.ou with keys := s.ou.keys.set d k } }

def State.settings (s : State) : Settings := s.ts.tables.settings
def State.pdt (s : State) (d : DoorNo) : PdtEntry := s.ts.tables.pdt[d]
def State.driveClass (s : State) (d : DoorNo) : Option DriveClass := s.ts.tables.classes[(s.pdt d).driveClass]
def State.sensing (s : State) (d : DoorNo) : Option SensingProfile := s.ts.tables.profiles[(s.pdt d).profile]
def State.stock (s : State) (i : Fin 16) : StockProfile := s.ts.tables.stock[i]
def State.setTables (s : State) (t : Tables) : State := { s with ts := { s.ts with tables := t } }

def State.comm (s : State) (i : SlotNo) : Option CommRec := s.drm.comm[i]
def State.setComm (s : State) (i : SlotNo) (c : Option CommRec) : State :=
  { s with drm := { s.drm with comm := s.drm.comm.set i c } }
def State.setTest (s : State) (t : RingTest) : State := { s with drm := { s.drm with test := t } }

/-- The ring slot of a door, and of a panel (chapter 0, Indices). -/
def slotOfDoor (d : DoorNo) : SlotNo := d.castLE (by decide)
def slotOfPanel : Zone → SlotNo
  | .front => 48
  | .rear => 49
/-- A slot below 48 is a door's. -/
def doorOfSlot (i : SlotNo) : Option DoorNo := if h : i.val < 48 then some ⟨i.val, h⟩ else none
/-- Slot 48 is the FRONT panel's and slot 49 the REAR panel's. -/
def panelOfSlot (i : SlotNo) : Option Zone := if i.val = 48 then some .front else if i.val = 49 then some .rear else none

/-! ## Counters: 16 bits wide, stopping at 65 535 (chapter 0, Numbers) -/

def satInc (n : Nat) : Nat := min 65535 (n + 1)

def Door.count (r : Door) (f : DoorCounters → DoorCounters) : Door := { r with counters := f r.counters }

def DoorCounters.incOpenCycles (c : DoorCounters) : DoorCounters := { c with openCycles := satInc c.openCycles }
def DoorCounters.incReopens (c : DoorCounters) : DoorCounters := { c with reopens := satInc c.reopens }
def DoorCounters.incEffortTrips (c : DoorCounters) : DoorCounters := { c with effortTrips := satInc c.effortTrips }
def DoorCounters.incCommMisses (c : DoorCounters) : DoorCounters := { c with commMisses := satInc c.commMisses }
def DoorCounters.incDisagree (c : DoorCounters) : DoorCounters := { c with disagree := satInc c.disagree }
def DoorCounters.incGapEvents (c : DoorCounters) : DoorCounters := { c with gapEvents := satInc c.gapEvents }
def DoorCounters.incManualReleases (c : DoorCounters) : DoorCounters :=
  { c with manualReleases := satInc c.manualReleases }

/-- Adds 1 to a counter of a live door record. -/
def State.countDoor (s : State) (d : DoorNo) (f : DoorCounters → DoorCounters) : State :=
  s.setDoor d ((s.door d).count f)

/-! ## The transmit queue (R30, R31) -/

/-- A free transmitter takes the oldest telegram and begins to send it; the queue then no longer holds it (R30). -/
def LineLink.pump (l : LineLink) : LineLink :=
  match l.sending, l.txQueue with
  | none, t :: rest => { l with sending := some t.wire, txQueue := rest }
  | _, _ => l

/-- The queue's places for each class: 16, and 12 for events (R31). -/
def TxClass.places : TxClass → Nat
  | .answer | .report => 16
  | .event => 12

/-- Whether a telegram of a class is admitted at this moment (R31). -/
def LineLink.admits (l : LineLink) (c : TxClass) : Bool := l.link == .up && l.txQueue.length < c.places

/-- A telegram offered to the transmit queue is admitted, or dropped; an answer or report dropped while the link is UP adds
to TX_DROPS (R31). What a dropped event does is the Event Reporter's (`raise`). -/
def LineLink.offer (l : LineLink) (t : Telegram) : LineLink :=
  if l.admits t.cls then LineLink.pump { l with txQueue := l.txQueue ++ [t] }
  else if l.link = .up ∧ t.cls ≠ .event then { l with txDrops := satInc l.txDrops }
  else l

/-- Offers an answer or a report. -/
def State.offer (s : State) (t : Telegram) : State := { s with lli := s.lli.offer t }

/-- An event handed to the Event Reporter (R206): a masked kind makes no telegram; an event that is dropped sets
EVENTS_LOST. -/
def State.raise (s : State) (e : EventKind) (subject : Nat) (items : List Byte) : State :=
  if s.er.mask[e.idx] then s
  else
    { s with
      lli := s.lli.offer { cls := .event, kind := e.code, payload := enc1 subject ++ items }
      er := { s.er with eventsLost := s.er.eventsLost || !s.lli.admits .event } }

/-- The subject of an event of the edge or the ring (R39). -/
def edgeSubject : Nat := 0xFF

/-! ## Presence of overrides (R172) -/

def State.present (s : State) (k : OverrideKind) : Bool := k ∈ s.ou.list

/-- The top entry of the override list; none is NORMAL (R172). -/
def State.topMode (s : State) : Option OverrideKind := s.ou.list.getLast?

/-- The code of the effective mode: NORMAL is 4 (R39). -/
def State.modeCode (s : State) : Nat := (s.topMode.map OverrideKind.code).getD 4

/-! ## Doors in service, doors of a span -/

/-- A door is judged in service by its record (R113). -/
def State.inService (s : State) (d : DoorNo) : Bool := (s.door d).state != .outOfService

/-- A PDT entry in service whose last known isolation key is off, or is not known (R113). -/
def State.fitForService (s : State) (d : DoorNo) : Bool := (s.pdt d).inService && (s.door d).isoKey != some true

/-- Whether a berth is not VACANT and its span contains the zone: it holds the zone (R188). -/
def Berth.holds (b : Berth) (z : Zone) : Bool := b.state != .vacant && (b.span.map (Span.has · z)).getD false

/-- The berth that holds a zone, if any (R188). -/
def State.holder (s : State) (z : Zone) : Option BerthId := allBerths.find? fun b => (s.berth b).holds z

/-- The zone of a door is its PDT entry's (R43, R195). -/
def State.zoneOf (s : State) (d : DoorNo) : Zone := (s.pdt d).zone

/-- A door that lies in the span of a berth that is not VACANT (R159, R167). -/
def State.held (s : State) (d : DoorNo) : Bool := (s.holder (s.zoneOf d)).isSome

/-- The doors of a platform zone, in ascending order. -/
def State.zoneDoors (s : State) (z : Zone) : List DoorNo := allDoors.filter fun d => s.zoneOf d == z

/-- The span doors of a berth (R43), in ascending order, in which one CLOSE or protective close works them
(notes/assumptions/32.md). -/
def State.spanDoors (s : State) (b : BerthId) : List DoorNo :=
  allDoors.filter fun d => (((s.berth b).span.map (Span.has · (s.zoneOf d))).getD false)

/-- The doors of a berth's platform enable set, in ascending order, in which one RELEASE, and the FIRE and EVAC of one computation,
work them (notes/assumptions/32.md). -/
def Berth.enableDoors (b : Berth) : List DoorNo := allDoors.filter fun d => b.platformEnable[d]

/-- Whether a door is in the platform enable set of either berth. -/
def State.enabled (s : State) (d : DoorNo) : Bool := s.berthA.platformEnable[d] || s.berthB.platformEnable[d]

/-- Runs an act on each door of a list, in its order. -/
def forDoors (ds : List DoorNo) (act : DoorNo → State → State) (s : State) : State := ds.foldl (fun s d => act d s) s

end Sys2Proof.Machine
end

