-- ==== Sys2Proof/Machine/Reports.lean ====
section
/-! DEFINITION. The contents of the reports and of the answers that read a record, item by item (R67, R87, R107, R111, R139,
R202, R209, R210, R213, R214), and the telegrams that carry them. -/

namespace Sys2Proof.Machine

/-- The content of a BERTH_STATUS (R67). -/
def berthStatusData (id : BerthId) (b : Berth) : List Byte :=
  enc1 (berthCode id) ++ enc1 b.state.code ++ encOpt1 (b.span.map Span.code) ++ enc2 (b.trainNumber.getD 0)
    ++ encOpt1 (b.verdict.map Verdict.code) ++ encOptInt2 b.eUsed ++ encFlag b.saturated
    ++ encOpt1 (b.closeCause.map CloseCause.code) ++ enc1 b.nEligible ++ enc1 b.nAligned
    ++ encMap b.platformEnable.toList ++ encMap b.trainEnable.toList

def berthStatusReport (id : BerthId) (b : Berth) : Telegram :=
  { cls := .report, kind := kindBerthStatus, payload := berthStatusData id b }

/-- Why a permit is withdrawn (R201). -/
inductive WithdrawCause where
  | proofLost | released | departed
deriving DecidableEq, Repr

def WithdrawCause.code : WithdrawCause → Nat
  | .proofLost => 0 | .released => 1 | .departed => 2

/-- A DEPARTURE_PERMIT report of a grant (R202): the close cause is carried and the withdrawal cause is absent. -/
def permitGranted (id : BerthId) (b : Berth) : Telegram :=
  { cls := .report, kind := kindDeparturePermit,
    payload := enc1 (berthCode id) ++ enc1 0 ++ enc2 (b.trainNumber.getD 0) ++ encOpt1 (b.span.map Span.code) ++ absent1
      ++ encOpt1 (b.closeCause.map CloseCause.code) }

/-- A DEPARTURE_PERMIT report of a withdrawal (R202): the close cause is absent. -/
def permitWithdrawn (id : BerthId) (b : Berth) (c : WithdrawCause) : Telegram :=
  { cls := .report, kind := kindDeparturePermit,
    payload := enc1 (berthCode id) ++ enc1 1 ++ enc2 (b.trainNumber.getD 0) ++ encOpt1 (b.span.map Span.code) ++ enc1 c.code
      ++ absent1 }

/-- The content of an EDGE_STATUS as it stands (R210): DEGRADED is listed before STEADY, closed before open. -/
def edgeStatusData (s : State) : List Byte :=
  enc1 s.ts.config.code ++ enc1 (if s.lli.degraded then 0 else 1)
    ++ enc1 s.ou.list.length ++ s.ou.list.flatMap (fun k => enc1 k.code) ++ enc1 s.modeCode
    ++ enc1 (if s.loopFront then 0 else 1) ++ enc1 (if s.loopRear then 0 else 1)
    ++ enc1 s.drm.ring.code ++ encOpt1 s.drm.breakPos ++ encFlag s.er.eventsLost ++ enc1 s.er.cause.code ++ [s.er.seq]

def edgeStatusReport (s : State) : Telegram :=
  { cls := .report, kind := kindEdgeStatus, payload := edgeStatusData s }

/-- The admission of an EDGE_STATUS clears EVENTS_LOST and the degraded flag (R34, R210). -/
def State.edgeStatusAdmitted (s : State) : State :=
  { s with lli := { s.lli with degraded := false }, er := { s.er with eventsLost := false } }

/-- Offers an EDGE_STATUS report; one that is dropped clears neither flag (R34, R210). -/
def State.offerEdgeStatus (s : State) : State :=
  if s.lli.admits .report then (s.offer (edgeStatusReport s)).edgeStatusAdmitted else s.offer (edgeStatusReport s)

/-- The slots that hold verdict FAIL: none but at END (R105, R107). -/
def RingTest.failed (t : RingTest) : List TestSlot := t.slots.filter fun x => x.verdict == some false

/-- A RING_TEST_REPORT (R107). The slots failed are a number given with no range, of 4 bytes (R39). -/
def ringTestReport (t : RingTest) : Telegram :=
  { cls := .report, kind := kindRingTestReport,
    payload := enc1 t.status.code ++ enc1 t.cyclesDone ++ enc1 t.slots.length ++ enc4 t.failed.length
      ++ encOpt1 (t.failed.head?.map fun x => x.slot.val) }

/-- The inserted count RING_TEST_RESULT gives for a slot: during RUN the one reached at the last test cycle close (R111). -/
def RingTest.insertedShown (t : RingTest) (x : TestSlot) : Nat := if t.status = .run then x.reached else x.inserted

/-- The answer data of RING_TEST_RESULT (R111), the slots failed in 4 bytes as in R107. -/
def ringTestResultData (t : RingTest) (first count : Nat) : List Byte :=
  let from_ := t.slots.filter fun x => first ≤ x.slot.val
  let shown := from_.take count
  enc1 t.status.code ++ enc1 t.cyclesDone ++ enc1 t.slots.length ++ enc4 t.failed.length ++ enc1 shown.length
    ++ encFlag (shown.length != 0 && shown.length < from_.length)
    ++ shown.flatMap fun x => enc1 x.slot.val ++ enc1 x.errors ++ enc1 (t.insertedShown x)
        ++ encOpt1 (x.verdict.map fun pass => if pass then 0 else 1)

/-- The answer data of ALIGN_DETAIL (R87). -/
def alignDetailData (id : BerthId) (b : Berth) (first count : Nat) : List Byte :=
  let from_ := b.matchList.filter fun m => first ≤ m.p.val
  let shown := from_.take count
  enc1 (berthCode id) ++ enc1 b.state.code ++ encOpt1 (b.verdict.map Verdict.code) ++ encOptInt2 b.eUsed ++ encFlag b.saturated
    ++ enc1 b.nEligible ++ enc1 b.nAligned ++ enc1 shown.length
    ++ encFlag (shown.length != 0 && shown.length < from_.length)
    ++ shown.flatMap fun m => enc1 m.p.val ++ enc1 m.t ++ enc2 m.overlap ++ encInt2 m.residual
        ++ match b.trainDoors[m.t]? with
           | some e => enc1 e.unit ++ enc1 e.car ++ enc1 e.door
           | none => absent1 ++ absent1 ++ absent1

/-- The held cause in HELD, the fault cause in FAULT, absent otherwise (R139, R206). -/
def Door.causeCode (r : Door) : Option Nat :=
  match r.state with
  | .held => r.heldCause.map HeldCause.code
  | .fault => r.faultCause.map FaultCause.code
  | _ => none

/-- The timer that runs for a door, by its place in the list of R112, with the duration it was started with. -/
def Door.runningTimer (r : Door) : Option (Nat × Nat) :=
  match r.motion, r.lockProof, r.reclose with
  | .running ms, _, _ => some (0, ms)
  | _, .running ms, _ => some (1, ms)
  | _, _, .running ms => some (2, ms)
  | _, _, _ => none

/-- How DOOR_QUERY reports a sensing zone (R139): not fitted, CLEAR, OCCUPIED, STUCK, OCCUPIED forced. A zone is fitted by its PDT
entry (R152); a fitted zone without a record, its entry out of service, is CLEAR (R153). -/
def zoneReport (fitted : Bool) : Option ZoneRec → Nat
  | none => if fitted then 1 else 0
  | some r => if fitted = false then 0 else match r.state with
    | .clear => 1
    | .occupied => if r.forced then 4 else 2
    | .stuck => 3

/-- How DOOR_QUERY reports a comm state: "not configured" follows the four states (R139). -/
def commReport : Option CommRec → Nat
  | none => 4
  | some c => c.state.code

/-- The time left on a running timer is free, within the duration the timer was started with (notes/assumptions/4.md). -/
def timeLeftOf (n ms : Nat) : Nat := min (Config.timeLeft n) ms

/-- The answer data of DOOR_QUERY (R139). -/
def doorQueryData (s : State) (d : DoorNo) : List Byte :=
  let r := s.door d
  enc1 d.val ++ encFlag (s.pdt d).inService ++ enc1 r.state.code ++ encOpt1 r.causeCode ++ encMap r.reasons.members
    ++ enc1 r.order.code ++ enc1 r.reopenCount
    ++ (match r.lastStatus with
        | some u => enc1 u.leaf.code ++ encFlag u.lock ++ enc1 u.faultCode.toNat ++ encFlag u.manual
        | none => absent1 ++ absent1 ++ absent1 ++ absent1)
    ++ (r.isoKey.elim absent1 encFlag)
    ++ enc1 (commReport (s.comm (slotOfDoor d)))
    ++ (match r.runningTimer with
        | some (code, ms) => enc1 code ++ enc4 (timeLeftOf s.freeSeq ms)
        | none => absent1 ++ absent4)
    ++ enc4 r.effort ++ ((s.driveClass d).elim absent4 fun c => enc4 c.limit) ++ enc1 r.blank
    ++ allZoneIds.flatMap (fun z => enc1 (zoneReport (s.pdt d).fitted[z.idx] (s.zone d z)))
    ++ (if s.berthA.platformEnable[d] then enc1 0 else if s.berthB.platformEnable[d] then enc1 1 else absent1)

/-- The answer data of CHANGE_MAP (R209). -/
def changeMapData (e : EventReporter) : List Byte :=
  encMap e.doorFlags.toList ++ encMap [e.berthFlagA, e.berthFlagB] ++ encFlag e.eventsLost

/-- One record of COUNTER_READ: the door number and its seven counters, in the order of R136 (R213). -/
def counterRecord (e : EventReporter) (d : DoorNo) : List Byte :=
  let c := e.snap.doors[d]
  enc1 d.val ++ enc2 c.openCycles ++ enc2 c.reopens ++ enc2 c.effortTrips ++ enc2 c.commMisses ++ enc2 c.disagree
    ++ enc2 c.gapEvents ++ enc2 c.manualReleases

/-- The answer data of COUNTER_READ (R213); the number returned takes the one byte of the count asked for
(notes/assumptions/17.md). -/
def counterReadData (e : EventReporter) (first count : Nat) : List Byte :=
  let shown := (allDoors.filter fun d => first ≤ d.val).take count
  [e.seq] ++ enc2 e.snap.crcErrors ++ enc2 e.snap.lengthErrors ++ enc2 e.snap.txDrops ++ enc1 shown.length
    ++ encFlag (first + shown.length < 48) ++ shown.flatMap (counterRecord e)

/-- The answer data of IDENT: vendor 0x4546, part 6240, revision 1.0 (R214). -/
def identData : List Byte := enc2 0x4546 ++ enc2 6240 ++ enc1 1 ++ enc1 0

/-- A PDT entry from field 3 on (R2). -/
def pdtData (e : PdtEntry) : List Byte :=
  encFlag e.inService ++ enc1 e.zone.code ++ enc4 e.centre ++ enc2 e.width ++ enc1 e.driveClass.val ++ enc1 e.profile.val
    ++ encMap e.fitted.toList

/-- A Drive Class entry: its loaded flag first, and an unloaded entry with its fields absent (R5, R39). -/
def driveClassData : Option DriveClass → List Byte
  | some c => encFlag true ++ enc1 c.iNom ++ enc1 c.iHard ++ enc1 c.k ++ enc1 c.startBlank
  | none => encFlag false ++ absent1 ++ absent1 ++ absent1 ++ absent1

/-- A Sensing Profile entry, likewise (R7, R39). -/
def sensingData : Option SensingProfile → List Byte
  | some p => encFlag true ++ enc1 p.n ++ enc1 p.kOn ++ enc1 p.kOff ++ enc2 p.stuckLimit ++ enc1 p.gapResponse.code
      ++ encFlag p.intrusionReport
  | none => encFlag false ++ absent1 ++ absent1 ++ absent1 ++ absent2 ++ absent1 ++ absent1

/-- The settings block from field 3 on (R9). -/
def settingsData (c : Settings) : List Byte :=
  enc1 c.platformSide ++ enc4 c.zsplit ++ enc4 c.zend ++ enc4 c.stopMarkFront ++ enc4 c.stopMarkRear ++ enc4 c.stopMarkFull
    ++ enc2 c.minPassage ++ enc2 c.creepTol ++ enc1 c.ringPeriod ++ enc1 c.holdCycles ++ enc2 c.linkTimeout
    ++ enc1 c.openTimeLimit ++ enc1 c.closeTimeLimit ++ enc2 c.lockProofTime ++ enc2 c.recloseDelay ++ enc1 c.reopenLimit
    ++ enc1 c.proofTime ++ enc1 c.fireScope.code ++ encFlag c.autoSnapshot ++ enc1 c.panelsFitted.code

/-- The header of a stock profile (R13). -/
def profileHeaderData (p : StockProfile) (referenced : Bool) : List Byte :=
  enc1 p.state.code ++ enc1 p.cars.length ++ (if p.state = .empty then absent2 else enc2 p.allowance)
    ++ encMap (p.cars.map Option.isSome) ++ enc4 p.doorsHeld ++ encFlag referenced

def doorListData (ds : List ProfileDoor) : List Byte :=
  enc1 ds.length ++ ds.flatMap fun e => enc2 e.offset ++ enc2 e.width

/-- A car; an unwritten one with its length absent and two empty lists (R39). -/
def carData : Option Car → List Byte
  | some c => enc2 c.length ++ doorListData c.side1 ++ doorListData c.side2
  | none => absent2 ++ doorListData [] ++ doorListData []

/-- The store record (R13). -/
def storeData (t : TableStore) : List Byte :=
  enc1 t.config.code ++ enc1 t.imageState.code ++ enc1 t.saveState.code ++ enc4 t.freeCars ++ enc4 t.freeDoors

end Sys2Proof.Machine
end

