-- ==== Sys2Proof/Machine/Flags.lean ====
section
/-! DEFINITION. The readings the part makes of its own records: the loop condition (R195), the proof condition (R197), the
panel lamps (R193), a free doorway (R126), and the change flags of the Event Reporter (R205). -/

namespace Sys2Proof.Machine

/-- A zone's loop is to be closed: the part is CONFIGURED and every in-service door of the zone is CLOSED (R195). -/
def State.loopCondition (s : State) (z : Zone) : Bool :=
  s.ts.config == .configured && (s.zoneDoors z).all fun d => !s.inService d || (s.door d).state == .closed

/-- A gap zone blocks proof when it is OCCUPIED, forced or not, or STUCK (R168, R197). -/
def ZoneRec.blocks (r : ZoneRec) : Bool := r.state != .clear

/-- Some fitted gap zone of the door blocks (R197). -/
def State.gapBlocked (s : State) (d : DoorNo) : Bool :=
  allZoneIds.any fun z => z.isGap && ((s.zone d z).map ZoneRec.blocks).getD false

/-- The proof condition of a berth (R197): the loop of every zone of its span is closed, and no gap zone of an in-service
span door blocks. -/
def State.proofCondition (s : State) (b : BerthId) : Bool :=
  (match (s.berth b).span with
   | some sp => (!sp.has .front || s.loopFront) && (!sp.has .rear || s.loopRear)
   | none => false)
    && (s.spanDoors b).all fun d => !s.inService d || !s.gapBlocked d

/-- The doorway is free for a reclose (R126): TH and ED are not OCCUPIED, and no gap zone is where GAP_RESPONSE is REOPEN. -/
def State.doorwayFree (s : State) (d : DoorNo) : Bool :=
  allZoneIds.all fun z =>
    (z.isGap && (s.sensing d).map SensingProfile.gapResponse != some .reopen)
      || (s.zone d z).map ZoneRec.state != some .occupied

/-- Some sensing zone of the door is STUCK. -/
def State.hasStuck (s : State) (d : DoorNo) : Bool :=
  allZoneIds.any fun z => (s.zone d z).map ZoneRec.state == some .stuck

/-- The DOORS_OPEN lamp (R193). -/
def State.doorsOpenLamp (s : State) (z : Zone) : Bool :=
  (s.zoneDoors z).any fun d => s.inService d && (s.door d).state != .closed

/-- The ALARM lamp (R193). -/
def State.alarmLamp (s : State) (z : Zone) : Bool :=
  (s.zoneDoors z).any fun d =>
    (s.door d).state == .held || (s.door d).state == .fault || (s.door d).state == .releasedManual || s.hasStuck d

/-- Sets a fitted panel's three lamps from the state standing at this moment (R193). -/
def State.setLamps (s : State) (z : Zone) : State :=
  s.setPanel z ((s.panel z).map fun p =>
    { p with lampProven := s.loop z, lampDoorsOpen := s.doorsOpenLamp z, lampAlarm := s.alarmLamp z })

/-- The Door Supervisor hands the Event Reporter a changed door: its change flag is set, and DOOR_CHANGE offered (R116,
R205, R206). -/
def State.reportDoor (s : State) (d : DoorNo) : State :=
  ({ s with er := { s.er with doorFlags := s.er.doorFlags.set d true } }).raise .doorChange d.val
    (enc1 (s.door d).state.code ++ encOpt1 (s.door d).causeCode)

def EventReporter.setBerthFlag (e : EventReporter) (b : BerthId) (v : Bool) : EventReporter :=
  match b with
  | .A => { e with berthFlagA := v }
  | .B => { e with berthFlagB := v }

/-- A change of a berth's state is handed to the Event Reporter: its change flag is set, and BERTH_CHANGE offered (R45, R205,
R206). -/
def State.reportBerth (s : State) (b : BerthId) (st : BerthState) (cause : Option CloseCause) (train : Nat) : State :=
  ({ s with er := s.er.setBerthFlag b true }).raise .berthChange (berthCode b)
    (enc1 st.code ++ encOpt1 (cause.map CloseCause.code) ++ enc2 train)

/-- Reports the present state of a berth as a change. -/
def State.reportBerthNow (s : State) (b : BerthId) : State :=
  s.reportBerth b (s.berth b).state (s.berth b).closeCause ((s.berth b).trainNumber.getD 0)

/-- The one BERTH_STATUS of an event that changed a berth's state or computed its alignment (R45). -/
def State.offerBerthStatus (s : State) (b : BerthId) : State := s.offer (berthStatusReport b (s.berth b))

end Sys2Proof.Machine
end

