-- ==== Sys2Proof/Machine/Proof.lean ====
section
/-! DEFINITION. Departure proof (chapter 10): the loop outputs and their judgement, gaining and losing the proof, the
permit, the entry into PROVING, and the three hand-overs of a changed door record (R116). -/

namespace Sys2Proof.Machine

/-- The proof is gained (R199, steps 1 to 3). -/
def State.gainProof (s : State) (b : BerthId) : State :=
  let s := s.setBerth b { s.berth b with state := .proven, proofTimer := .stopped, permit := .granted }
  s.offer (permitGranted b (s.berth b))

/-- The proof is lost (R200, steps 1 to 4). -/
def State.loseProof (s : State) (b : BerthId) : State :=
  let s := s.setBerth b
    { s.berth b with state := .proving, permit := .withdrawn, proofTimer := .running (s.settings.proofTime * 1000) }
  s.offer (permitWithdrawn b (s.berth b) .proofLost)

/-- The Berth Unit evaluates the proof condition of a berth (R198). -/
def State.evaluateProof (s : State) (b : BerthId) : State :=
  if (s.berth b).state = .proving ∧ s.proofCondition b = true then s.gainProof b
  else if (s.berth b).state = .proven ∧ s.proofCondition b = false then s.loseProof b
  else s

/-- An evaluation handed to the Berth Unit by another block: a change of the berth's state is reported and one BERTH_STATUS
is offered (R45, R199 step 4, R200 step 5). -/
def State.handProof (s : State) (b : BerthId) : State :=
  let s' := s.evaluateProof b
  if (s'.berth b).state = (s.berth b).state then s' else (s'.reportBerthNow b).offerBerthStatus b

/-- Evaluates each berth whose span contains the zone (R196, R198). -/
def State.handProofOfZone (s : State) (z : Zone) : State :=
  allBerths.foldl (fun s b => if (((s.berth b).span.map (Span.has · z)).getD false) then s.handProof b else s) s

/-- The Loop Driver judges a zone's loop: a changed loop sets the relay driver at once and is handed to the Berth Unit
(R196). -/
def State.judgeLoop (s : State) (z : Zone) : State :=
  if s.loop z = s.loopCondition z then s else (s.setLoop z (s.loopCondition z)).handProofOfZone z

/-- Both loops are judged (R196). -/
def State.judgeLoops (s : State) : State := (s.judgeLoop .front).judgeLoop .rear

/-- The three hand-overs of a changed door record, in the order of R116: the Loop Driver, the Berth Unit, the Event
Reporter. -/
def State.handDoor (s : State) (d : DoorNo) : State :=
  (((s.judgeLoop (s.zoneOf d)).handProofOfZone (s.zoneOf d)).reportDoor d)

/-- What a hand-over of a door record is about: its state, held cause and fault cause (R116). -/
def Door.standing (r : Door) : DoorState × Option HeldCause × Option FaultCause := (r.state, r.heldCause, r.faultCause)

/-- One event on a door record: when it has changed the door's standing, the record is handed over once, as it ends (R116). -/
def State.doorEvent (s : State) (d : DoorNo) (f : State → State) : State :=
  if ((f s).door d).standing = (s.door d).standing then f s else (f s).handDoor d

/-- A berth enters PROVING with a close cause, and its proof timer starts (R53, R60, R62, R191). -/
def State.enterProving (s : State) (b : BerthId) (c : CloseCause) : State :=
  s.setBerth b { s.berth b with
    state := .proving, closeCause := some c, proofTimer := .running (s.settings.proofTime * 1000) }

/-- The end of an event that has taken a berth into PROVING: its proof condition is evaluated (R63), the changes are
reported and one BERTH_STATUS is offered (R45). -/
def State.finishProving (s : State) (b : BerthId) : State :=
  let s' := s.evaluateProof b
  let s'' := s'.reportBerth b .proving (s.berth b).closeCause ((s.berth b).trainNumber.getD 0)
  let s3 := if (s'.berth b).state = .proven then s''.reportBerthNow b else s''
  s3.offerBerthStatus b

end Sys2Proof.Machine
end

