-- ==== Sys2Proof/Machine/Doors.lean ====
section
/-! DEFINITION. The Door Supervisor (chapter 6): the entries into each state, reasons, motion and the lock, reopen and
reclose, HELD, FAULT, manual release, isolation and return to service. -/

namespace Sys2Proof.Machine

/-! ## Entries into states (R114): every entry stops the timers not listed for it -/

/-- The limits in force for a door's next motion: OPEN_TIME_LIMIT and CLOSE_TIME_LIMIT in milliseconds, and START_BLANK of
its class, if loaded. -/
structure MotionLimits where
  openMs : Nat
  closeMs : Nat
  startBlank : Option Nat

def State.limits (s : State) (d : DoorNo) : MotionLimits :=
  { openMs := s.settings.openTimeLimit * 1000, closeMs := s.settings.closeTimeLimit * 1000,
    startBlank := (s.driveClass d).map DriveClass.startBlank }

/-- The record with every timer stopped and no held or fault cause. -/
def Door.still (r : Door) : Door :=
  { r with motion := .stopped, lockProof := .stopped, reclose := .stopped, heldCause := none, faultCause := none }

/-- OPENING: motion timer for OPEN_TIME_LIMIT, reopen count 0, blank count set (R114, R121, R127, R142). -/
def Door.enterOpening (r : Door) (m : MotionLimits) : Door :=
  { r.still with state := .opening, order := .opn, motion := .running m.openMs, reopenCount := 0,
                 blank := m.startBlank.getD r.blank }

/-- CLOSING: motion timer for CLOSE_TIME_LIMIT, blank count set; the reopen count is kept (R114, R121, R142). -/
def Door.enterClosing (r : Door) (m : MotionLimits) : Door :=
  { r.still with state := .closing, order := .close, motion := .running m.closeMs, blank := m.startBlank.getD r.blank }

/-- REOPENING: the reopen count and REOPENS increase by 1 (R125); motion timer for OPEN_TIME_LIMIT, blank count set. -/
def Door.enterReopening (r : Door) (m : MotionLimits) : Door :=
  { r.still with state := .reopening, order := .opn, motion := .running m.openMs, reopenCount := r.reopenCount + 1,
                 blank := m.startBlank.getD r.blank, counters := r.counters.incReopens }

/-- CLOSED: leaf CLOSED and lock proven (R123). -/
def Door.enterClosed (r : Door) : Door := { r.still with state := .closed, order := .close, reopenCount := 0 }

/-- OPEN: leaf reported OPEN (R122). -/
def Door.enterOpened (r : Door) : Door := { r.still with state := .opened, order := .opn }

/-- The order a held cause gives (R128). -/
def HeldCause.order : HeldCause → Order
  | .obstructed => .opn
  | .openTrip => .stop
  | .startOpen | .commRecovered | .manualRestored => .none

/-- HELD with its cause and that cause's order; the reopen count is kept (R128). -/
def Door.enterHeld (r : Door) (c : HeldCause) : Door :=
  { r.still with state := .held, heldCause := some c, order := c.order }

/-- FAULT: order STOP, reopen count 0, reason set kept (R130). -/
def Door.enterFault (r : Door) (c : FaultCause) : Door :=
  { r.still with state := .fault, faultCause := some c, order := .stop, reopenCount := 0 }

/-- RELEASED_MANUAL: order NONE, reopen count 0, reason set kept; MANUAL_RELEASES increases by 1 (R132, R136). -/
def Door.enterManual (r : Door) : Door :=
  { r.still with state := .releasedManual, order := .none, reopenCount := 0, counters := r.counters.incManualReleases }

/-- OUT_OF_SERVICE: order NONE, reason set emptied, reopen count 0; E and the blank count are kept (R134). -/
def Door.enterOut (r : Door) : Door :=
  { r.still with state := .outOfService, order := .none, reopenCount := 0, reasons := .empty, returning := false }

/-- UNKNOWN, as after reset (R4, R135): order NONE. The last known status, the isolation key, E, the blank count and the counters
keep their values (notes/assumptions/31.md). -/
def Door.enterUnknown (r : Door) : Door :=
  { r.still with state := .unknown, order := .none, reopenCount := 0, reasons := .empty, returning := true }

/-! ## Open reasons (R119, R120) -/

/-- A reason set that becomes non-empty from empty (R120). -/
def Door.reasonsArise (r : Door) (m : MotionLimits) : Door :=
  match r.state with
  | .closed => ({ r with counters := r.counters.incOpenCycles }).enterOpening m
  | .closing | .reopening | .held => r.enterOpening m
  | _ => r

/-- A reason set that becomes empty from non-empty (R120). -/
def Door.reasonsCease (r : Door) (m : MotionLimits) : Door :=
  match r.state with
  | .opening | .opened => r.enterClosing m
  | _ => r

/-- The record after its reason set has become `n` (R120); OUT_OF_SERVICE discards every addition (R119). -/
def Door.withReasons (r : Door) (m : MotionLimits) (n : Reasons) : Door :=
  if r.state = .outOfService then r
  else if r.reasons = .empty ∧ n ≠ .empty then ({ r with reasons := n }).reasonsArise m
  else if r.reasons ≠ .empty ∧ n = .empty then ({ r with reasons := n }).reasonsCease m
  else { r with reasons := n }

/-- One reason is added (`true`) or removed (`false`), as one event on the record (R119). -/
def State.putReason (s : State) (d : DoorNo) (v : Bool) (k : Reason) : State :=
  s.doorEvent d fun s => s.setDoor d ((s.door d).withReasons (s.limits d) ((s.door d).reasons.put v k))

def State.addReason (s : State) (d : DoorNo) (k : Reason) : State := s.putReason d true k

/-- Removes each of the reasons, one after another. -/
def State.removeReasons (s : State) (d : DoorNo) (ks : List Reason) : State := ks.foldl (fun s k => s.putReason d false k) s

/-! ## Faults, holds and triggers -/

/-- Enters FAULT with a cause and offers DOOR_FAULT, but for COMM_LOST, whose event the ring master offers (R130). -/
def State.faultDoor (s : State) (d : DoorNo) (c : FaultCause) : State :=
  let s := s.setDoor d ((s.door d).enterFault c)
  if c = .commLost then s else s.raise .doorFault d.val (enc1 c.code)

/-- A reopen trigger: it acts on a CLOSING door alone, by its reopen count (R125). -/
def State.reopenOrHold (s : State) (d : DoorNo) : State :=
  let r := s.door d
  if r.state ≠ .closing then s
  else if r.reopenCount < s.settings.reopenLimit then s.setDoor d (r.enterReopening (s.limits d))
  else (s.setDoor d (r.enterHeld .obstructed)).raise .obstructed d.val (enc1 r.reopenCount)

/-- A reopen trigger handed by the Sensing Evaluator, one event on the record (R125). -/
def State.reopenTrigger (s : State) (d : DoorNo) : State := s.doorEvent d fun s => s.reopenOrHold d

/-- A latch reset: a HELD door is driven closed, or open where it holds a reason (R129). -/
def State.latchReset (s : State) (d : DoorNo) : State :=
  s.doorEvent d fun s =>
    let r := s.door d
    if r.state ≠ .held then s
    else if r.reasons = .empty then s.setDoor d (({ r with reopenCount := 0 }).enterClosing (s.limits d))
    else s.setDoor d (r.enterOpening (s.limits d))

/-! ## Leaving service (R134, R84, R164, R186) -/

/-- The Berth Unit removes an isolated door from a berth: from the platform enable set, its match record, and that record's
t from the train enable set (R84). -/
def Berth.dropDoor (b : Berth) (d : DoorNo) : Berth :=
  { b with
    platformEnable := b.platformEnable.set d false
    matchList := b.matchList.filter fun m => m.p != d
    trainEnable := (b.matchList.filter fun m => m.p == d).foldl
      (fun v m => if h : m.t < 96 then v.set m.t false else v) b.trainEnable }

/-- A door that leaves service is removed from any platform enable set it is in (R84). -/
def State.dropFromBerths (s : State) (d : DoorNo) : State :=
  allBerths.foldl (fun s b => if (s.berth b).platformEnable[d] then s.setBerth b ((s.berth b).dropDoor d) else s) s

/-- A zone record of a door out of service by its key alone: empty window, CLEAR, the forced flag kept (R164). -/
def ZoneRec.leave (r : ZoneRec) : ZoneRec := { ZoneRec.fresh with forced := r.forced }

/-- The door's zone records on leaving service: discarded with the PDT entry, or cleared (R153, R164). -/
def State.leaveZones (s : State) (d : DoorNo) : State :=
  s.setZones d (if (s.pdt d).inService then (s.zonesOf d).map (Option.map ZoneRec.leave) else Vector.replicate 6 none)

/-- The staff key record on leaving service: a key still on holds no reason; with the PDT entry out of service the key is no
longer seen (R186). -/
def State.leaveKey (s : State) (d : DoorNo) : State :=
  s.setKey d (if (s.pdt d).inService then (if s.key d = .onGranted then .onNotGranted else s.key d) else .unseen)

/-- A door leaves service: the record, then the Berth Unit, the Sensing Evaluator and the Override Unit (R134). -/
def State.leaveService (s : State) (d : DoorNo) : State :=
  (((s.setDoor d (s.door d).enterOut).dropFromBerths d).leaveZones d).leaveKey d

/-! ## Re-adoption (R117) -/

/-- CLOSED, then the reason set is applied by R120, so a door that holds a reason goes on to OPENING (R117, R133). -/
def Door.closedThenReasons (r : Door) (m : MotionLimits) : Door :=
  if r.reasons = .empty then r.enterClosed else r.enterClosed.reasonsArise m

/-- Re-adoption from a status (R117): the first finding that holds decides. `recovered` says that the slot has just
recovered. -/
def State.readopt (s : State) (d : DoorNo) (u : UnitStatus) (iso recovered : Bool) : State :=
  let old := (s.door d).state
  let r := { (s.door d).still with lastStatus := some u, isoKey := some iso, reopenCount := 0, returning := false }
  let s := s.setDoor d r
  if iso = true ∨ (s.pdt d).inService = false then
    if old = .outOfService then s.setDoor d r.enterOut else s.leaveService d
  else if u.faultCode ≠ 0 then s.faultDoor d .unitFault
  else if u.manual then (s.setDoor d r.enterManual).raise .manualRelease d.val (enc1 old.code)
  else if u.leaf = .closed ∧ u.lock = true then s.setDoor d (r.closedThenReasons (s.limits d))
  else s.setDoor d (r.enterHeld (if recovered then .commRecovered else .startOpen))

/-- Under FIRE with ALL_IN_SERVICE, a door that has returned to service receives FIRE after it has re-adopted (R182). FIRE and
FIRE_SCOPE are read as they stand at the re-adoption (notes/assumptions/9.md). -/
def State.fireOnReturn (s : State) (d : DoorNo) : State :=
  if s.present .fire ∧ s.settings.fireScope = .allInService then s.addReason d .fire else s

/-- Re-adoption as one event on the record, and the hand-over of a return to service to the Override Unit (R116, R135, R182). A PDT
write that returned the door to service has noted so, and this re-adoption ends it (notes/assumptions/9.md). -/
def State.readoptEvent (s : State) (d : DoorNo) (u : UnitStatus) (iso recovered : Bool) : State :=
  let s' := s.doorEvent d fun s => s.readopt d u iso recovered
  if ((s.door d).state = .outOfService ∨ (s.door d).returning = true) ∧ s'.inService d = true then s'.fireOnReturn d else s'

/-- A fault clear: FAULT with a cause other than COMM_LOST re-adopts from the last known status (R131). -/
def State.faultClear (s : State) (d : DoorNo) : State :=
  let r := s.door d
  match r.lastStatus with
  | some u =>
    if r.state = .fault ∧ r.faultCause ≠ some .commLost then s.readoptEvent d u (r.isoKey == some true) false else s
  | none => s

/-! ## The door's status (R115) -/

/-- Leaf class and lock, by the rule of the state (R122, R123, R124, R126). -/
def State.applyLeaf (s : State) (d : DoorNo) (u : UnitStatus) : State :=
  let r := s.door d
  match r.state with
  | .opening => if u.leaf = .opened then s.setDoor d r.enterOpened else s
  | .closing =>
    if u.leaf = .closed ∧ u.lock = true then s.setDoor d r.enterClosed
    else if u.leaf = .closed ∧ r.lockProof = .stopped then
      s.setDoor d { r with motion := .stopped, lockProof := .running s.settings.lockProofTime }
    else s
  | .closed => if u.lock = false ∨ u.leaf ≠ .closed then s.faultDoor d .lockLost else s
  | .reopening =>
    if u.leaf = .opened ∧ r.reclose = .stopped then
      s.setDoor d { r with motion := .stopped, reclose := .running s.settings.recloseDelay }
    else s
  | _ => s

/-- The states in which a unit fault code acts (R115, rule 2). -/
def DoorState.seesFaultCode : DoorState → Bool
  | .closed | .opening | .opened | .closing | .reopening | .held | .releasedManual => true
  | .unknown | .outOfService | .fault => false

/-- The states in which the manual release acts (R115, rule 3). -/
def DoorState.seesManual : DoorState → Bool
  | .closed | .opening | .opened | .closing | .reopening | .held => true
  | .unknown | .outOfService | .fault | .releasedManual => false

/-- Rules 2 to 4 of R115 on a record whose last known status is already replaced; `wasManual` is the manual release as it
was known before. -/
def State.applyRules (s : State) (d : DoorNo) (u : UnitStatus) (wasManual : Bool) : State :=
  let r := s.door d
  if u.faultCode ≠ 0 ∧ r.state.seesFaultCode = true then s.faultDoor d .unitFault
  else if u.manual = true ∧ wasManual = false ∧ r.state.seesManual = true then
    (s.setDoor d r.enterManual).raise .manualRelease d.val (enc1 r.state.code)
  else if u.manual = false ∧ wasManual = true ∧ r.state = .releasedManual then
    if u.leaf = .closed ∧ u.lock = true then s.setDoor d (r.closedThenReasons (s.limits d))
    else s.setDoor d (r.enterHeld .manualRestored)
  else s.applyLeaf d u

/-- The Door Supervisor takes a door's status (R115). -/
def State.applyStatus (s : State) (d : DoorNo) (u : UnitStatus) (iso : Bool) : State :=
  let r := s.door d
  if r.state = .unknown then s.readoptEvent d u iso false
  else if r.state = .outOfService ∧ iso = false ∧ (s.pdt d).inService = true then s.readoptEvent d u iso false
  else
    s.doorEvent d fun s =>
      let known := s.setDoor d { r with lastStatus := some u, isoKey := some iso }
      if iso = true ∧ r.state ≠ .outOfService then known.leaveService d
      else known.applyRules d u ((r.lastStatus.map UnitStatus.manual).getD false)

/-- The substituted status of a lost slot, but for the isolation key (R99). -/
def substitutedStatus : UnitStatus := { leaf := .unknown, lock := false, faultCode := 0, manual := false }

/-- A comm-lost notice (R115, R130): the substituted status becomes the last known one, the isolation key keeps its value,
and the door goes to FAULT(COMM_LOST) in every state but OUT_OF_SERVICE. -/
def State.commLostNotice (s : State) (d : DoorNo) : State :=
  s.doorEvent d fun s =>
    let s := s.setDoor d { s.door d with lastStatus := some substitutedStatus }
    if (s.door d).state = .outOfService then s else s.faultDoor d .commLost

/-! ## A PDT write that changes service (R4, R134, R135) -/

/-- The PDT entry has gone out of service. -/
def State.pdtOut (s : State) (d : DoorNo) : State := s.doorEvent d fun s => s.leaveService d

/-- The PDT entry has come into service: with the isolation key off, the record becomes UNKNOWN at once (R135). -/
def State.pdtIn (s : State) (d : DoorNo) : State :=
  s.doorEvent d fun s => if (s.door d).isoKey = some true then s else s.setDoor d (s.door d).enterUnknown

/-! ## Timer expiries -/

/-- The motion timer runs out: FAULT(MOTION_TIMEOUT) (R121). -/
def State.motionExpiry (s : State) (d : DoorNo) : State :=
  if (s.door d).motion = .stopped then s else s.doorEvent d fun s => s.faultDoor d .motionTimeout

/-- The lock-proof timer runs out: FAULT(LOCK_NOT_PROVEN) (R123). -/
def State.lockProofExpiry (s : State) (d : DoorNo) : State :=
  if (s.door d).lockProof = .stopped then s else s.doorEvent d fun s => s.faultDoor d .lockNotProven

/-- The reclose timer runs out: the door recloses with its count kept if the doorway is free, else the timer starts again
(R126). -/
def State.recloseExpiry (s : State) (d : DoorNo) : State :=
  if (s.door d).reclose = .stopped then s
  else s.doorEvent d fun s =>
    if s.doorwayFree d then s.setDoor d ((s.door d).enterClosing (s.limits d))
    else s.setDoor d { s.door d with reclose := .running s.settings.recloseDelay }

end Sys2Proof.Machine
end

