-- ==== Sys2Proof/Machine/Sensing.lean ====
section
/-! DEFINITION. The Sensing Evaluator (chapter 8): samples, windows and hysteresis, stuck zones, forced occupancy, recovery,
and what zone changes are handed on. -/

namespace Sys2Proof.Machine

/-- The window after one more sample: the newest at the end, the oldest removed when there are more than N (R155). -/
def pushSample (window : List Bool) (n : Nat) (bit : Bool) : List Bool :=
  let w := window ++ [bit]
  if n < w.length then w.drop 1 else w

/-- The number of occupied samples in a window (R153). -/
def occupiedCount (window : List Bool) : Nat := window.count true

/-- The hysteresis rule (R156). -/
def decideZone (st : ZoneState) (count kOn kOff : Nat) : ZoneState :=
  match st with
  | .clear => if kOn ≤ count then .occupied else .clear
  | .occupied => if count ≤ kOff then .clear else .occupied
  | .stuck => .stuck

/-- The record after one sample, before the stuck rule (R155, R156, R158). -/
def ZoneRec.sample (r : ZoneRec) (p : SensingProfile) (bit : Bool) : ZoneRec :=
  let w := pushSample r.window p.n bit
  let st := decideZone r.state (occupiedCount w) p.kOn p.kOff
  { window := w, count := occupiedCount w, state := st, run := if st = .occupied then satInc r.run else 0, forced := r.forced }

/-- Whether a zone becomes STUCK at a sample (R159). -/
def State.becomesStuck (s : State) (d : DoorNo) (p : SensingProfile) (r : ZoneRec) : Bool :=
  p.stuckLimit != 0 && r.state == .occupied && p.stuckLimit ≤ r.run && (s.door d).state == .closed && !s.held d

/-- A sensed change handed on in the order of R170: the zone's own counter and events (R166, R167), the Door Supervisor
(R165), the Berth Unit (R168). -/
def State.handSensed (s : State) (d : DoorNo) (z : ZoneId) (p : SensingProfile) (occupied : Bool) : State :=
  if z.isGap then
    let s :=
      if occupied then
        let s1 := (s.countDoor d DoorCounters.incGapEvents).raise .gapOccupied d.val (enc1 z.idx.val)
        let s2 := if s1.held d = false ∧ p.intrusionReport = true then s1.raise .intrusion d.val (enc1 z.idx.val) else s1
        if p.gapResponse = .reopen then s2.reopenTrigger d else s2
      else s
    s.handProofOfZone (s.zoneOf d)
  else if occupied then s.reopenTrigger d
  else s

/-- A change of a gap zone's state of an in-service door is handed to the Berth Unit (R168). -/
def State.handGap (s : State) (d : DoorNo) (z : ZoneId) : State :=
  if z.isGap = true ∧ s.inService d = true then s.handProofOfZone (s.zoneOf d) else s

/-- One zone of a door takes its sample of a reply (R154, R157): not while the door is OUT_OF_SERVICE or the zone is forced. -/
def State.sampleZone (s : State) (d : DoorNo) (bit : Bool) (z : ZoneId) : State :=
  match s.zone d z, s.sensing d with
  | some r, some p =>
    if s.inService d = false ∨ r.forced = true then s
    else
      let r' := r.sample p bit
      let stuck := s.becomesStuck d p r'
      let s' := s.setZone d z (some (if stuck then { r' with state := .stuck, run := 0 } else r'))
      let s' := if r.state = r'.state then s' else s'.handSensed d z p (r'.state == .occupied)
      if stuck then (s'.raise .zoneStuck d.val (enc1 z.idx.val)).handGap d z else s'
  | _, _ => s

/-- The sensor bits of one reply, in the order G1, G2, G3, G4, TH, ED (R157). -/
def State.takeSensors (s : State) (d : DoorNo) (r : Reply) : State :=
  allZoneIds.foldl (fun s z => s.sampleZone d (r.sensor z) z) s

/-- A forced-occupancy notice (R162): every fitted zone is forced OCCUPIED, its window and count kept. -/
def State.forceZones (s : State) (d : DoorNo) : State :=
  allZoneIds.foldl (fun s z =>
    match s.zone d z with
    | some r =>
      let s' := s.setZone d z (some { r with forced := true, state := .occupied, run := 0 })
      if r.state = .occupied then s' else s'.handGap d z
    | none => s) s

/-- A recovery notice (R163): every fitted zone starts from an empty window, CLEAR and not forced, and each change of a gap zone is
handed to the Berth Unit (R168). -/
def State.recoverZones (s : State) (d : DoorNo) : State :=
  allZoneIds.foldl (fun s z =>
    match s.zone d z with
    | some r =>
      let s' := s.setZone d z (some .fresh)
      if r.state = .clear then s' else s'.handGap d z
    | none => s) s

/-- A stuck clear (R161): each STUCK zone whose count is at or below K_OFF becomes CLEAR. -/
def State.stuckClear (s : State) (d : DoorNo) : State :=
  allZoneIds.foldl (fun s z =>
    match s.zone d z, s.sensing d with
    | some r, some p =>
      if r.state = .stuck ∧ r.count ≤ p.kOff then (s.setZone d z (some { r with state := .clear, run := 0 })).handGap d z
      else s
    | _, _ => s) s

/-- A new zone record: forced while the slot's comm state is LOST, otherwise fresh (R4, R162). -/
def State.newZone (s : State) (d : DoorNo) : ZoneRec :=
  if (s.comm (slotOfDoor d)).map CommRec.state = some .lost then { ZoneRec.fresh with state := .occupied, forced := true }
  else .fresh

/-- A window cut to a new N, its oldest samples dropped and its count recounted; the state stands (R8). -/
def ZoneRec.shorten (r : ZoneRec) (n : Nat) : ZoneRec :=
  if n < r.window.length then
    let w := r.window.drop (r.window.length - n)
    { r with window := w, count := occupiedCount w }
  else r

/-- The profile now in force is applied to a door's zone records (R8). -/
def State.applyProfile (s : State) (d : DoorNo) : State :=
  match s.sensing d with
  | some p => s.setZones d ((s.zonesOf d).map (Option.map fun r => r.shorten p.n))
  | none => s

/-- The zone records of a door whose PDT entry is in service after a change of zones fitted or of service: a zone that is
fitted keeps its record or gets a new one, and a zone that is not has none (R4, R153). -/
def State.refitZones (s : State) (d : DoorNo) : State :=
  allZoneIds.foldl (fun s z =>
    if (s.pdt d).fitted[z.idx] then
      match s.zone d z with
      | some _ => s
      | none => s.setZone d z (some (s.newZone d))
    else s.setZone d z none) s

end Sys2Proof.Machine
end

