-- ==== Sys2Proof/Machine/Effort.lean ====
section
/-! DEFINITION. Drive effort monitoring (chapter 7): blanking, hard current, heating, cooling, trips, and the lowering of an
accumulator to a new limit. -/

namespace Sys2Proof.Machine

/-- The cause of a trip (R146). -/
inductive TripCause where
  | hard | soft
deriving DecidableEq, Repr

def TripCause.code : TripCause → Nat
  | .hard => 0 | .soft => 1

/-- A cooled accumulator (R145): an eighth of the shortfall, rounded down, and never below 0. -/
def coolEffort (e : Nat) (c : DriveClass) (i : Nat) : Nat := e - min e ((c.iNom ^ 2 - i ^ 2) / 8)

/-- A heated accumulator (R144): the excess of the square, and never above L. -/
def heatEffort (e : Nat) (c : DriveClass) (i : Nat) : Nat := min c.limit (e + i ^ 2 - c.iNom ^ 2)

/-- What a trip does to the door by its state (R146 to R149). -/
def State.tripDoor (s : State) (d : DoorNo) : State :=
  match (s.door d).state with
  | .closing => s.reopenOrHold d
  | .opening | .reopening => s.setDoor d ((s.door d).enterHeld .openTrip)
  | .closed | .opened | .held | .releasedManual => s.faultDoor d .driveOverload
  | .fault | .unknown | .outOfService => s

/-- A trip (R146): E is halved from L, EFFORT_TRIPS counts, EFFORT_TRIP is offered, and the door acts by its state. -/
def State.trip (s : State) (d : DoorNo) (c : DriveClass) (cause : TripCause) (i : Nat) : State :=
  s.doorEvent d fun s =>
    let s := s.setDoor d ({ s.door d with effort := c.limit / 2 }.count DoorCounters.incEffortTrips)
    (s.raise .effortTrip d.val (enc1 cause.code ++ enc1 i ++ enc1 (s.door d).state.code)).tripDoor d

/-- A sample handed for a door in UNKNOWN or OUT_OF_SERVICE is discarded (R141). -/
def DoorState.takesSample : DoorState → Bool
  | .unknown | .outOfService => false
  | _ => true

/-- One current sample (R141): blanking, hard current, heating, cooling; the first stage that applies decides. -/
def State.takeCurrent (s : State) (d : DoorNo) (i : Nat) : State :=
  let r := s.door d
  match s.driveClass d with
  | none => s
  | some c =>
    if r.state.takesSample = false then s
    else if 0 < r.blank then
      s.setDoor d { r with blank := r.blank - 1, effort := if i ≤ c.iNom then coolEffort r.effort c i else r.effort }
    else if c.iHard ≤ i then s.trip d c .hard i
    else if c.iNom < i then
      if heatEffort r.effort c i = c.limit then s.trip d c .soft i
      else s.setDoor d { r with effort := heatEffort r.effort c i }
    else s.setDoor d { r with effort := coolEffort r.effort c i }

/-- An accumulator above the limit of its door's class is lowered to it; an unloaded class lowers nothing (R4, R6, R150). -/
def State.clampEffort (s : State) (d : DoorNo) : State :=
  match s.driveClass d with
  | some c => s.setDoor d { s.door d with effort := min (s.door d).effort c.limit }
  | none => s

end Sys2Proof.Machine
end

