-- ==== Sys2Proof/Machine/Operands.lean ====
section
/-! DEFINITION. The operands of the requests: every form of request field R39 lays down, the size each kind's fields take
(R25), and the reading of each kind's fields. -/

namespace Sys2Proof.Machine

/-! ## Fields at a place in the payload -/

def u8 (p : List Byte) (i : Nat) : Nat := (p.getD i 0).toNat
def u16 (p : List Byte) (i : Nat) : Nat := u8 p i * 256 + u8 p (i + 1)
def u32 (p : List Byte) (i : Nat) : Nat := u16 p i * 65536 + u16 p (i + 2)

/-- A two-byte number in two's complement (R39). -/
def i16 (p : List Byte) (i : Nat) : Int := if u16 p i < 32768 then (u16 p i : Int) else (u16 p i : Int) - 65536

/-- A two-valued flag: 0x01 or 0x00; any other byte is outside its range (R39). -/
def flagAt (p : List Byte) (i : Nat) : Option Bool :=
  match u8 p i with
  | 0 => some false
  | 1 => some true
  | _ => none

def berthOf : Nat → Option BerthId
  | 0 => some .A
  | 1 => some .B
  | _ => none

/-- Field 1 as a berth: neither A nor B is outside its range. -/
def berthAt (p : List Byte) (i : Nat) : Option BerthId := berthOf (u8 p i)

def spanAt (p : List Byte) (i : Nat) : Option Span :=
  match u8 p i with
  | 0 => some .front
  | 1 => some .rear
  | 2 => some .full
  | _ => none

/-- A door 0 to 47. -/
def doorAt (p : List Byte) (i : Nat) : Option DoorNo := if h : u8 p i < 48 then some ⟨u8 p i, h⟩ else none

/-- A stock profile id 0 to 15. -/
def profileAt (p : List Byte) (i : Nat) : Option (Fin 16) := if h : u8 p i < 16 then some ⟨u8 p i, h⟩ else none

/-- The tables of TABLE_WRITE and TABLE_READ, in the order of the table of section 1.6. -/
inductive TableId where
  | pdt | driveClass | sensingProfile | settings | profile | store
deriving DecidableEq, Repr

def tableAt (p : List Byte) (i : Nat) : Option TableId :=
  match u8 p i with
  | 0 => some .pdt
  | 1 => some .driveClass
  | 2 => some .sensingProfile
  | 3 => some .settings
  | 4 => some .profile
  | 5 => some .store
  | _ => none

/-- The number of indices of a table (section 1.6). -/
def TableId.indices : TableId → Nat
  | .pdt => 48 | .driveClass => 4 | .sensingProfile => 8 | .settings => 1 | .profile => 16 | .store => 1

/-- The bytes of one complete entry from field 3 on (R39): none for a table that TABLE_WRITE does not write. -/
def entrySize : Option TableId → Nat
  | some .pdt => 11
  | some .driveClass => 4
  | some .sensingProfile => 7
  | some .settings => 40
  | _ => 0

/-- The bytes that a kind's fields take, worked out from the list counts the payload itself states (R25, R39). -/
def payloadSize (k : Kind) (p : List Byte) : Nat :=
  match k with
  | .arrival => 5 + 2 * u8 p 4
  | .stopReport => 4
  | .release | .doorCommand | .eventMask | .counterRead | .ringTestResult => 2
  | .close | .cancel | .departed | .evacuate | .berthQuery | .doorQuery | .profileDelete | .modeEnter | .modeExit
  | .resetLatch | .ringTestInsert => 1
  | .alignDetail | .tableRead => 3
  | .profileBegin => 4
  | .tableWrite => 2 + entrySize (tableAt p 0)
  | .profileCar => 6 + 4 * u8 p 4 + 4 * u8 p (5 + 4 * u8 p 4)
  | .eventAck => 3 + u8 p 1 + u8 p (2 + u8 p 1)
  | .edgeQuery | .ident | .storeSave | .ringTestStart | .ringTestStop | .changeMap | .snapshot | .partReset => 0

/-! ## ARRIVAL (R46) -/

/-- One unit of the list: a profile id 0..15 and an orientation. -/
def unitAt (p : List Byte) (i : Nat) : Option TrainUnit :=
  match profileAt p i, u8 p (i + 1) with
  | some id, 0 => some { profile := id, orientation := .forward }
  | some id, 1 => some { profile := id, orientation := .reversed }
  | _, _ => none

/-- The list of units, or none where some unit is out of range. -/
def unitsAt (p : List Byte) : Option (List TrainUnit) :=
  (List.range (u8 p 4)).mapM fun k => unitAt p (5 + 2 * k)

/-! ## EVENT_ACK (R207) and EVENT_MASK (R208) -/

def ackDoors (p : List Byte) : Option (List DoorNo) := (List.range (u8 p 1)).mapM fun k => doorAt p (2 + k)
def ackBerths (p : List Byte) : Option (List BerthId) :=
  (List.range (u8 p (2 + u8 p 1))).mapM fun k => berthAt p (3 + u8 p 1 + k)

/-- The masked set: flag n is bit n mod 8 of byte n / 8 (R39). -/
def maskAt (p : List Byte) : Vector Bool 16 :=
  Vector.ofFn fun n : Fin 16 => (p.getD (n.val / 8) 0).getLsbD (n.val % 8)

/-! ## PROFILE_CAR (R17) -/

/-- The entries of a door list whose count byte stands at `i`. -/
def doorListAt (p : List Byte) (i : Nat) : List ProfileDoor :=
  (List.range (u8 p i)).map fun k => { offset := u16 p (i + 1 + 4 * k), width := u16 p (i + 3 + 4 * k) }

/-- The car a PROFILE_CAR carries: its length and two door lists, from field 3 on. -/
def carAt (p : List Byte) : Car :=
  { length := u16 p 2, side1 := doorListAt p 4, side2 := doorListAt p (5 + 4 * u8 p 4) }

/-! ## Table entries: a raw entry, each field as its bytes hold it, to be judged against its range (R12) -/

/-- The fields of a PDT entry as carried (R2). -/
structure RawPdt where
  inService : Option Bool
  zone : Nat
  centre : Nat
  width : Nat
  driveClass : Nat
  profile : Nat
  fitted : Nat

def rawPdtAt (p : List Byte) : RawPdt :=
  { inService := flagAt p 2, zone := u8 p 3, centre := u32 p 4, width := u16 p 8, driveClass := u8 p 10, profile := u8 p 11,
    fitted := u8 p 12 }

/-- The lowest-numbered field outside its range, if any (R2, R12 check 6). That a zones fitted map with bit 6 or 7 set, which mark
no member, is out of range is the model's choice (notes/assumptions/36.md). -/
def RawPdt.badField (r : RawPdt) : Option Nat :=
  if r.inService = none then some 3
  else if 1 < r.zone then some 4
  else if 250000 < r.centre then some 5
  else if r.width < 1000 ∨ 3000 < r.width then some 6
  else if 3 < r.driveClass then some 7
  else if 7 < r.profile then some 8
  else if 63 < r.fitted then some 9
  else none

/-- The entry, once every field is within its range. -/
def RawPdt.entry (r : RawPdt) : PdtEntry :=
  { inService := r.inService == some true, zone := if r.zone = 0 then .front else .rear, centre := r.centre, width := r.width,
    driveClass := Fin.ofNat 4 r.driveClass, profile := Fin.ofNat 8 r.profile,
    fitted := Vector.ofFn fun n : Fin 6 => r.fitted.testBit n.val }

def driveClassAt (p : List Byte) : DriveClass := { iNom := u8 p 2, iHard := u8 p 3, k := u8 p 4, startBlank := u8 p 5 }

/-- Field ranges of a Drive Class entry (R5); I_HARD's lower bound is its cross-check. -/
def DriveClass.badField (c : DriveClass) : Option Nat :=
  if c.iNom < 10 ∨ 200 < c.iNom then some 3
  else if 255 < c.iHard then some 4
  else if c.k < 5 ∨ 250 < c.k then some 5
  else if 20 < c.startBlank then some 6
  else none

/-- I_HARD must be greater than the I_NOM of the same write (R5). -/
def DriveClass.badCross (c : DriveClass) : Option Nat := if c.iHard ≤ c.iNom then some 4 else none

/-- The fields of a Sensing Profile entry as carried (R7). -/
structure RawSensing where
  n : Nat
  kOn : Nat
  kOff : Nat
  stuckLimit : Nat
  gapResponse : Nat
  intrusionReport : Option Bool

def rawSensingAt (p : List Byte) : RawSensing :=
  { n := u8 p 2, kOn := u8 p 3, kOff := u8 p 4, stuckLimit := u16 p 5, gapResponse := u8 p 7, intrusionReport := flagAt p 8 }

/-- Field ranges of a Sensing Profile entry (R7). K_ON and K_OFF have no fixed upper bound here: both of their upper bounds, even
for a value beyond any N, are cross-checks, so a later bad field is reported first (notes/assumptions/15.md). -/
def RawSensing.badField (r : RawSensing) : Option Nat :=
  if r.n < 4 ∨ 16 < r.n then some 3
  else if r.kOn < 1 then some 4
  else if (1 ≤ r.stuckLimit ∧ r.stuckLimit < 100) ∨ 60000 < r.stuckLimit then some 6
  else if 1 < r.gapResponse then some 7
  else if r.intrusionReport = none then some 8
  else none

/-- K_ON against N, and K_OFF against K_ON, of the same write (R7). -/
def RawSensing.badCross (r : RawSensing) : Option Nat :=
  if r.n < r.kOn then some 4 else if r.kOn ≤ r.kOff then some 5 else none

def RawSensing.entry (r : RawSensing) : SensingProfile :=
  { n := r.n, kOn := r.kOn, kOff := r.kOff, stuckLimit := r.stuckLimit,
    gapResponse := if r.gapResponse = 0 then .holdDeparture else .reopen, intrusionReport := r.intrusionReport == some true }

/-- The settings block as carried (R9), and its named values as bytes. -/
structure RawSettings where
  block : Settings
  fireScope : Nat
  autoSnapshot : Option Bool
  panels : Nat

def panelsOf : Nat → PanelsFitted
  | 0 => .none
  | 1 => .front
  | 2 => .rear
  | _ => .both

def rawSettingsAt (p : List Byte) : RawSettings :=
  { fireScope := u8 p 39, autoSnapshot := flagAt p 40, panels := u8 p 41,
    block :=
      { platformSide := u8 p 2, zsplit := u32 p 3, zend := u32 p 7, stopMarkFront := u32 p 11, stopMarkRear := u32 p 15,
        stopMarkFull := u32 p 19, minPassage := u16 p 23, creepTol := u16 p 25, ringPeriod := u8 p 27, holdCycles := u8 p 28,
        linkTimeout := u16 p 29, openTimeLimit := u8 p 31, closeTimeLimit := u8 p 32, lockProofTime := u16 p 33,
        recloseDelay := u16 p 35, reopenLimit := u8 p 37, proofTime := u8 p 38,
        fireScope := if u8 p 39 = 0 then .alignedOnly else .allInService, autoSnapshot := flagAt p 40 == some true,
        panelsFitted := panelsOf (u8 p 41) } }

/-- The first setting in field-number order outside its range, checked within the block itself (R9, R10). -/
def Settings.badField (c : Settings) : Option Nat :=
  if c.platformSide < 1 ∨ 2 < c.platformSide then some 3
  else if c.zsplit < 1 ∨ 249999 < c.zsplit then some 4
  else if c.zend < c.zsplit + 1 ∨ 250000 < c.zend then some 5
  else if c.zsplit < c.stopMarkFront then some 6
  else if c.stopMarkRear < c.zsplit ∨ c.zend < c.stopMarkRear then some 7
  else if c.zend < c.stopMarkFull then some 8
  else if c.minPassage < 400 ∨ 1500 < c.minPassage then some 9
  else if c.creepTol < 50 ∨ 500 < c.creepTol then some 10
  else if c.ringPeriod < 5 ∨ 40 < c.ringPeriod then some 11
  else if c.holdCycles < 1 ∨ 8 < c.holdCycles then some 12
  else if c.linkTimeout < 100 ∨ 2000 < c.linkTimeout then some 13
  else if c.openTimeLimit < 1 ∨ 10 < c.openTimeLimit then some 14
  else if c.closeTimeLimit < 1 ∨ 10 < c.closeTimeLimit then some 15
  else if c.lockProofTime < 100 ∨ 2000 < c.lockProofTime then some 16
  else if c.recloseDelay < 500 ∨ 5000 < c.recloseDelay then some 17
  else if 5 < c.reopenLimit then some 18
  else if c.proofTime < 2 ∨ 60 < c.proofTime then some 19
  else none

/-- The numeric settings first, then the three named ones, whose field numbers are higher. -/
def RawSettings.badField (r : RawSettings) : Option Nat :=
  match r.block.badField with
  | some f => some f
  | none =>
    if 1 < r.fireScope then some 20
    else if r.autoSnapshot = none then some 21
    else if 3 < r.panels then some 22
    else none

end Sys2Proof.Machine
end

