-- ==== Sys2Proof/Machine/Requests.lean ====
section
/-! DEFINITION. Taking one request in its turn (R25, R27, R28): the access checks, the owner's act, and the ANSWER. -/

namespace Sys2Proof.Machine

/-- What the owning block answers (R28): ACCEPTED with its data, REFUSED with a code and field number, or nothing now
(R29). -/
inductive Answer where
  | accepted (data : List Byte)
  | refused (code : Code) (field : Nat)
  | deferred
deriving DecidableEq, Repr

def Answer.ok : Answer := .accepted []
def Answer.range (field : Nat) : Answer := .refused .range field

/-- The payload of an ANSWER (R37); a deferred answer sends none. -/
def answerPayload (src kind : Byte) : Answer → List Byte
  | .accepted data => [kind, src, 0x00, 0x00, 0x00] ++ data
  | .refused c f => [kind, src, 0x01, c.value, BitVec.ofNat 8 f]
  | .deferred => []

def answerTelegram (src kind : Byte) (a : Answer) : Telegram :=
  { cls := .answer, kind := kind, payload := answerPayload src kind a }

/-- Offers the answer of a request (R28); the answer's kind and source are echoed as received. -/
def State.answer (s : State) (src kind : Byte) (a : Answer) : State :=
  match a with
  | .deferred => s
  | a => s.offer (answerTelegram src kind a)

/-- The request that stands first in the request order, while the link is UP and the part runs (R27, R217). -/
def State.nextRequest (s : State) : Option Request :=
  if s.phase = .running ∧ s.lli.link = .up then s.lli.waiting.head? else none

/-- The request is taken out of the request order. -/
def State.popRequest (s : State) : State := { s with lli := { s.lli with waiting := s.lli.waiting.tail } }

/-- Whether a taken request passes the checks of R25 on source and payload size, and what answers it where it does not. The
kind is known. -/
def accessRefusal (k : Kind) (src : Byte) (p : List Byte) : Option Answer :=
  if k.senders.permit src = false then some (.refused .notPermitted 0)
  else if p.length ≠ payloadSize k p then some (.range 0)
  else none

/-- A request of a known kind is taken when it stands first in the request order (R27): it is refused under R25, or its owner
carries it out whole and its answer is offered after everything the owner offers (R45, R116). A request that does not stand
first is not taken (notes/assumptions/2.md). -/
def State.takeRequest (s : State) (k : Kind) (src : Byte) (p : List Byte) (owner : State → State × Answer) : State :=
  if s.nextRequest = some { src := src, kind := k.code, payload := p } then
    match accessRefusal k src p with
    | some a => s.popRequest.answer src k.code a
    | none => (owner s.popRequest).1.answer src k.code (owner s.popRequest).2
  else s

/-- An owner's refusal, which changes nothing. -/
def refuse (s : State) (c : Code) (field : Nat := 0) : State × Answer := (s, .refused c field)

/-- A request of an unknown kind is taken in its turn and answered REFUSED UNKNOWN_KIND (R25, check 1). -/
def execUnknownKindRequest (src kind : Byte) (p : List Byte) (s : State) : Host.Outcome State Fault Refusal :=
  .next (if s.nextRequest = some { src := src, kind := kind, payload := p } ∧ isRequestKind kind = false then
      s.popRequest.answer src kind (.refused .unknownKind 0)
    else s)

end Sys2Proof.Machine
end

