-- ==== Sys2Proof/Machine/Align.lean ====
section
/-! DEFINITION. The Alignment Engine (chapter 4): a computation's six stages, over exact integers, and ALIGN_DETAIL. -/

namespace Sys2Proof.Machine

/-! ## Stage 1: laying out the consist (R70 to R74) -/

/-- The doors of one side of a car (R14). -/
def Car.side (c : Car) (n : Nat) : List ProfileDoor := if n = 1 then c.side1 else c.side2

/-- The platform side of a unit (R47, R72, R73): PLATFORM_SIDE when FORWARD, the other side when REVERSED. -/
def platformSideOf (platformSide : Nat) : Orientation → Nat
  | .forward => platformSide
  | .reversed => if platformSide = 1 then 2 else 1

/-- The cars of a unit as taken: car 1 first when FORWARD, car m first when REVERSED, each with its index in its profile
(R72, R73). An unwritten car, which no VALID profile holds, has no length and no doors. -/
def takenCars (p : StockProfile) (o : Orientation) : List (Nat × Car) :=
  let cars := (p.cars.zipIdx 1).map fun ci => (ci.2, ci.1.getD { length := 0, side1 := [], side2 := [] })
  match o with
  | .forward => cars
  | .reversed => cars.reverse

/-- The train doors of one car whose front stands at train offset `start`, from the front (R72, R73, R74). -/
def carTrainDoors (start : Nat) (unit car : Nat) (o : Orientation) (c : Car) (side : Nat) : List TrainDoor :=
  let ds := (c.side side).zipIdx 1
  let entry := fun (off : Int) (dk : ProfileDoor × Nat) =>
    ({ o := off, w := dk.1.width, pos := 0, eligible := false, unit := unit, car := car, door := dk.2 } : TrainDoor)
  match o with
  | .forward => ds.map fun dk => entry ((start : Int) + (dk.1.offset : Int)) dk
  | .reversed => ds.reverse.map fun dk => entry ((start : Int) + ((c.length : Int) - (dk.1.offset : Int))) dk

/-- The train doors of a unit's cars, each car starting where the cars taken before it end (R72, R73). -/
def unitTrainDoors (start unit : Nat) (o : Orientation) (side : Nat) : List (Nat × Car) → List TrainDoor
  | [] => []
  | (k, c) :: rest => carTrainDoors start unit k o c side ++ unitTrainDoors (start + c.length) unit o side rest

/-- The length of a unit: the sum of its car lengths (R71). -/
def StockProfile.length (p : StockProfile) : Nat := (p.cars.map fun c => (c.map Car.length).getD 0).sum

/-- The units one behind another from the train front; the allowance is that of the profile in front of the joint (R71). -/
def consistDoors (stock : Fin 16 → StockProfile) (platformSide : Nat) : Nat → Nat → List TrainUnit → List TrainDoor
  | _, _, [] => []
  | start, u, x :: rest =>
    let p := stock x.profile
    unitTrainDoors start u x.orientation (platformSideOf platformSide x.orientation) (takenCars p x.orientation)
      ++ consistDoors stock platformSide (start + p.length + p.allowance) (u + 1) rest

/-- Puts a train door behind every entry whose offset is not greater (R74): entries with equal offset keep the order in which
they are contributed. -/
def insertByOffset (x : TrainDoor) : List TrainDoor → List TrainDoor
  | [] => [x]
  | y :: ys => if x.o < y.o then x :: y :: ys else y :: insertByOffset x ys

def sortByOffset (l : List TrainDoor) : List TrainDoor := l.foldl (fun acc x => insertByOffset x acc) []

/-- Platform-side doors of a unit (R47). -/
def StockProfile.sideCount (p : StockProfile) (side : Nat) : Nat :=
  (p.cars.map fun c => (c.map fun c => (c.side side).length).getD 0).sum

/-- Platform-side doors of a consist (R47). -/
def State.consistCount (s : State) (consist : List TrainUnit) : Nat :=
  (consist.map fun x =>
    (s.stock x.profile).sideCount (platformSideOf s.settings.platformSide x.orientation)).sum

/-! ## Stage 2: eligibility (R75) -/

/-- The extent of a span (R43). -/
def Span.extent (c : Settings) : Span → Nat × Nat
  | .front => (0, c.zsplit)
  | .rear => (c.zsplit, c.zend)
  | .full => (0, c.zend)

/-- The stop mark of a span (R43). -/
def Span.stopMark (c : Settings) : Span → Nat
  | .front => c.stopMarkFront
  | .rear => c.stopMarkRear
  | .full => c.stopMarkFull

/-- A train door with its platform coordinate, and eligible when its whole opening lies within the extent (R70, R75). -/
def TrainDoor.place (x : TrainDoor) (f : Int) (lo hi : Nat) : TrainDoor :=
  { x with pos := f + x.o,
           eligible := decide (2 * (lo : Int) ≤ 2 * (f + x.o) - x.w ∧ 2 * (f + x.o) + x.w ≤ 2 * (hi : Int)) }

/-! ## Stages 3 to 5: candidates, overlap, conflicts (R76 to R78) -/

/-- The doubled distance between a platform door and a train door (R76). -/
def distance2 (p : PdtEntry) (t : TrainDoor) : Nat := (2 * (p.centre : Int) - 2 * t.pos).natAbs

/-- The candidate of a platform door: the nearest eligible train door, the smaller index on equal distance (R76). -/
def candidate (p : PdtEntry) (doors : List TrainDoor) : Option (TrainDoor × Nat) :=
  doors.zipIdx.foldl (fun best x =>
    if x.1.eligible = false then best
    else match best with
      | none => some x
      | some b => if distance2 p x.1 < distance2 p b.1 then some x else best) none

/-- The overlap in millimetres of a platform door and a train door, rounded down from the doubled overlap (R77). -/
def overlapMm (p : PdtEntry) (t : TrainDoor) : Nat :=
  let lo : Int := max (2 * (p.centre : Int) - p.width) (2 * t.pos - t.w)
  let hi : Int := min (2 * (p.centre : Int) + p.width) (2 * t.pos + t.w)
  ((hi - lo) / 2).toNat

/-- The match record of a platform door with its candidate, when the pair is aligned (R77, R79). -/
def alignedPair (d : DoorNo) (p : PdtEntry) (doors : List TrainDoor) (minPassage : Nat) : Option MatchRec :=
  match candidate p doors with
  | some (t, k) =>
    if minPassage ≤ overlapMm p t then some { p := d, t := k, overlap := overlapMm p t, residual := (p.centre : Int) - t.pos }
    else none
  | none => none

/-- Whether pair `a` loses its train door to pair `b`: a greater overlap, or an equal one and a smaller p (R78). -/
def MatchRec.losesTo (a b : MatchRec) : Bool :=
  b.t == a.t && (a.overlap < b.overlap || (b.overlap == a.overlap && decide (b.p.val < a.p.val)))

/-- The kept pairs (R78). -/
def settlePairs (ms : List MatchRec) : List MatchRec := ms.filter fun a => ms.all fun b => !a.losesTo b

/-! ## Stage 6: results (R79 to R81) -/

def verdictOf (ne na : Nat) : Verdict := if na = 0 then .none else if na < ne then .partly else .good

/-- A door is in service for a computation (R76). -/
def State.inComputation (s : State) (d : DoorNo) : Bool := (s.pdt d).inService && s.inService d

/-- The match list of a berth's computation: none for a saturated report (R81). -/
def State.matches (s : State) (b : BerthId) (doors : List TrainDoor) : List MatchRec :=
  if (s.berth b).saturated then []
  else settlePairs (((s.spanDoors b).filter s.inComputation).filterMap fun d =>
    alignedPair d (s.pdt d) doors s.settings.minPassage)

/-- The train door list of a berth's computation (R74, R75). -/
def State.trainDoors (s : State) (b : BerthId) : List TrainDoor :=
  match (s.berth b).span, (s.berth b).eUsed with
  | some sp, some e =>
    let f : Int := (sp.stopMark s.settings : Int) + e
    (sortByOffset (consistDoors s.stock s.settings.platformSide 0 1 (s.berth b).consist)).map fun x =>
      x.place f (sp.extent s.settings).1 (sp.extent s.settings).2
  | _, _ => []

/-- The record of a berth after a computation (R69, R79, R80): the new values replace the old ones whole. -/
def State.computed (s : State) (b : BerthId) : Berth :=
  let doors := s.trainDoors b
  let ms := s.matches b doors
  let ne := (doors.filter TrainDoor.eligible).length
  { s.berth b with
    trainDoors := doors, matchList := ms, nEligible := ne, nAligned := ms.length, verdict := some (verdictOf ne ms.length)
    platformEnable := Vector.ofFn fun d : DoorNo => ms.any fun m => m.p == d
    trainEnable := Vector.ofFn fun t : Fin 96 => ms.any fun m => m.t == t.val }

/-- The alignment is computed, and the doors of a non-empty platform enable set receive FIRE and EVAC while those overrides
are present (R69, R82, R83): the doors in ascending order, FIRE before EVAC at each (notes/assumptions/32.md). -/
def State.computeAlignment (s : State) (b : BerthId) : State :=
  let s := s.setBerth b (s.computed b)
  forDoors (s.berth b).enableDoors (fun d s =>
    let s := if s.present .fire then s.addReason d .fire else s
    if s.present .evac then s.addReason d .evac else s) s

/-! ## ALIGN_DETAIL (R86, R87) -/

def State.alignDetail (s : State) (p : List Byte) : State × Answer :=
  match berthAt p 0 with
  | none => refuse s .range 1
  | some b =>
    if 47 < u8 p 1 then refuse s .range 2
    else if u8 p 2 = 0 ∨ 24 < u8 p 2 then refuse s .range 3
    else (s, .accepted (alignDetailData b (s.berth b) (u8 p 1) (u8 p 2)))

/-- ALIGN_DETAIL (R86). -/
def execAlignDetail (src : Byte) (p : List Byte) (s : State) : Host.Outcome State Fault Refusal :=
  .next (s.takeRequest .alignDetail src p fun s => s.alignDetail p)

end Sys2Proof.Machine
end

