-- ==== Sys2Proof/Machine/Berths.lean ====
section
/-! DEFINITION. The Berth Unit (chapter 3): the berth requests, the protective close, and the proof timer. -/

namespace Sys2Proof.Machine

/-! ## Acts shared with the panels -/

/-- Removes reasons from each of the doors, then gives each that is HELD a latch reset (R60, steps 1 and 2; R191). Each step
works the doors in the order of the list, which its callers give ascending (notes/assumptions/32.md). -/
def State.shutDoors (s : State) (ds : List DoorNo) (ks : List Reason) : State :=
  forDoors ds (fun d s => s.latchReset d) (forDoors ds (fun d s => s.removeReasons d ks) s)

/-- Whether a berth's last report lets it be released in PROVEN (R56, check 6). -/
def Berth.standsAsUsed (b : Berth) (creepTol : Nat) : Bool :=
  match b.lastReport, b.eUsed with
  | some e, some u => b.standstill && decide ((e - u).natAbs ≤ creepTol)
  | _, _ => false

/-- The permit is withdrawn with its report, and the close cause becomes absent (R57, step 1). -/
def State.withdrawForRelease (s : State) (b : BerthId) : State :=
  if (s.berth b).state = .proven then
    (s.setBerth b { s.berth b with permit := .withdrawn, closeCause := none }).offer
      (permitWithdrawn b (s.berth b) .released)
  else s

/-- An accepted RELEASE (R57). -/
def State.releaseBerth (s : State) (b : BerthId) : State :=
  let s1 := s.withdrawForRelease b
  let s2 := s1.setBerth b { s1.berth b with state := .released }
  let s3 := forDoors (s2.berth b).enableDoors (fun d s => s.addReason d .release) s2
  (s3.reportBerthNow b).offerBerthStatus b

/-! ## ARRIVAL (R46 to R48) -/

/-- Some unit names a profile that is not VALID (R46, check 9). -/
def State.anyInvalid (s : State) (consist : List TrainUnit) : Bool :=
  consist.any fun x => (s.stock x.profile).state != .valid

/-- The other berth is not VACANT and its span overlaps the span asked for (R46, check 8). -/
def State.otherOverlaps (s : State) (b : BerthId) (sp : Span) : Bool :=
  let o := s.berth (otherBerth b)
  o.state != .vacant && (o.span.map fun x => x.overlaps sp).getD false

/-- An accepted ARRIVAL fills the berth (R48). -/
def State.announce (s : State) (b : BerthId) (sp : Span) (train : Nat) (consist : List TrainUnit) : State :=
  let s := s.setBerth b
    { Berth.vacantRec with state := .announced, span := some sp, trainNumber := some train, consist := consist }
  (s.reportBerthNow b).offerBerthStatus b

def State.arrival (s : State) (p : List Byte) : State × Answer :=
  match berthAt p 0, spanAt p 1 with
  | none, _ => refuse s .range 1
  | _, none => refuse s .range 2
  | some b, some sp =>
    if u8 p 4 < 1 ∨ 3 < u8 p 4 then refuse s .range 4
    else match unitsAt p with
    | none => refuse s .range 5
    | some consist =>
      if s.ts.config = .unconfigured then refuse s .notConfigured
      else if s.present .maint then refuse s .overridden
      else if (s.berth b).state ≠ .vacant then refuse s .wrongState
      else if s.otherOverlaps b sp then refuse s .overlap
      else if s.anyInvalid consist then refuse s .profileInvalid
      else if 96 < s.consistCount consist then refuse s .tooManyDoors
      else (s.announce b sp (u16 p 2) consist, .ok)

/-- ARRIVAL (R46). -/
def execArrival (src : Byte) (p : List Byte) (s : State) : Host.Outcome State Fault Refusal :=
  .next (s.takeRequest .arrival src p fun s => s.arrival p)

/-! ## STOP_REPORT (R49 to R55) -/

/-- The offset after saturation (R49). -/
def saturate (e : Int) : Int := max (-3000) (min 3000 e)

/-- The report is stored (R49). -/
def Berth.store (b : Berth) (e : Int) (standstill : Bool) : Berth :=
  { b with lastReport := some (saturate e), standstill := standstill, saturated := decide (saturate e ≠ e) }

/-- A berth's alignment fields when it holds none (R51): verdict and e_used absent, lists and sets empty, counts 0. -/
def Berth.clearAlignment (b : Berth) : Berth :=
  { b with eUsed := none, verdict := none, nEligible := 0, nAligned := 0, trainDoors := [], matchList := [],
           platformEnable := Vector.replicate 48 false, trainEnable := Vector.replicate 96 false }

/-- e_used is set and the alignment computed (R50, R51, R54). -/
def State.computeAt (s : State) (b : BerthId) (e : Int) : State :=
  (s.setBerth b { s.berth b with eUsed := some e }).computeAlignment b

/-- The step of the cause CREEP (R54). -/
def State.creepStep (s : State) (b : BerthId) (e : Int) : State :=
  (s.raise .creep (berthCode b) (encInt2 e ++ encOptInt2 (s.berth b).eUsed)).computeAt b e

/-- The step of the cause MOVING (R55): e_used keeps its value and the verdict becomes NONE. -/
def State.movingStep (s : State) (b : BerthId) : State :=
  s.setBerth b { (s.berth b).clearAlignment with eUsed := (s.berth b).eUsed, verdict := some .none }

/-- A protective close (R53). -/
def State.protectiveClose (s : State) (b : BerthId) (c : CloseCause) (step : State → State) : State :=
  (step ((forDoors (s.spanDoors b) (fun d s => s.putReason d false .release) s).enterProving b c)).finishProving b

/-- What a stored report does further, by the state it finds (R49 to R52). -/
def State.actOnReport (s : State) (b : BerthId) (e : Int) (standstill : Bool) : State :=
  match (s.berth b).state with
  | .announced =>
    if standstill then
      let s1 := s.computeAt b e
      let s2 := s1.setBerth b { s1.berth b with state := .berthed }
      (s2.reportBerthNow b).offerBerthStatus b
    else s
  | .berthed =>
    if standstill then (s.computeAt b e).offerBerthStatus b
    else
      let s1 := s.setBerth b { (s.berth b).clearAlignment with state := .announced }
      (s1.reportBerthNow b).offerBerthStatus b
  | .released =>
    if standstill = false then s.protectiveClose b .moving fun s => s.movingStep b
    else if s.settings.creepTol < (e - (s.berth b).eUsed.getD e).natAbs then
      s.protectiveClose b .creep fun s => s.creepStep b e
    else s
  | .vacant | .proving | .proven => s

def State.stopReport (s : State) (p : List Byte) : State × Answer :=
  match berthAt p 0, flagAt p 3 with
  | none, _ => refuse s .range 1
  | _, none => refuse s .range 3
  | some b, some standstill =>
    if (s.berth b).state = .vacant then refuse s .wrongState
    else ((s.setBerth b ((s.berth b).store (i16 p 1) standstill)).actOnReport b (saturate (i16 p 1)) standstill, .ok)

/-- STOP_REPORT (R49). -/
def execStopReport (src : Byte) (p : List Byte) (s : State) : Host.Outcome State Fault Refusal :=
  .next (s.takeRequest .stopReport src p fun s => s.stopReport p)

/-! ## RELEASE (R56, R57) -/

def State.release (s : State) (p : List Byte) : State × Answer :=
  match berthAt p 0, flagAt p 1 with
  | none, _ => refuse s .range 1
  | _, none => refuse s .range 2
  | some b, some acceptPartial =>
    let r := s.berth b
    if r.state ≠ .berthed ∧ r.state ≠ .proven then refuse s .wrongState
    else if r.verdict = some .none ∨ r.verdict = none then refuse s .range 1
    else if r.verdict = some .partly ∧ acceptPartial = false then refuse s .range 2
    else if r.state = .proven ∧ r.standsAsUsed s.settings.creepTol = false then refuse s .wrongState
    else (s.releaseBerth b, .ok)

/-- RELEASE (R56). -/
def execRelease (src : Byte) (p : List Byte) (s : State) : Host.Outcome State Fault Refusal :=
  .next (s.takeRequest .release src p fun s => s.release p)

/-! ## CLOSE (R59 to R61) -/

/-- The reasons a berth CLOSE removes (R60). -/
def closeReasons : List Reason := [.release, .fire, .evac]

def State.close (s : State) (p : List Byte) : State × Answer :=
  match berthAt p 0 with
  | none => refuse s .range 1
  | some b =>
    if s.present .fire ∨ s.present .evac then refuse s .overridden
    else match (s.berth b).state with
    | .vacant | .announced | .berthed => refuse s .wrongState
    | .released => (((s.shutDoors (s.spanDoors b) closeReasons).enterProving b .order).finishProving b, .ok)
    | .proving | .proven => (s.shutDoors (s.spanDoors b) closeReasons, .ok)

/-- CLOSE (R59). -/
def execClose (src : Byte) (p : List Byte) (s : State) : Host.Outcome State Fault Refusal :=
  .next (s.takeRequest .close src p fun s => s.close p)

/-! ## CANCEL, DEPARTED, BERTH_QUERY (R64 to R68) -/

/-- A berth becomes VACANT (R64); the BERTH_CHANGE carries the number the berth held before (R206). -/
def State.vacate (s : State) (b : BerthId) : State :=
  let train := (s.berth b).trainNumber.getD 0
  ((s.setBerth b .vacantRec).reportBerth b .vacant none train).offerBerthStatus b

def State.cancel (s : State) (p : List Byte) : State × Answer :=
  match berthAt p 0 with
  | none => refuse s .range 1
  | some b =>
    match (s.berth b).state with
    | .announced | .berthed => (s.vacate b, .ok)
    | .vacant | .released | .proving | .proven => refuse s .wrongState

/-- CANCEL (R65). -/
def execCancel (src : Byte) (p : List Byte) (s : State) : Host.Outcome State Fault Refusal :=
  .next (s.takeRequest .cancel src p fun s => s.cancel p)

def State.departed (s : State) (p : List Byte) : State × Answer :=
  match berthAt p 0 with
  | none => refuse s .range 1
  | some b =>
    if (s.berth b).state = .proven then
      (((s.setBerth b { s.berth b with permit := .withdrawn }).offer (permitWithdrawn b (s.berth b) .departed)).vacate b, .ok)
    else refuse s .wrongState

/-- DEPARTED (R66). -/
def execDeparted (src : Byte) (p : List Byte) (s : State) : Host.Outcome State Fault Refusal :=
  .next (s.takeRequest .departed src p fun s => s.departed p)

def State.berthQuery (s : State) (p : List Byte) : State × Answer :=
  match berthAt p 0 with
  | none => refuse s .range 1
  | some b => (s, .accepted (berthStatusData b (s.berth b)))

/-- BERTH_QUERY (R68). -/
def execBerthQuery (src : Byte) (p : List Byte) (s : State) : Host.Outcome State Fault Refusal :=
  .next (s.takeRequest .berthQuery src p fun s => s.berthQuery p)

/-! ## PROOF_TIMEOUT (R62) -/

/-- Whether a proof timer runs. -/
def ProofTimer.isRunning : ProofTimer → Bool
  | .running _ => true
  | .stopped | .expired => false

/-- PROOF_TIMEOUT: a running proof timer of a PROVING berth expires and PROOF_TIMEOUT is offered (R62). -/
def execProofTimeout (b : BerthId) (s : State) : Host.Outcome State Fault Refusal :=
  .next (if (s.berth b).state = .proving ∧ (s.berth b).proofTimer.isRunning = true then
      (s.setBerth b { s.berth b with proofTimer := .expired }).raise .proofTimeout (berthCode b)
        (enc2 ((s.berth b).trainNumber.getD 0))
    else s)

end Sys2Proof.Machine
end

