-- ==== Sys2Proof/Machine/RingTest.lean ====
section
/-! DEFINITION. The ring test (section 5.7): the generator, the words of a TEST frame, judging a test cycle, end and abort,
and its four requests. -/

namespace Sys2Proof.Machine

/-! ## The generator (R103) -/

/-- One step: the exclusive-or of bits 14 and 13 is shifted in at bit 0 and is the step's output. -/
def genStep (g : BitVec 15) : BitVec 15 × Bool :=
  let b := xor (g.getLsbD 14) (g.getLsbD 13)
  ((g <<< 1) ||| (BitVec.ofBool b).setWidth 15, b)

/-- n further outputs, the first the most significant, shifted into a word. -/
def genBits : Nat → BitVec 15 → Word16 → BitVec 15 × Word16
  | 0, g, w => (g, w)
  | n + 1, g, w => genBits n (genStep g).1 ((w <<< 1) ||| (BitVec.ofBool (genStep g).2).setWidth 16)

/-- A test word: 16 consecutive outputs. -/
def genWord (g : BitVec 15) : BitVec 15 × Word16 := genBits 16 g 0

/-- One word for each slot of the test set, in ascending slot order; the word recorded is the uncomplemented one, and the word
sent is its complement where an inversion was pending (R103). -/
def drawWords : BitVec 15 → List TestSlot → BitVec 15 × List (TestSlot × Word16)
  | g, [] => (g, [])
  | g, x :: xs =>
    let gw := genWord g
    let rest := drawWords gw.1 xs
    (rest.1, ({ x with word := some gw.2, pending := false }, if x.pending then ~~~gw.2 else gw.2) :: rest.2)

/-- The word sent to a slot: 0 where the slot takes none. -/
def sentWord (drawn : List (TestSlot × Word16)) (i : SlotNo) : Word16 :=
  ((drawn.find? fun x => x.1.slot == i).map Prod.snd).getD 0

/-! ## Judging, end and abort (R104 to R106) -/

/-- A pending inversion that was not sent is cleared, and its count goes back down (R110). -/
def TestSlot.clearPending (x : TestSlot) : TestSlot :=
  if x.pending then { x with pending := false, inserted := x.inserted - 1 } else x

/-- One slot of the test set is judged: an error for a missing reply or a wrong echo (R104). The inserted count is noted as the
one reached at this close (R111). -/
def TestSlot.judge (x : TestSlot) (sel : SlotNo → Option Reply) : TestSlot :=
  { x with
    reached := x.inserted
    errors := match sel x.slot with
      | some r => if x.word = some r.echo then x.errors else x.errors + 1
      | none => x.errors + 1 }

/-- The verdict at END: PASS with 3 errors or fewer (R105). -/
def TestSlot.settle (x : TestSlot) : TestSlot := { x.clearPending with verdict := some (decide (x.errors ≤ 3)) }

/-- The close of a cycle whose frame was TEST, while the test runs (R104, R105). -/
def State.judgeTest (s : State) (sel : SlotNo → Option Reply) : State :=
  let t := s.drm.test
  if s.drm.judged = true ∧ t.status = .run then
    let slots := t.slots.map fun x => x.judge sel
    if t.cyclesDone + 1 = 128 then
      let t' := { t with slots := slots.map TestSlot.settle, cyclesDone := 128, status := .finished }
      (s.setTest t').offer (ringTestReport t')
    else s.setTest { t with slots := slots, cyclesDone := t.cyclesDone + 1 }
  else s

/-- A running test aborts (R106): the counts stay, pending inversions are cleared, the cycle in progress is not judged, and
the report is offered. -/
def State.abortTest (s : State) : State :=
  let t := s.drm.test
  if t.status = .run then
    let t' := { t with status := .abort, slots := t.slots.map TestSlot.clearPending }
    ({ s with drm := { s.drm with test := t', judged := false } }).offer (ringTestReport t')
  else s

/-! ## The requests (R108 to R111) -/

def freshTestSlot (i : SlotNo) : TestSlot :=
  { slot := i, word := none, errors := 0, inserted := 0, reached := 0, pending := false, verdict := none }

/-- The configured set as it stands: the slots that have a comm record (R91). -/
def State.configuredSlots (s : State) : List SlotNo := allSlots.filter fun i => (s.comm i).isSome

/-- An accepted RING_TEST_START (R108). -/
def State.startTest (s : State) : State :=
  { s with drm := { s.drm with
      judged := false
      test := { status := .run, slots := s.configuredSlots.map freshTestSlot, gen := BitVec.allOnes 15, cyclesDone := 0 } } }

def State.ringTestStart (s : State) : State × Answer :=
  if s.topMode ≠ some .test ∨ s.drm.test.status = .run then refuse s .wrongState else (s.startTest, .ok)

/-- RING_TEST_START (R108). -/
def execRingTestStart (src : Byte) (p : List Byte) (s : State) : Host.Outcome State Fault Refusal :=
  .next (s.takeRequest .ringTestStart src p fun s => s.ringTestStart)

def State.ringTestStop (s : State) : State × Answer :=
  if s.drm.test.status ≠ .run then refuse s .wrongState else (s.abortTest, .ok)

/-- RING_TEST_STOP (R109). -/
def execRingTestStop (src : Byte) (p : List Byte) (s : State) : Host.Outcome State Fault Refusal :=
  .next (s.takeRequest .ringTestStop src p fun s => s.ringTestStop)

/-- A pending inversion is set on one slot, and counted if none was pending (R110). -/
def TestSlot.insert (x : TestSlot) : TestSlot :=
  if x.pending then x else { x with pending := true, inserted := x.inserted + 1 }

def State.ringTestInsert (s : State) (p : List Byte) : State × Answer :=
  match doorAt p 0 with
  | none => refuse s .range 1
  | some d =>
    let t := s.drm.test
    if t.status ≠ .run then refuse s .wrongState
    else if (t.slots.any fun x => x.slot == slotOfDoor d) = false then refuse s .range 1
    else (s.setTest { t with slots := t.slots.map fun x => if x.slot = slotOfDoor d then x.insert else x }, .ok)

/-- RING_TEST_INSERT (R110). -/
def execRingTestInsert (src : Byte) (p : List Byte) (s : State) : Host.Outcome State Fault Refusal :=
  .next (s.takeRequest .ringTestInsert src p fun s => s.ringTestInsert p)

def State.ringTestResult (s : State) (p : List Byte) : State × Answer :=
  if 49 < u8 p 0 then refuse s .range 1
  else if u8 p 1 = 0 ∨ 40 < u8 p 1 then refuse s .range 2
  else (s, .accepted (ringTestResultData s.drm.test (u8 p 0) (u8 p 1)))

/-- RING_TEST_RESULT (R111). -/
def execRingTestResult (src : Byte) (p : List Byte) (s : State) : Host.Outcome State Fault Refusal :=
  .next (s.takeRequest .ringTestResult src p fun s => s.ringTestResult p)

end Sys2Proof.Machine
end

