-- ==== Sys2Proof/Machine/Overrides.lean ====
section
/-! DEFINITION. The Override Unit (chapter 9): the override list and its mode changes, evacuation, fire, the staff keys, the
local panels, and the requests that act under the overrides. -/

namespace Sys2Proof.Machine

/-! ## The override list (R172, R173) -/

/-- MODE_CHANGE: kind, ENTERED or LEFT, effective mode after the change (R173, R206). -/
def State.raiseMode (s : State) (k : OverrideKind) (left : Nat) : State :=
  s.raise .modeChange edgeSubject (enc1 k.code ++ enc1 left ++ enc1 s.modeCode)

/-- A kind enters on top (R173, steps 1 to 3): EVAC and FIRE abort a running ring test (R106). -/
def State.enterMode (s : State) (k : OverrideKind) : State :=
  let s := ({ s with ou := { s.ou with list := s.ou.list ++ [k] } }).raiseMode k 0
  if k = .evac ∨ k = .fire then s.abortTest else s

/-- A kind leaves from wherever it stands (R173, steps 1 to 3): TEST leaving aborts a running ring test (R106). -/
def State.leaveMode (s : State) (k : OverrideKind) : State :=
  let s := ({ s with ou := { s.ou with list := s.ou.list.filter (· != k) } }).raiseMode k 1
  if k = .test then s.abortTest else s

/-- A kind of higher rank is present (R173, check 2). -/
def State.outranked (s : State) (k : OverrideKind) : Bool := s.ou.list.any fun x => k.rank < x.rank

/-- The kind of MODE_ENTER and MODE_EXIT: MAINT or TEST (R174). -/
def modeAt (p : List Byte) : Option OverrideKind :=
  match u8 p 0 with
  | 0 => some .maint
  | 1 => some .test
  | _ => none

/-- The doors of either berth's platform enable set, in ascending order (R178, R181). -/
def State.enabledDoors (s : State) : List DoorNo := allDoors.filter s.enabled

/-! ## MAINT and TEST (R174 to R176) -/

def State.modeEnter (s : State) (p : List Byte) : State × Answer :=
  match modeAt p with
  | none => refuse s .range 1
  | some k =>
    if s.present k then refuse s .wrongState
    else if s.outranked k then refuse s .overridden
    else if k = .maint ∧ (s.berthA.state ≠ .vacant ∨ s.berthB.state ≠ .vacant) then refuse s .berthOccupied
    else if k = .test ∧ s.present .maint = false then refuse s .wrongState
    else (s.enterMode k, .ok)

/-- MODE_ENTER (R174). -/
def execModeEnter (src : Byte) (p : List Byte) (s : State) : Host.Outcome State Fault Refusal :=
  .next (s.takeRequest .modeEnter src p fun s => s.modeEnter p)

/-- MAINT leaves: TEST first, as a mode change of its own, then MAINT, then the MAINT reasons, in ascending door order
(R176). -/
def State.leaveMaint (s : State) : State :=
  let s1 := if s.present .test then s.leaveMode .test else s
  forDoors allDoors (fun d s => s.putReason d false .maint) (s1.leaveMode .maint)

def State.modeExit (s : State) (p : List Byte) : State × Answer :=
  match modeAt p with
  | none => refuse s .range 1
  | some k =>
    if s.present k = false then refuse s .wrongState
    else if k = .maint then (s.leaveMaint, .ok)
    else (s.leaveMode k, .ok)

/-- MODE_EXIT (R175). -/
def execModeExit (src : Byte) (p : List Byte) (s : State) : Host.Outcome State Fault Refusal :=
  .next (s.takeRequest .modeExit src p fun s => s.modeExit p)

/-! ## EVAC (R177 to R179) -/

/-- EVAC enters, and EVAC reasons go to every door of either platform enable set (R178). -/
def State.enterEvac (s : State) : State :=
  let s := s.enterMode .evac
  forDoors s.enabledDoors (fun d s => s.addReason d .evac) s

def State.evacuate (s : State) (p : List Byte) : State × Answer :=
  match flagAt p 0 with
  | none => refuse s .range 1
  | some true =>
    if s.present .evac then refuse s .wrongState
    else if s.outranked .evac then refuse s .overridden
    else (s.enterEvac, .ok)
  | some false => if s.present .evac then (s.leaveMode .evac, .ok) else refuse s .wrongState

/-- EVACUATE (R177). -/
def execEvacuate (src : Byte) (p : List Byte) (s : State) : Host.Outcome State Fault Refusal :=
  .next (s.takeRequest .evacuate src p fun s => s.evacuate p)

/-! ## FIRE (R180 to R182) -/

/-- The doors that receive FIRE at its entry, by FIRE_SCOPE (R181). -/
def State.fireDoors (s : State) : List DoorNo :=
  match s.settings.fireScope with
  | .alignedOnly => s.enabledDoors
  | .allInService => allDoors.filter s.inService

/-- FIRE enters, with its reasons (R181). FIRE outranks every kind, and enters on a change to asserted only (R180). -/
def State.enterFire (s : State) : State :=
  if s.present .fire then s
  else
    let s := s.enterMode .fire
    forDoors s.fireDoors (fun d s => s.addReason d .fire) s

/-- FIRE leaves; its reasons stay on the doors (R182). -/
def State.leaveFire (s : State) : State := if s.present .fire then s.leaveMode .fire else s

/-- The Override Unit takes the level at which the FIRE input stands (R180). -/
def State.takeFire (s : State) : State :=
  if s.firePin = s.ou.fireTaken then s
  else
    let s := { s with ou := { s.ou with fireTaken := s.firePin } }
    if s.firePin then s.enterFire else s.leaveFire

/-- FIRE_CHANGE: the FIRE input stands at a level; the Override Unit takes it unless the part is in reset or STARTING (R180,
R217). -/
def execFireChange (asserted : Bool) (s : State) : Host.Outcome State Fault Refusal :=
  .next (if s.phase = .running then ({ s with firePin := asserted }).takeFire else { s with firePin := asserted })

/-! ## Staff keys (R184 to R187) -/

/-- The key of a door is permitted: the door is in service, and in a platform enable set or under MAINT (R185). -/
def State.keyPermitted (s : State) (d : DoorNo) : Bool := s.inService d && (s.enabled d || s.present .maint)

/-- The staff key of a new reply (R184, R185, R186). -/
def State.takeKey (s : State) (d : DoorNo) (on : Bool) : State :=
  match s.key d, on with
  | .unseen, true => s.setKey d .onNotGranted
  | .unseen, false => s.setKey d .off
  | .off, true =>
    if s.keyPermitted d then (s.addReason d .key).setKey d .onGranted
    else (s.setKey d .onNotGranted).raise .keyRefused d.val []
  | .off, false => s
  | .onGranted, true => s
  | .onNotGranted, true => s
  | .onGranted, false => (s.putReason d false .key).setKey d .off
  | .onNotGranted, false => (s.putReason d false .key).setKey d .off

/-- The staff key off of a comm loss: KEY is removed and the record becomes UNSEEN (R186). -/
def State.loseKey (s : State) (d : DoorNo) : State := (s.putReason d false .key).setKey d .unseen

/-! ## Local panels (R188 to R192) -/

/-- The doors a panel CLOSE acts on: the span doors of the berth that holds the zone, or the zone's doors (R191). -/
def State.panelDoors (s : State) (z : Zone) : List DoorNo :=
  match s.holder z with
  | some b => s.spanDoors b
  | none => s.zoneDoors z

/-- The reasons a panel CLOSE removes (R191). -/
def panelCloseReasons : List Reason := [.release, .fire, .evac, .maint]

/-- A press of CLOSE (R191): ignored while FIRE or EVAC is present. -/
def State.panelClose (s : State) (z : Zone) : State :=
  if s.present .fire ∨ s.present .evac then s
  else
    let s' := s.shutDoors (s.panelDoors z) panelCloseReasons
    match s.holder z with
    | some b => if (s'.berth b).state = .released then (s'.enterProving b .panel).finishProving b else s'
    | none => s'

/-- One door of a RESET_LATCH or a RESET press: a latch reset if HELD, a fault clear if FAULT, and then a stuck clear (R138, R192);
that the stuck clear comes last is the model's order (notes/assumptions/33.md). -/
def State.resetDoor (s : State) (d : DoorNo) : State :=
  let s' := match (s.door d).state with
    | .held => s.latchReset d
    | .fault => s.faultClear d
    | _ => s
  s'.stuckClear d

/-- A press of RESET (R192). -/
def State.panelReset (s : State) (z : Zone) : State := forDoors (s.zoneDoors z) (fun d s => s.resetDoor d) s

/-- Whether a berth passes the checks of R56 with accept-partial set (R190). -/
def Berth.releasable (b : Berth) (creepTol : Nat) : Bool :=
  (b.verdict == some .good || b.verdict == some .partly)
    && (b.state == .berthed || (b.state == .proven && b.standsAsUsed creepTol))

/-- A press of OPEN (R190): under MAINT it adds MAINT to the zone's in-service doors; otherwise it acts as RELEASE with
accept-partial on the berth that holds the zone. -/
def State.panelOpen (s : State) (z : Zone) : State :=
  if s.present .maint then
    forDoors (s.zoneDoors z) (fun d s => if s.inService d then s.addReason d .maint else s) s
  else match s.holder z with
    | some b => if (s.berth b).releasable s.settings.creepTol then s.releaseBerth b else s
    | none => s

/-- A button is pressed at a reply when it is pressed there and was released as last taken; the press acts when the key is on
in the same reply (R188). -/
def pressActs (key now before : Bool) : Bool := key && now && !before

/-- Whether a button is pressed at a reply, acting or not. -/
def pressMade (now before : Bool) : Bool := now && !before

/-- The key and buttons of a new reply of a fitted panel (R188, R189): CLOSE, RESET, OPEN, and no OPEN pressed at the same
reply as CLOSE. -/
def State.panelReply (s : State) (z : Zone) (r : Reply) : State :=
  match s.panel z with
  | none => s
  | some p =>
    let s0 := s.setPanel z (some { p with
      seen := true, key := r.panelKey, openPressed := r.openButton, closePressed := r.closeButton,
      resetPressed := r.resetButton })
    if p.seen = false then s0
    else
      let s1 := if pressActs r.panelKey r.closeButton p.closePressed then s0.panelClose z else s0
      let s2 := if pressActs r.panelKey r.resetButton p.resetPressed then s1.panelReset z else s1
      if pressActs r.panelKey r.openButton p.openPressed && !pressMade r.closeButton p.closePressed then s2.panelOpen z
      else s2

/-- A panel whose slot becomes LOST reads as key off, every button released, UNSEEN (R188). -/
def State.losePanel (s : State) (z : Zone) : State :=
  s.setPanel z ((s.panel z).map fun p =>
    { p with seen := false, key := false, openPressed := false, closePressed := false, resetPressed := false })

/-- A panel that is newly fitted starts afresh, its lamps dark until the next frame (notes/assumptions/1.md), and one no longer fitted
loses its record (R188). -/
def State.refitPanel (s : State) (z : Zone) : State :=
  if s.settings.panelsFitted.fits z then
    match s.panel z with
    | some _ => s
    | none => s.setPanel z (some .fresh)
  else s.setPanel z none

/-! ## DOOR_COMMAND, RESET_LATCH, DOOR_QUERY (R137 to R139) -/

def State.doorCommand (s : State) (p : List Byte) : State × Answer :=
  match doorAt p 0 with
  | none => refuse s .range 1
  | some d =>
    if 1 < u8 p 1 then refuse s .range 2
    else if s.present .maint = false then refuse s .overridden
    else if u8 p 1 = 1 ∧ (s.present .fire ∨ s.present .evac) then refuse s .overridden
    else if s.inService d = false then refuse s .wrongState
    else if u8 p 1 = 0 then (s.addReason d .maint, .ok)
    else ((s.putReason d false .maint).latchReset d, .ok)

/-- DOOR_COMMAND (R137): OPEN is 0 and CLOSE is 1. -/
def execDoorCommand (src : Byte) (p : List Byte) (s : State) : Host.Outcome State Fault Refusal :=
  .next (s.takeRequest .doorCommand src p fun s => s.doorCommand p)

def State.resetLatch (s : State) (p : List Byte) : State × Answer :=
  match doorAt p 0 with
  | none => refuse s .range 1
  | some d => (s.resetDoor d, .ok)

/-- RESET_LATCH (R138). -/
def execResetLatch (src : Byte) (p : List Byte) (s : State) : Host.Outcome State Fault Refusal :=
  .next (s.takeRequest .resetLatch src p fun s => s.resetLatch p)

/-- DOOR_QUERY changes nothing but the model's count of free values used (notes/assumptions/4.md). -/
def State.doorQuery (s : State) (p : List Byte) : State × Answer :=
  match doorAt p 0 with
  | none => refuse s .range 1
  | some d => ({ s with freeSeq := s.freeSeq + 1 }, .accepted (doorQueryData s d))

/-- DOOR_QUERY (R139). -/
def execDoorQuery (src : Byte) (p : List Byte) (s : State) : Host.Outcome State Fault Refusal :=
  .next (s.takeRequest .doorQuery src p fun s => s.doorQuery p)

/-! ## The door timers (R121, R123, R126) -/

/-- MOTION_TIMEOUT (R121). -/
def execMotionTimeout (d : DoorNo) (s : State) : Host.Outcome State Fault Refusal := .next (s.motionExpiry d)

/-- LOCK_PROOF_TIMEOUT (R123). -/
def execLockProofTimeout (d : DoorNo) (s : State) : Host.Outcome State Fault Refusal := .next (s.lockProofExpiry d)

/-- RECLOSE_TIMEOUT (R126). -/
def execRecloseTimeout (d : DoorNo) (s : State) : Host.Outcome State Fault Refusal := .next (s.recloseExpiry d)

end Sys2Proof.Machine
end

