-- ==== Sys2Proof/Machine/Tables.lean ====
section
/-! DEFINITION. The Table Store (chapter 1): table writes with their checks and effects, table reads, the stock profile store
and its pools, saving the image, and judging it. -/

namespace Sys2Proof.Machine

/-! ## Checks (R3, R10, R12, R22) -/

/-- The extent of a platform zone (R3). -/
def zoneExtent (c : Settings) : Zone → Nat × Nat
  | .front => (0, c.zsplit)
  | .rear => (c.zsplit, c.zend)

/-- An opening lies wholly within the extent of its zone: 2·Xlo ≤ 2P − W and 2P + W ≤ 2·Xhi (R3). -/
def PdtEntry.inZone (e : PdtEntry) (c : Settings) : Bool :=
  decide (2 * (zoneExtent c e.zone).1 + e.width ≤ 2 * e.centre ∧ 2 * e.centre + e.width ≤ 2 * (zoneExtent c e.zone).2)

/-- Two openings overlap; openings that touch at one end do not (R3): 2P − W < 2Pq + Wq and 2Pq − Wq < 2P + W. -/
def PdtEntry.overlaps (e q : PdtEntry) : Bool :=
  decide (2 * e.centre < 2 * q.centre + q.width + e.width ∧ 2 * q.centre < 2 * e.centre + e.width + q.width)

/-- The opening of entry d overlaps that of another in-service entry (R3). -/
def Tables.overlapped (t : Tables) (d : DoorNo) (e : PdtEntry) : Bool :=
  allDoors.any fun q => q != d && (t.pdt[q]).inService && e.overlaps t.pdt[q]

/-- The cross-checks of a PDT write that would put the entry in service, in order (R3). -/
def Tables.pdtBadCross (t : Tables) (d : DoorNo) (e : PdtEntry) : Option Nat :=
  if e.inService = false then none
  else if e.inZone t.settings = false then some 5
  else if t.overlapped d e then some 5
  else if (t.classes[e.driveClass]).isNone then some 7
  else if (t.profiles[e.profile]).isNone then some 8
  else none

/-- Every in-service opening lies within its zone under the written extents (R10). -/
def Tables.fitsExtents (t : Tables) (c : Settings) : Bool :=
  allDoors.all fun d => !(t.pdt[d]).inService || (t.pdt[d]).inZone c

/-! ## Effects of an accepted write (R4, R6, R8, R11) -/

/-- Writes one PDT entry and hands on what has changed (R4). An entry written as it was has no effect. -/
def State.writePdt (s : State) (d : DoorNo) (e : PdtEntry) : State :=
  let old := s.pdt d
  if e = old then s
  else
    let s1 := s.setTables { s.ts.tables with pdt := s.ts.tables.pdt.set d e }
    let s2 := if old.inService = true ∧ e.inService = false then s1.pdtOut d
      else if old.inService = false ∧ e.inService = true then s1.pdtIn d
      else s1
    let s3 := if e.driveClass ≠ old.driveClass then s2.clampEffort d else s2
    let s4 := if e.inService then s3.refitZones d else s3
    let s5 := if e.profile ≠ old.profile then s4.applyProfile d else s4
    (s5.judgeLoops).handProofOfZone e.zone

/-- Writes one Drive Class entry: where L falls, or the class was unloaded, every accumulator of the class above the new L is
set to it (R6, R150). -/
def State.writeClass (s : State) (i : Fin 4) (c : DriveClass) : State :=
  let old := s.ts.tables.classes[i]
  let s1 := s.setTables { s.ts.tables with classes := s.ts.tables.classes.set i (some c) }
  if (old.map fun o => decide (c.limit < o.limit)).getD true then
    forDoors (allDoors.filter fun d => (s.pdt d).driveClass == i) (fun d s => s.clampEffort d) s1
  else s1

/-- Writes one Sensing Profile entry and applies it to the zone records of the doors concerned (R8). -/
def State.writeSensing (s : State) (i : Fin 8) (p : SensingProfile) : State :=
  let s1 := s.setTables { s.ts.tables with profiles := s.ts.tables.profiles.set i (some p) }
  forDoors (allDoors.filter fun d => (s.pdt d).profile == i) (fun d s => s.applyProfile d) s1

/-- A lowered REOPEN_LIMIT lowers every reopen count above it (R127). -/
def State.clampReopen (s : State) : State :=
  { s with doors := s.doors.map fun r => { r with reopenCount := min r.reopenCount s.settings.reopenLimit } }

/-- The auto snapshot timer after a settings write (R11, R211): off to on starts it, on to off stops it. -/
def autoTimerAfter (t : Timer) (old new : Bool) : Timer :=
  if new = true ∧ old = false then .running 60000 else if new = false ∧ old = true then .stopped else t

/-- Writes the settings block whole (R11). -/
def State.writeSettings (s : State) (c : Settings) : State :=
  let old := s.settings
  let s1 := s.setTables { s.ts.tables with settings := c }
  let s2 := if c.reopenLimit < old.reopenLimit then s1.clampReopen else s1
  let s3 := { s2 with er := { s2.er with autoTimer := autoTimerAfter s2.er.autoTimer old.autoSnapshot c.autoSnapshot } }
  ((s3.refitPanel .front).refitPanel .rear).judgeLoops

/-! ## TABLE_WRITE (R12) -/

/-- Checks 6 and 7 and the write, by table; the index is within the table's range. -/
def State.writeEntry (s : State) (t : TableId) (i : Nat) (p : List Byte) : State × Answer :=
  match t with
  | .pdt =>
    let r := rawPdtAt p
    let d : DoorNo := Fin.ofNat 48 i
    match r.badField, s.ts.tables.pdtBadCross d r.entry with
    | some f, _ => refuse s .range f
    | none, some f => refuse s .range f
    | none, none => (s.writePdt d r.entry, .ok)
  | .driveClass =>
    let c := driveClassAt p
    match c.badField, c.badCross with
    | some f, _ => refuse s .range f
    | none, some f => refuse s .range f
    | none, none => (s.writeClass (Fin.ofNat 4 i) c, .ok)
  | .sensingProfile =>
    let r := rawSensingAt p
    match r.badField, r.badCross with
    | some f, _ => refuse s .range f
    | none, some f => refuse s .range f
    | none, none => (s.writeSensing (Fin.ofNat 8 i) r.entry, .ok)
  | .settings =>
    let r := rawSettingsAt p
    match r.badField with
    | some f => refuse s .range f
    | none => if s.ts.tables.fitsExtents r.block then (s.writeSettings r.block, .ok) else refuse s .range 4
  | .profile | .store => refuse s .range 1

def State.tableWrite (s : State) (p : List Byte) : State × Answer :=
  if s.ts.saveState = .saving then refuse s .busy
  else if s.present .maint = false then refuse s .overridden
  else if s.berthA.state ≠ .vacant ∨ s.berthB.state ≠ .vacant then refuse s .berthOccupied
  else match tableAt p 0 with
  | none | some .profile | some .store => refuse s .range 1
  | some t => if t.indices ≤ u8 p 1 then refuse s .range 2 else s.writeEntry t (u8 p 1) p

/-- TABLE_WRITE (R12). -/
def execTableWrite (src : Byte) (p : List Byte) (s : State) : Host.Outcome State Fault Refusal :=
  .next (s.takeRequest .tableWrite src p fun s => s.tableWrite p)

/-! ## TABLE_READ (R13) -/

/-- A profile is referenced while its id is in the consist of a berth that is not VACANT (R15). -/
def State.referenced (s : State) (id : Fin 16) : Bool :=
  allBerths.any fun b => (s.berth b).state != .vacant && (s.berth b).consist.any fun x => x.profile == id

def State.tableRead (s : State) (p : List Byte) : State × Answer :=
  match tableAt p 0 with
  | none => refuse s .range 1
  | some t =>
    if t.indices ≤ u8 p 1 then refuse s .range 2
    else
      let head := enc1 (u8 p 0) ++ enc1 (u8 p 1)
      match t with
      | .pdt => (s, .accepted (head ++ pdtData (s.pdt (Fin.ofNat 48 (u8 p 1)))))
      | .driveClass => (s, .accepted (head ++ driveClassData s.ts.tables.classes[Fin.ofNat 4 (u8 p 1)]))
      | .sensingProfile => (s, .accepted (head ++ sensingData s.ts.tables.profiles[Fin.ofNat 8 (u8 p 1)]))
      | .settings => (s, .accepted (head ++ settingsData s.settings))
      | .store => (s, .accepted (head ++ storeData s.ts))
      | .profile =>
        let id : Fin 16 := Fin.ofNat 16 (u8 p 1)
        let pr := s.stock id
        if u8 p 2 = 0 then (s, .accepted (head ++ profileHeaderData pr (s.referenced id)))
        else match pr.cars[u8 p 2 - 1]? with
          | some c => (s, .accepted (head ++ carData c))
          | none => refuse s .range 3

/-- TABLE_READ (R13). -/
def execTableRead (src : Byte) (p : List Byte) (s : State) : Host.Outcome State Fault Refusal :=
  .next (s.takeRequest .tableRead src p fun s => s.tableRead p)

/-! ## Stock profiles (R14 to R18) -/

/-- Replaces a profile, its old records returned to the pools and its new ones taken from them (R14, R16 to R18). -/
def State.setProfile (s : State) (id : Fin 16) (p : StockProfile) : State :=
  let old := s.stock id
  { s with ts := { s.ts with
      tables := { s.ts.tables with stock := s.ts.tables.stock.set id p }
      freeCars := s.ts.freeCars + old.carsHeld - p.carsHeld
      freeDoors := s.ts.freeDoors + old.doorsHeld - p.doorsHeld } }

def State.profileBegin (s : State) (p : List Byte) : State × Answer :=
  if s.ts.saveState = .saving then refuse s .busy
  else match profileAt p 0 with
  | none => refuse s .range 1
  | some id =>
    if u8 p 1 < 1 ∨ 10 < u8 p 1 then refuse s .range 2
    else if 2000 < u16 p 2 then refuse s .range 3
    else if s.referenced id then refuse s .inUse
    else if s.ts.freeCars + (s.stock id).carsHeld < u8 p 1 then refuse s .noSpace
    else (s.setProfile id { state := .building, cars := List.replicate (u8 p 1) none, allowance := u16 p 2 }, .ok)

/-- PROFILE_BEGIN (R16). -/
def execProfileBegin (src : Byte) (p : List Byte) (s : State) : Host.Outcome State Fault Refusal :=
  .next (s.takeRequest .profileBegin src p fun s => s.profileBegin p)

/-- Offsets strictly ascending (R14). -/
def ascending : List ProfileDoor → Bool
  | a :: b :: rest => decide (a.offset < b.offset) && ascending (b :: rest)
  | _ => true

/-- A door list meets R14 and R17: at most 5 entries, each offset within the car length and width within 600..2000, offsets
strictly ascending. -/
def goodDoorList (length : Nat) (ds : List ProfileDoor) : Bool :=
  decide (ds.length ≤ 5) && ds.all (fun e => decide (e.offset ≤ length ∧ 600 ≤ e.width ∧ e.width ≤ 2000)) && ascending ds

/-- The profile with car c written: VALID once every car is (R17). -/
def StockProfile.writeCar (p : StockProfile) (c : Nat) (car : Car) : StockProfile :=
  let cars := p.cars.set (c - 1) (some car)
  { p with cars := cars, state := if cars.all Option.isSome then .valid else p.state }

def State.profileCar (s : State) (p : List Byte) : State × Answer :=
  if s.ts.saveState = .saving then refuse s .busy
  else match profileAt p 0 with
  | none => refuse s .range 1
  | some id =>
    let c := u8 p 1
    let car := carAt p
    let pr := s.stock id
    if c < 1 ∨ 10 < c then refuse s .range 2
    else if pr.state = .empty then refuse s .wrongState
    else if pr.cars.length < c then refuse s .range 2
    else if car.length < 5000 ∨ 30000 < car.length then refuse s .range 3
    else if goodDoorList car.length car.side1 = false then refuse s .range 4
    else if goodDoorList car.length car.side2 = false then refuse s .range 5
    else if s.referenced id then refuse s .inUse
    else if s.ts.freeDoors + carDoors ((pr.cars[c - 1]?).getD none) < carDoors (some car) then refuse s .noSpace
    else (s.setProfile id (pr.writeCar c car), .ok)

/-- PROFILE_CAR (R17). -/
def execProfileCar (src : Byte) (p : List Byte) (s : State) : Host.Outcome State Fault Refusal :=
  .next (s.takeRequest .profileCar src p fun s => s.profileCar p)

def State.profileDelete (s : State) (p : List Byte) : State × Answer :=
  if s.ts.saveState = .saving then refuse s .busy
  else match profileAt p 0 with
  | none => refuse s .range 1
  | some id => if s.referenced id then refuse s .inUse else (s.setProfile id .emptyProfile, .ok)

/-- PROFILE_DELETE (R18). -/
def execProfileDelete (src : Byte) (p : List Byte) (s : State) : Host.Outcome State Fault Refusal :=
  .next (s.takeRequest .profileDelete src p fun s => s.profileDelete p)

/-! ## The nonvolatile image (R19 to R22) -/

/-- An accepted STORE_SAVE withdraws the valid mark and begins to write the contents as they stand, with their check (R20). -/
def State.beginSave (s : State) : State :=
  { s with ts := { s.ts with
      saveState := .saving, imageState := .invalid
      image := { validMark := false, contents := s.ts.tables, check := crc16 (Config.imageBytes s.ts.tables) } } }

def State.storeSave (s : State) : State × Answer :=
  if s.present .maint = false then refuse s .overridden
  else if s.ts.saveState = .saving then refuse s .busy
  else (s.beginSave, .deferred)

/-- STORE_SAVE (R20). -/
def execStoreSave (src : Byte) (p : List Byte) (s : State) : Host.Outcome State Fault Refusal :=
  .next (s.takeRequest .storeSave src p fun s => s.storeSave)

/-- The answer of a save at its end: result SAVE_DONE or SAVE_FAIL (R21, R29, R37). STORE_SAVE is SUPERVISOR's alone. -/
def State.answerSave (s : State) (result : Byte) : State :=
  s.answer srcSupervisor Kind.storeSave.code (.accepted [result])

/-- A save that has failed (R21): the valid mark stays withdrawn, the configuration state is kept. -/
def State.failSave (s : State) : State := ({ s with ts := { s.ts with saveState := .idle } }).answerSave 0x01

/-- A save that has succeeded (R21): the mark is set, and a part that was UNCONFIGURED has its loops judged. -/
def State.succeedSave (s : State) : State :=
  let s1 := { s with ts := { s.ts with
    saveState := .idle, imageState := .valid, config := .configured, image := { s.ts.image with validMark := true } } }
  (if s.ts.config = .unconfigured then s1.judgeLoops else s1).answerSave 0x00

/-- STORE_SAVE_COMPLETE (R21): the read-back has finished; its check matches or does not. -/
def execStoreSaveComplete (readBackMatches : Bool) (s : State) : Host.Outcome State Fault Refusal :=
  .next (if s.ts.saveState = .saving then (if readBackMatches then s.succeedSave else s.failSave) else s)

/-- STORE_SAVE_TIMEOUT (R21): the store has not finished 400 ms after acceptance. -/
def execStoreSaveTimeout (s : State) : Host.Outcome State Fault Refusal :=
  .next (if s.ts.saveState = .saving then s.failSave else s)

/-- A stored Drive Class entry lies within R5. -/
def goodClass : Option DriveClass → Bool
  | none => true
  | some c => c.badField.isNone && c.badCross.isNone

/-- A stored Sensing Profile entry lies within R7. -/
def goodSensing : Option SensingProfile → Bool
  | none => true
  | some p => decide (4 ≤ p.n ∧ p.n ≤ 16 ∧ 1 ≤ p.kOn ∧ p.kOn ≤ p.n ∧ p.kOff < p.kOn)
      && (p.stuckLimit == 0 || decide (100 ≤ p.stuckLimit ∧ p.stuckLimit ≤ 60000))

/-- A stored PDT entry lies within R2 and meets the cross-checks of R3. -/
def Tables.goodPdt (t : Tables) (d : DoorNo) : Bool :=
  decide ((t.pdt[d]).centre ≤ 250000 ∧ 1000 ≤ (t.pdt[d]).width ∧ (t.pdt[d]).width ≤ 3000)
    && (t.pdtBadCross d t.pdt[d]).isNone

def goodCar (c : Car) : Bool :=
  decide (5000 ≤ c.length ∧ c.length ≤ 30000) && goodDoorList c.length c.side1 && goodDoorList c.length c.side2

/-- A stored profile lies within R14 and R17, and its state agrees with its cars. That its coupling allowance, of an EMPTY profile
too, is held to R16's range, which R22 does not list, is the model's reading (notes/assumptions/35.md). -/
def goodProfile (p : StockProfile) : Bool :=
  (match p.state with
    | .empty => p.cars.isEmpty
    | .building => decide (1 ≤ p.cars.length ∧ p.cars.length ≤ 10) && p.cars.any Option.isNone
    | .valid => decide (1 ≤ p.cars.length ∧ p.cars.length ≤ 10) && p.cars.all Option.isSome)
    && decide (p.allowance ≤ 2000) && p.cars.all fun c => (c.map goodCar).getD true

/-- Car records and train-door records held by all profiles together (R14). -/
def Tables.carsHeld (t : Tables) : Nat := (t.stock.toList.map StockProfile.carsHeld).sum
def Tables.doorsHeld (t : Tables) : Nat := (t.stock.toList.map StockProfile.doorsHeld).sum

/-- The contents of an image meet the ranges, the cross-checks and the pools (R22). -/
def Tables.good (t : Tables) : Bool :=
  t.settings.badField.isNone && t.classes.all goodClass && t.profiles.all goodSensing && allDoors.all t.goodPdt
    && t.stock.all goodProfile && decide (t.carsHeld ≤ 96 ∧ t.doorsHeld ≤ 320)

/-- The image is good (R22): its valid mark is set, its check matches, and its contents are good. -/
def Image.good (i : Image) : Bool := i.validMark && (crc16 (Config.imageBytes i.contents) == i.check) && i.contents.good

/-- The start-up load (R22). -/
def TableStore.load (t : TableStore) : TableStore :=
  if t.image.good then
    { t with tables := t.image.contents, freeCars := 96 - t.image.contents.carsHeld,
             freeDoors := 320 - t.image.contents.doorsHeld, config := .configured, imageState := .valid, saveState := .idle }
  else
    { t with tables := .empty, freeCars := 96, freeDoors := 320, config := .unconfigured, imageState := .invalid,
             saveState := .idle }

end Sys2Proof.Machine
end

