-- ==== Sys2Proof/Machine/Ring.lean ====
section
/-! DEFINITION. The ring cycle (chapter 5): the copies taken, the selections, the comm records, the ring state, the handing on
of replies, and the frame of the next cycle. -/

namespace Sys2Proof.Machine

/-! ## Copies and selections (R90, R93) -/

/-- The A reply and the B reply of a slot in the cycle in progress; none is a missing one (R90). -/
def State.replyA (s : State) (i : SlotNo) : Option Reply := s.drm.copyA.bind fun c => replyAt c i
def State.replyB (s : State) (i : SlotNo) : Option Reply := s.drm.copyB.bind fun c => replyAt c i

/-- The selected reply: the A reply where it is valid, else the B reply (R93). -/
def selectReply (a b : Option Reply) : Option Reply := a.or b

def State.selected (s : State) (i : SlotNo) : Option Reply := selectReply (s.replyA i) (s.replyB i)

/-- A copy passes for the cycle in progress: 652 bytes, and a header of its frame kind and cycle number (R90). -/
def RingMaster.passes (m : RingMaster) (copy : List Byte) : Bool :=
  copy.length == 652 && copy.take 2 == [m.kind.code, m.cycleNo]

/-- A copy is taken for the cycle when it passes and none has been taken from its line; otherwise it is discarded whole
(R90). -/
def RingMaster.takeCopy (m : RingMaster) (p : Port) (copy : List Byte) : RingMaster :=
  if m.passes copy then
    match p with
    | .A => if m.copyA.isNone then { m with copyA := some copy } else m
    | .B => if m.copyB.isNone then { m with copyB := some copy } else m
  else m

/-- RING_COPY_RECEIVED (R90); no cycle is in progress before the end of STARTING (R88). -/
def execRingCopyReceived (p : Port) (copy : List Byte) (s : State) : Host.Outcome State Fault Refusal :=
  .next (if s.phase = .running then { s with drm := s.drm.takeCopy p copy } else s)

/-! ## Configured slots (R91) -/

/-- Whether a slot is configured as the tables stand at this moment (R91). -/
def State.configured (s : State) (i : SlotNo) : Bool :=
  match doorOfSlot i, panelOfSlot i with
  | some d, _ => (s.pdt d).inService
  | none, some z => s.settings.panelsFitted.fits z
  | none, none => false

/-- The configured set is taken: a slot that joins starts afresh, one that leaves loses its comm record (R91). -/
def State.takeConfigured (s : State) : State :=
  { s with drm := { s.drm with
      comm := Vector.ofFn fun i : SlotNo => if s.configured i then some ((s.comm i).getD .fresh) else none } }

/-! ## Comm records (R97) -/

/-- A comm record's move at a cycle close (R97). -/
def CommRec.move (c : CommRec) (holdCycles : Nat) (sel : Option Reply) : CommRec :=
  match c.state, sel with
  | .lost, some r =>
    if c.run + 1 = 3 then { state := .live, miss := 0, run := 0, held := some r } else { c with run := c.run + 1 }
  | .lost, none => { c with run := 0, miss := min 255 (c.miss + 1) }
  | _, some r => { c with state := .live, miss := 0, held := some r }
  | .noReply, none =>
    let m := min 255 (c.miss + 1)
    { c with miss := m, state := if holdCycles < m then .lost else .noReply }
  | .live, none => { c with miss := 1, state := if holdCycles < 1 then .lost else .holding }
  | .holding, none =>
    let m := min 255 (c.miss + 1)
    { c with miss := m, state := if holdCycles < m then .lost else .holding }

/-- What a slot's move hands on: the new reply of a LIVE slot (R95), a loss (R99), a recovery with its third reply (R100), or
nothing. -/
inductive Handing where
  | nothing
  | reply (r : Reply)
  | loss
  | recovery (r : Reply)
deriving DecidableEq, Repr

def handingOf (before after : CommState) (sel : Option Reply) : Handing :=
  match before, after, sel with
  | .lost, .live, some r => .recovery r
  | _, .live, some r => .reply r
  | .lost, .lost, _ => .nothing
  | _, .lost, _ => .loss
  | _, _, _ => .nothing

/-- The handing of one slot at a cycle close whose configured set is taken; none for a slot that is not configured. -/
def State.handing (s : State) (i : SlotNo) : Option Handing :=
  (s.comm i).map fun c =>
    handingOf c.state (c.move s.settings.holdCycles (s.selected i)).state (s.selected i)

/-- Every comm record moves, with HOLD_CYCLES as it stands (R97). -/
def State.moveComm (s : State) : State :=
  { s with drm := { s.drm with
      comm := Vector.ofFn fun i : SlotNo => (s.comm i).map fun c => c.move s.settings.holdCycles (s.selected i) } }

/-- The counters of a configured door slot at a cycle close: DISAGREE for two valid replies that differ in bytes 1 to 6 (R94),
COMM_MISSES for a missing reply (R97). -/
def ringCounts (a b : Option Reply) (c : DoorCounters) : DoorCounters :=
  match a, b with
  | some x, some y => if x = y then c else c.incDisagree
  | none, none => c.incCommMisses
  | _, _ => c

/-- DISAGREE and COMM_MISSES of every configured door slot. -/
def State.countRing (s : State) : State :=
  { s with doors := Vector.ofFn fun d : DoorNo =>
      if s.configured (slotOfDoor d) then
        (s.door d).count (ringCounts (s.replyA (slotOfDoor d)) (s.replyB (slotOfDoor d)))
      else s.door d }

/-! ## Ring state (R96) -/

/-- The ring state and break position of a cycle close (R96). -/
def State.judgedRing (s : State) : RingState × Option Nat :=
  let slots := allSlots.filter s.configured
  if slots.all fun i => (s.replyA i).isSome && (s.replyB i).isSome then (.intact, none)
  else if slots.any fun i => (s.replyA i).isSome != (s.replyB i).isSome then
    (.openRing, some (((slots.find? fun i => (s.replyA i).isNone).map fun i => i.val).getD 50))
  else (s.drm.ring, s.drm.breakPos)

/-- The ring is judged, and a change offers RING_STATE (R96). -/
def State.judgeRing (s : State) : State :=
  let r := s.judgedRing
  if r = (s.drm.ring, s.drm.breakPos) then s
  else
    ({ s with drm := { s.drm with ring := r.1, breakPos := r.2 } }).raise .ringState edgeSubject
      (enc1 r.1.code ++ encOpt1 r.2)

/-! ## Handing on (R92, R95, R99, R100, R101) -/

/-- A new reply of a door slot, in the order of R95. -/
def State.handReply (s : State) (d : DoorNo) (r : Reply) : State :=
  (((s.takeSensors d r).takeCurrent d r.current.toNat).applyStatus d r.unitStatus r.isoKey).takeKey d r.staffKey

/-- A door slot becomes LOST (R99). -/
def State.handLoss (s : State) (d : DoorNo) : State :=
  (((s.raise .commLost d.val []).commLostNotice d).forceZones d).loseKey d

/-- A door slot recovers (R100). That the sensor bits of the third reply are each zone's first sample also at a door that this reply
returns to service, where R164 discards the bits of the reply that returns a door, is the model's reading
(notes/assumptions/24.md). -/
def State.handRecovery (s : State) (d : DoorNo) (r : Reply) : State :=
  (((s.raise .commRecovered d.val []).recoverZones d).readoptEvent d r.unitStatus r.isoKey true).handReply d r

/-- What a door slot hands on. -/
def State.handDoorSlot (s : State) (d : DoorNo) : Handing → State
  | .nothing => s
  | .reply r => s.handReply d r
  | .loss => s.handLoss d
  | .recovery r => s.handRecovery d r

/-- A door slot that is not configured hands the isolation key of its selected reply alone (R92). -/
def State.handKeyAlone (s : State) (d : DoorNo) : Option Reply → State
  | some r => s.setDoor d { s.door d with isoKey := some r.isoKey }
  | none => s

/-- What a fitted panel's slot hands on (R99 to R101). -/
def State.handPanelSlot (s : State) (z : Zone) : Handing → State
  | .nothing => s
  | .reply r => s.panelReply z r
  | .loss => (s.raise .commLost (slotOfPanel z).val []).losePanel z
  | .recovery r => (s.raise .commRecovered (slotOfPanel z).val []).panelReply z r

/-- One slot's hand-over at the cycle close, by its handing and its selected reply. -/
def State.handSlot (s : State) (i : SlotNo) (h : Option Handing) (sel : Option Reply) : State :=
  match doorOfSlot i, panelOfSlot i, h with
  | some d, _, some h => s.handDoorSlot d h
  | some d, _, none => s.handKeyAlone d sel
  | none, some z, some h => s.handPanelSlot z h
  | none, _, _ => s

/-! ## The cycle (R88, R89) -/

/-- The order byte of a slot as the frame is built (R89). -/
def State.orderByte (s : State) (i : SlotNo) : Byte :=
  match doorOfSlot i, panelOfSlot i with
  | some d, _ => if (s.pdt d).inService then BitVec.ofNat 8 (s.door d).order.code else 0
  | none, some z =>
    match s.panel z with
    | some p => mapByte [p.lampProven, p.lampDoorsOpen, p.lampAlarm] 0
    | none => 0
  | none, none => 0

/-- A cycle starts (R88): the panel lamps are set, the frame is built and sent out of both ports, and neither line has brought
a copy back. -/
def State.startCycle (s : State) (n : BitVec 8) : State :=
  let s := (s.setLamps .front).setLamps .rear
  let t := s.drm.test
  let drawn := if t.status = .run then drawWords t.gen t.slots else (t.gen, [])
  { s with drm := { s.drm with
      cycleNo := n
      period := s.settings.ringPeriod
      kind := if t.status = .run then .test else .normal
      judged := decide (t.status = .run)
      frame := Vector.ofFn fun i : SlotNo => { order := s.orderByte i, testWord := sentWord drawn.2 i }
      copyA := none
      copyB := none
      test := if t.status = .run then { t with gen := drawn.1, slots := drawn.2.map Prod.fst } else t } }

/-- The order in which the slots are handed on: the one given, each slot once, then the rest in ascending order (R95). -/
def slotOrder (order : List SlotNo) : List SlotNo := order.eraseDups ++ allSlots.filter fun i => !order.contains i

/-- The selections of a cycle close and all that the DRM judges by them: the counters, the comm records, the ring state and the
ring test (R91, R93 to R97, R104). -/
def State.closeSelections (s : State) : State :=
  (s.takeConfigured.countRing.moveComm.judgeRing).judgeTest s.selected

/-- The hand-overs of a cycle close (R92, R95, R99 to R101). -/
def State.closeHanding (s : State) (order : List SlotNo) : State :=
  let taken := s.takeConfigured
  (slotOrder order).foldl (fun t i => t.handSlot i (taken.handing i) (s.selected i)) s.closeSelections

/-- A cycle close, and the start of the next cycle (R88, R93). -/
def State.closeCycle (s : State) (order : List SlotNo) : State :=
  (s.closeHanding order).startCycle (s.drm.cycleNo + 1)

/-- CYCLE_CLOSE (R93). -/
def execCycleClose (order : List SlotNo) (s : State) : Host.Outcome State Fault Refusal :=
  .next (if s.phase = .running then s.closeCycle order else s)

end Sys2Proof.Machine
end

