-- ==== Sys2Proof/Machine/Link.lean ====
section
/-! DEFINITION. The Line Link Interface (chapter 2): the receive checker, link supervision and recovery, and the end of a
telegram sent. -/

namespace Sys2Proof.Machine

/-- How the receive checker judges a run (R23). -/
inductive RunVerdict where
  | lengthError
  | crcError
  | valid (cls src kind : Byte) (payload : List Byte)
deriving DecidableEq, Repr

/-- The five checks of R23, in order, over the framing of R36. -/
def judgeRun (run : List Byte) : RunVerdict :=
  if run.take 2 ≠ [0xC3, 0x3C] then .lengthError
  else if run.length < 8 then .lengthError
  else if 240 < u8 run 5 then .lengthError
  else if run.length ≠ 8 + u8 run 5 then .lengthError
  else if encWord (crc16 ((run.drop 2).take (4 + u8 run 5))) ≠ run.drop (6 + u8 run 5) then .crcError
  else .valid (run.getD 2 0) (run.getD 3 0) (run.getD 4 0) ((run.drop 6).take (u8 run 5))

/-- A discarded run sets the valid-run count to 0 and adds one to its counter (R23, R35). -/
def LineLink.discard (l : LineLink) (crc : Bool) : LineLink :=
  { l with
    validRun := 0
    crcErrors := if crc then satInc l.crcErrors else l.crcErrors
    lengthErrors := if crc then l.lengthErrors else satInc l.lengthErrors }

/-- The link becomes UP and offers EDGE_STATUS and both BERTH_STATUS reports (R33). -/
def State.recoverLink (s : State) : State :=
  let s := { s with lli := { s.lli with link := .up, validRun := 3 } }
  (s.offerEdgeStatus.offerBerthStatus .A).offerBerthStatus .B

/-- A valid telegram restarts the link timer and, while the link is LOST, counts towards recovery (R24, R32). -/
def State.superviseLink (s : State) : State :=
  let s := { s with lli := { s.lli with linkTimer := .running s.settings.linkTimeout } }
  if s.lli.link = .up then s
  else if s.lli.validRun + 1 < 3 then { s with lli := { s.lli with validRun := s.lli.validRun + 1 } }
  else s.recoverLink

/-- A valid request that arrives, or has completed the recovery, while the link is UP waits to be routed, unless 16 wait
(R27). -/
def LineLink.await (l : LineLink) (r : Request) : LineLink :=
  if l.link = .up ∧ l.waiting.length < 16 then { l with waiting := l.waiting ++ [r] } else l

/-- One run is taken (R23, R24). -/
def State.takeRun (s : State) (run : List Byte) : State :=
  match judgeRun run with
  | .lengthError => { s with lli := s.lli.discard false }
  | .crcError => { s with lli := s.lli.discard true }
  | .valid cls src kind payload =>
    let s := s.superviseLink
    if cls = requestClass then { s with lli := s.lli.await { src := src, kind := kind, payload := payload } } else s

/-- LINE_RUN_RECEIVED (R23): discarded without being checked or counted unless the part runs. -/
def execLineRunReceived (run : List Byte) (s : State) : Host.Outcome State Fault Refusal :=
  .next (if s.phase = .running then s.takeRun run else s)

/-- The link timer expires (R32, R27): in UP the link is LOST, in LOST the run is broken. It starts again with the next valid
telegram. -/
def State.expireLink (s : State) : State :=
  match s.lli.link with
  | .up =>
    { s with
      lli := { s.lli with
        link := .lost, linkTimer := .stopped, validRun := 0, degraded := true, waiting := [], txQueue := [] }
      er := { s.er with eventsLost := true } }
  | .lost => { s with lli := { s.lli with linkTimer := .stopped, validRun := 0 } }

/-- LINK_TIMEOUT (R32). -/
def execLinkTimeout (s : State) : Host.Outcome State Fault Refusal :=
  .next (if s.lli.linkTimer = .stopped then s else s.expireLink)

/-- TRANSMIT_COMPLETE (R30): the transmitter is free, and takes the oldest waiting telegram, if any. -/
def execTransmitComplete (s : State) : Host.Outcome State Fault Refusal :=
  .next (if s.lli.sending.isSome then { s with lli := LineLink.pump { s.lli with sending := none } } else s)

end Sys2Proof.Machine
end

