-- ==== Sys2Proof/Machine/Events.lean ====
section
/-! DEFINITION. The Event Reporter (chapter 11): acknowledgement, mask, change map, edge status, snapshots, counters and
identity. -/

namespace Sys2Proof.Machine

/-! ## The change map and the mask (R207 to R209) -/

/-- Every flag of the change map cleared. -/
def EventReporter.clearAll (e : EventReporter) : EventReporter :=
  { e with doorFlags := Vector.replicate 48 false, berthFlagA := false, berthFlagB := false }

/-- The flags of the listed doors and berths cleared. -/
def EventReporter.clearListed (e : EventReporter) (ds : List DoorNo) (bs : List BerthId) : EventReporter :=
  bs.foldl (fun e b => e.setBerthFlag b false)
    { e with doorFlags := Vector.ofFn fun d : DoorNo => e.doorFlags[d] && !ds.contains d }

def State.eventAck (s : State) (p : List Byte) : State × Answer :=
  match flagAt p 0, ackDoors p, ackBerths p with
  | none, _, _ => refuse s .range 1
  | _, none, _ => refuse s .range 2
  | _, _, none => refuse s .range 3
  | some true, some _, some _ => ({ s with er := s.er.clearAll }, .ok)
  | some false, some ds, some bs => ({ s with er := s.er.clearListed ds bs }, .ok)

/-- EVENT_ACK (R207). -/
def execEventAck (src : Byte) (p : List Byte) (s : State) : Host.Outcome State Fault Refusal :=
  .next (s.takeRequest .eventAck src p fun s => s.eventAck p)

def State.eventMask (s : State) (p : List Byte) : State × Answer := ({ s with er := { s.er with mask := maskAt p } }, .ok)

/-- EVENT_MASK (R208). -/
def execEventMask (src : Byte) (p : List Byte) (s : State) : Host.Outcome State Fault Refusal :=
  .next (s.takeRequest .eventMask src p fun s => s.eventMask p)

def State.changeMap (s : State) : State × Answer := (s, .accepted (changeMapData s.er))

/-- CHANGE_MAP (R209). -/
def execChangeMap (src : Byte) (p : List Byte) (s : State) : Host.Outcome State Fault Refusal :=
  .next (s.takeRequest .changeMap src p fun s => s.changeMap)

/-! ## Edge status and identity (R210, R214) -/

/-- The answer is an EDGE_STATUS: its admission clears EVENTS_LOST and the degraded flag (R34, R210). -/
def State.edgeQuery (s : State) : State × Answer :=
  (if s.lli.admits .answer then s.edgeStatusAdmitted else s, .accepted (edgeStatusData s))

/-- EDGE_QUERY (R210). -/
def execEdgeQuery (src : Byte) (p : List Byte) (s : State) : Host.Outcome State Fault Refusal :=
  .next (s.takeRequest .edgeQuery src p fun s => s.edgeQuery)

def State.ident (s : State) : State × Answer := (s, .accepted identData)

/-- IDENT (R214). -/
def execIdent (src : Byte) (p : List Byte) (s : State) : Host.Outcome State Fault Refusal :=
  .next (s.takeRequest .ident src p fun s => s.ident)

/-! ## Snapshots and counters (R211 to R213) -/

/-- The live counters as they stand, as a snapshot set (R211, step 1). -/
def State.liveCounters (s : State) : SnapshotSet :=
  { doors := s.doors.map Door.counters, crcErrors := s.lli.crcErrors, lengthErrors := s.lli.lengthErrors,
    txDrops := s.lli.txDrops }

/-- A snapshot (R211, steps 1 to 4). -/
def State.takeSnapshot (s : State) : State :=
  { s with
    doors := s.doors.map fun r => { r with counters := .zero }
    lli := { s.lli with crcErrors := 0, lengthErrors := 0, txDrops := 0 }
    er := { s.er with
      snap := s.liveCounters, seq := s.er.seq + 1
      autoTimer := if s.settings.autoSnapshot then .running 60000 else s.er.autoTimer } }

def State.snapshot (s : State) : State × Answer := (s.takeSnapshot, .accepted [s.er.seq + 1])

/-- SNAPSHOT (R212). -/
def execSnapshot (src : Byte) (p : List Byte) (s : State) : Host.Outcome State Fault Refusal :=
  .next (s.takeRequest .snapshot src p fun s => s.snapshot)

def State.counterRead (s : State) (p : List Byte) : State × Answer :=
  if 47 < u8 p 0 then refuse s .range 1
  else if u8 p 1 = 0 ∨ 14 < u8 p 1 then refuse s .range 2
  else (s, .accepted (counterReadData s.er (u8 p 0) (u8 p 1)))

/-- COUNTER_READ (R213). -/
def execCounterRead (src : Byte) (p : List Byte) (s : State) : Host.Outcome State Fault Refusal :=
  .next (s.takeRequest .counterRead src p fun s => s.counterRead p)

/-- AUTO_SNAPSHOT_TIMEOUT (R211): the timer has run out, and a snapshot is made. -/
def execAutoSnapshotTimeout (s : State) : Host.Outcome State Fault Refusal :=
  .next (if s.er.autoTimer = .stopped then s
    else ({ s with er := { s.er with autoTimer := .stopped } }).takeSnapshot)

end Sys2Proof.Machine
end

