-- ==== Sys2Proof/Machine/Reset.lean ====
section
/-! DEFINITION. Resets and start-up (section 11.5): the four reset kinds, the supply and the reset input, and the end of
STARTING. -/

namespace Sys2Proof.Machine

/-- Every block at its reset values (R215). The nonvolatile image, the levels of the inputs and the queue of commands are not
reset; a save that was in flight has already withdrawn its valid mark (R21). -/
def State.resetAll (s : State) (ph : Phase) (cause : ResetKind) : State :=
  { State.reset with
    phase := ph, supplyOk := s.supplyOk, resetLine := s.resetLine, firePin := s.firePin
    ts := { TableStore.reset with image := s.ts.image }
    er := .reset cause, freeSeq := s.freeSeq, pending := s.pending }

/-- A reset kind whose cause is over: STARTING begins with its cause recorded, unless the supply or the reset input still holds
the part in reset (R215). -/
def State.startUp (s : State) (k : ResetKind) : State :=
  if s.supplyOk = true ∧ s.resetLine = false then s.resetAll .starting k else s.resetAll .inReset s.er.cause

/-- PART_RESET (R216): a reset of kind LINK_RESET, not answered. -/
def execPartReset (src : Byte) (p : List Byte) (s : State) : Host.Outcome State Fault Refusal :=
  .next (s.takeRequest .partReset src p fun s => (s.startUp .linkReset, .deferred))

/-- POWER_ON: the supply rises from off (R215). -/
def execPowerOn (s : State) : Host.Outcome State Fault Refusal := .next (({ s with supplyOk := true }).startUp .powerOn)

/-- SUPPLY_DIP: the supply has dipped below its operating level and returned (R215). -/
def execSupplyDip (s : State) : Host.Outcome State Fault Refusal := .next (({ s with supplyOk := true }).startUp .supplyDip)

/-- SUPPLY_FALL: the supply falls below its operating level, and the part is held in reset (R215). -/
def execSupplyFall (s : State) : Host.Outcome State Fault Refusal :=
  .next (({ s with supplyOk := false }).resetAll .inReset s.er.cause)

/-- RESET_LINE_ASSERTED: the part is held in reset (R215). -/
def execResetLineAsserted (s : State) : Host.Outcome State Fault Refusal :=
  .next (({ s with resetLine := true }).resetAll .inReset s.er.cause)

/-- RESET_LINE_RELEASED: STARTING begins with cause RESET_LINE (R215). -/
def execResetLineReleased (s : State) : Host.Outcome State Fault Refusal :=
  .next (if s.resetLine then ({ s with resetLine := false }).startUp .resetLine else s)

/-! ## The end of STARTING (R217, R22) -/

/-- The door record of an out-of-service entry takes OUT_OF_SERVICE; it sets no flag and offers no event (R118, R205). -/
def State.startDoors (s : State) : State :=
  { s with doors := Vector.ofFn fun d : DoorNo => if (s.pdt d).inService then s.door d else (s.door d).enterOut }

/-- A zone record for every fitted zone of every in-service entry (R153). -/
def State.startZones (s : State) : State :=
  { s with zones := Vector.ofFn fun d : DoorNo =>
      Vector.ofFn fun z : Fin 6 => if (s.pdt d).inService && (s.pdt d).fitted[z] then some ZoneRec.fresh else none }

/-- The auto snapshot timer starts if AUTO_SNAPSHOT is on (R211). -/
def State.startAuto (s : State) : State :=
  { s with er := { s.er with autoTimer := if s.settings.autoSnapshot then .running 60000 else .stopped } }

/-- The image is loaded, and each block has its records under the loaded tables (R22, R91, R118, R153, R188). -/
def State.loadTables (s : State) : State :=
  let s1 := ({ s with phase := .running, ts := s.ts.load }).startDoors.startZones
  (s1.takeConfigured.refitPanel .front).refitPanel .rear

/-- The part begins its work (R217): the first cycle, both loops, the FIRE input, the auto snapshot timer. -/
def State.beginWork (s : State) : State := ((s.loadTables.startCycle 0).judgeLoops.takeFire).startAuto

/-- STARTING_END (R217). -/
def execStartingEnd (s : State) : Host.Outcome State Fault Refusal :=
  .next (if s.phase = .starting then s.beginWork else s)

end Sys2Proof.Machine
end

