-- ==== Sys2Proof/Machine/Dispatch.lean ====
section
/-! DEFINITION. One arm per command, each one direct call of its meaning. -/

namespace Sys2Proof.Machine

def exec (i : Instr) (s : State) : Host.Outcome State Fault Refusal :=
  match i with
  | .lineRunReceived run => Sys2Proof.Machine.execLineRunReceived run s
  | .linkTimeout => Sys2Proof.Machine.execLinkTimeout s
  | .transmitComplete => Sys2Proof.Machine.execTransmitComplete s
  | .unknownKindRequest src kind p => Sys2Proof.Machine.execUnknownKindRequest src kind p s
  | .arrival src p => Sys2Proof.Machine.execArrival src p s
  | .stopReport src p => Sys2Proof.Machine.execStopReport src p s
  | .release src p => Sys2Proof.Machine.execRelease src p s
  | .close src p => Sys2Proof.Machine.execClose src p s
  | .cancel src p => Sys2Proof.Machine.execCancel src p s
  | .departed src p => Sys2Proof.Machine.execDeparted src p s
  | .evacuate src p => Sys2Proof.Machine.execEvacuate src p s
  | .berthQuery src p => Sys2Proof.Machine.execBerthQuery src p s
  | .alignDetail src p => Sys2Proof.Machine.execAlignDetail src p s
  | .doorQuery src p => Sys2Proof.Machine.execDoorQuery src p s
  | .edgeQuery src p => Sys2Proof.Machine.execEdgeQuery src p s
  | .ident src p => Sys2Proof.Machine.execIdent src p s
  | .tableWrite src p => Sys2Proof.Machine.execTableWrite src p s
  | .tableRead src p => Sys2Proof.Machine.execTableRead src p s
  | .profileBegin src p => Sys2Proof.Machine.execProfileBegin src p s
  | .profileCar src p => Sys2Proof.Machine.execProfileCar src p s
  | .profileDelete src p => Sys2Proof.Machine.execProfileDelete src p s
  | .storeSave src p => Sys2Proof.Machine.execStoreSave src p s
  | .storeSaveComplete ok => Sys2Proof.Machine.execStoreSaveComplete ok s
  | .storeSaveTimeout => Sys2Proof.Machine.execStoreSaveTimeout s
  | .modeEnter src p => Sys2Proof.Machine.execModeEnter src p s
  | .modeExit src p => Sys2Proof.Machine.execModeExit src p s
  | .doorCommand src p => Sys2Proof.Machine.execDoorCommand src p s
  | .resetLatch src p => Sys2Proof.Machine.execResetLatch src p s
  | .ringTestStart src p => Sys2Proof.Machine.execRingTestStart src p s
  | .ringTestStop src p => Sys2Proof.Machine.execRingTestStop src p s
  | .ringTestInsert src p => Sys2Proof.Machine.execRingTestInsert src p s
  | .ringTestResult src p => Sys2Proof.Machine.execRingTestResult src p s
  | .eventAck src p => Sys2Proof.Machine.execEventAck src p s
  | .eventMask src p => Sys2Proof.Machine.execEventMask src p s
  | .changeMap src p => Sys2Proof.Machine.execChangeMap src p s
  | .snapshot src p => Sys2Proof.Machine.execSnapshot src p s
  | .counterRead src p => Sys2Proof.Machine.execCounterRead src p s
  | .partReset src p => Sys2Proof.Machine.execPartReset src p s
  | .powerOn => Sys2Proof.Machine.execPowerOn s
  | .supplyDip => Sys2Proof.Machine.execSupplyDip s
  | .resetLineAsserted => Sys2Proof.Machine.execResetLineAsserted s
  | .resetLineReleased => Sys2Proof.Machine.execResetLineReleased s
  | .startingEnd => Sys2Proof.Machine.execStartingEnd s
  | .fireChange level => Sys2Proof.Machine.execFireChange level s
  | .ringCopyReceived port copy => Sys2Proof.Machine.execRingCopyReceived port copy s
  | .cycleClose order => Sys2Proof.Machine.execCycleClose order s
  | .motionTimeout d => Sys2Proof.Machine.execMotionTimeout d s
  | .lockProofTimeout d => Sys2Proof.Machine.execLockProofTimeout d s
  | .recloseTimeout d => Sys2Proof.Machine.execRecloseTimeout d s
  | .proofTimeout b => Sys2Proof.Machine.execProofTimeout b s
  | .autoSnapshotTimeout => Sys2Proof.Machine.execAutoSnapshotTimeout s
  | .supplyFall => Sys2Proof.Machine.execSupplyFall s

end Sys2Proof.Machine
end

