-- ==== Sys2Proof/Safety.lean ====
section
/-! DEFINITION. The terms in which claims are stated: a request that is taken, what its answer adds, what a command leaves
alone and what it tells the station, what a reset leaves, the checks of the requests read off the payload, the alignment, a ring
test, a re-adoption and a table write in the manual's own terms, and the invariants of every step. -/

namespace Sys2Proof.Machine

/-! ## Requests and their answers -/

/-- A request stands first in the request order of a running part whose link is UP (R27), with its payload. -/
abbrev Stands (s : State) (kind src : Byte) (p : List Byte) : Prop :=
  s.phase = .running ∧ s.lli.link = .up ∧ s.lli.waiting.head? = some { src := src, kind := kind, payload := p }

/-- A request that stands first and passes the checks of R25. -/
abbrev Taken (s : State) (k : Kind) (src : Byte) (p : List Byte) : Prop :=
  Stands s k.code src p ∧ k.senders.permit src = true ∧ p.length = payloadSize k p

/-- The state once an ACCEPTED answer with this data has been offered (R28, R37). -/
def State.accepted (s : State) (k : Kind) (src : Byte) (data : List Byte) : State :=
  s.offer { cls := .answer, kind := k.code, payload := [k.code, src, 0x00, 0x00, 0x00] ++ data }

/-- The state once a REFUSED answer has been offered (R28, R37); the field number is 0 unless the code is RANGE. -/
def State.refused (s : State) (kind src : Byte) (c : Code) (field : Nat) : State :=
  s.offer { cls := .answer, kind := kind, payload := [kind, src, 0x01, c.value, BitVec.ofNat 8 field] }

/-- The command that is the request of a kind. -/
def requestCmd (k : Kind) (src : Byte) (p : List Byte) : Instr :=
  match k with
  | .arrival => .arrival src p
  | .stopReport => .stopReport src p
  | .release => .release src p
  | .close => .close src p
  | .cancel => .cancel src p
  | .departed => .departed src p
  | .evacuate => .evacuate src p
  | .berthQuery => .berthQuery src p
  | .alignDetail => .alignDetail src p
  | .doorQuery => .doorQuery src p
  | .edgeQuery => .edgeQuery src p
  | .ident => .ident src p
  | .tableWrite => .tableWrite src p
  | .tableRead => .tableRead src p
  | .profileBegin => .profileBegin src p
  | .profileCar => .profileCar src p
  | .profileDelete => .profileDelete src p
  | .storeSave => .storeSave src p
  | .modeEnter => .modeEnter src p
  | .modeExit => .modeExit src p
  | .doorCommand => .doorCommand src p
  | .resetLatch => .resetLatch src p
  | .ringTestStart => .ringTestStart src p
  | .ringTestStop => .ringTestStop src p
  | .ringTestInsert => .ringTestInsert src p
  | .ringTestResult => .ringTestResult src p
  | .eventAck => .eventAck src p
  | .eventMask => .eventMask src p
  | .changeMap => .changeMap src p
  | .snapshot => .snapshot src p
  | .counterRead => .counterRead src p
  | .partReset => .partReset src p

/-- A telegram as the station frames it (R36). -/
def telegramOf (cls src kind : Byte) (payload : List Byte) : List Byte :=
  let body := [cls, src, kind, BitVec.ofNat 8 payload.length] ++ payload
  [0xC3, 0x3C] ++ body ++ encWord (crc16 body)

/-! ## What a command leaves alone -/

/-- The link interface differs at most in its queue, its transmitter, TX_DROPS and the waiting requests. -/
abbrev QueueOnly (l l' : LineLink) : Prop :=
  l' = { l with waiting := l'.waiting, txQueue := l'.txQueue, sending := l'.sending, txDrops := l'.txDrops }

/-- The Event Reporter differs at most in its change map and EVENTS_LOST. -/
abbrev MapOnly (e e' : EventReporter) : Prop :=
  e' = { e with doorFlags := e'.doorFlags, berthFlagA := e'.berthFlagA, berthFlagB := e'.berthFlagB,
                eventsLost := e'.eventsLost }

/-- Nothing changes but door records, the loops, the berths, the transmit queue, the waiting requests, the change map and
EVENTS_LOST. -/
abbrev DoorsAndBerthsOnly (s t : State) : Prop :=
  t = { s with doors := t.doors, loopFront := t.loopFront, loopRear := t.loopRear, berthA := t.berthA, berthB := t.berthB,
               lli := t.lli, er := t.er }
    ∧ QueueOnly s.lli t.lli ∧ MapOnly s.er t.er

/-- Nothing changes but the berths, the transmit queue, the waiting requests, the change map and EVENTS_LOST. -/
abbrev BerthsOnly (s t : State) : Prop :=
  t = { s with berthA := t.berthA, berthB := t.berthB, lli := t.lli, er := t.er }
    ∧ QueueOnly s.lli t.lli ∧ MapOnly s.er t.er

/-! ## What a command tells the station -/

/-- The link interface once each of some telegrams has been offered, in their order (R30, R31). -/
def LineLink.offers (l : LineLink) (ts : List Telegram) : LineLink := ts.foldl LineLink.offer l

/-- Whether some event among telegrams offered in their order is dropped: the link is LOST, or 12 or more telegrams wait (R31). -/
def LineLink.losesEvent (l : LineLink) : List Telegram → Bool
  | [] => false
  | t :: ts => decide (t.cls = .event ∧ (l.link = .lost ∨ 12 ≤ l.txQueue.length)) || (l.offer t).losesEvent ts

/-- From `s` to `t` these telegrams are offered, in their order, and nothing else is; EVENTS_LOST is set where one of their events is
dropped, and otherwise stands (R31, R206). -/
abbrev Tells (s t : State) (ts : List Telegram) : Prop :=
  t.lli = s.lli.offers ts ∧ t.er.eventsLost = (s.er.eventsLost || s.lli.losesEvent ts)

/-- The telegram of one event handed to the Event Reporter; none for a masked kind (R206, R208). -/
def State.eventOf (s : State) (e : EventKind) (subject : Nat) (items : List Byte) : List Telegram :=
  if s.er.mask[e.idx] then [] else [{ cls := .event, kind := e.code, payload := enc1 subject ++ items }]

/-- DOOR_CHANGE of a door's record as it stands (R116, R206). -/
def State.doorChange (t : State) (d : DoorNo) : List Telegram :=
  t.eventOf .doorChange d.val (enc1 (t.door d).state.code ++ encOpt1 (t.door d).causeCode)

/-- BERTH_CHANGE of a berth to a state with a close cause (R45, R206). -/
def State.berthChangeTo (t : State) (b : BerthId) (st : BerthState) (cause : Option CloseCause) (train : Nat) : List Telegram :=
  t.eventOf .berthChange (berthCode b) (enc1 st.code ++ encOpt1 (cause.map CloseCause.code) ++ enc2 train)

/-- BERTH_CHANGE of a berth's record as it stands. -/
def State.berthChange (t : State) (b : BerthId) : List Telegram :=
  t.berthChangeTo b (t.berth b).state (t.berth b).closeCause ((t.berth b).trainNumber.getD 0)

/-- MODE_CHANGE of an override kind that enters (0) or leaves (1), with the effective mode as it then stands (R173, R206). -/
def State.modeChange (t : State) (k : OverrideKind) (left : Nat) : List Telegram :=
  t.eventOf .modeChange 0xFF (enc1 k.code ++ enc1 left ++ enc1 t.modeCode)

/-- A berth's change flag (R205). -/
def EventReporter.berthFlag (e : EventReporter) : BerthId → Bool
  | .A => e.berthFlagA
  | .B => e.berthFlagB

/-- Of the change map, a berth's own flag is set and every other flag stands (R205). -/
abbrev FlagsBerth (s t : State) (b : BerthId) : Prop :=
  t.er.berthFlag b = true ∧ t.er.berthFlag (otherBerth b) = s.er.berthFlag (otherBerth b) ∧ t.er.doorFlags = s.er.doorFlags

/-- Every change between two states is told: a door whose state or cause differs has its change flag set and its DOOR_CHANGE among
the telegrams offered, a berth whose state differs its change flag, its BERTH_CHANGE and its BERTH_STATUS (R45, R116, R205). -/
def ChangesTold (s t : State) (ts : List Telegram) : Prop :=
  (∀ d : DoorNo, (t.door d).standing ≠ (s.door d).standing → t.er.doorFlags[d] = true ∧ t.doorChange d ⊆ ts)
    ∧ ∀ b : BerthId, (t.berth b).state ≠ (s.berth b).state →
        t.er.berthFlag b = true ∧ t.berthChange b ⊆ ts ∧ berthStatusReport b (t.berth b) ∈ ts

/-- A door's platform zone is one of the zones of a berth's span (R43). -/
abbrev InSpan (s : State) (b : BerthId) (d : DoorNo) : Prop :=
  ∃ sp : Span, (s.berth b).span = some sp ∧ sp.has (s.pdt d).zone = true

/-- A sensing zone's state; a zone that is not fitted is CLEAR (R126). -/
def State.zoneState (s : State) (d : DoorNo) (z : ZoneId) : ZoneState := ((s.zone d z).map ZoneRec.state).getD .clear

/-- The doorway is free (R126): TH and ED are not OCCUPIED, and no gap zone is where GAP_RESPONSE is REOPEN. -/
def FreeDoorway (s : State) (d : DoorNo) : Prop :=
  s.zoneState d .th ≠ .occupied ∧ s.zoneState d .ed ≠ .occupied
    ∧ ((s.sensing d).map SensingProfile.gapResponse = some .reopen →
        ∀ z : ZoneId, z.isGap = true → s.zoneState d z ≠ .occupied)

/-- The proof condition of a berth (R197): the loop of every zone of its span is closed, and every gap zone of each in-service span
door is CLEAR. -/
def ProofHolds (s : State) (b : BerthId) : Prop :=
  (∃ sp : Span, (s.berth b).span = some sp ∧ ∀ z : Zone, sp.has z = true → s.loop z = true)
    ∧ ∀ (d : DoorNo) (z : ZoneId), InSpan s b d → (s.door d).state ≠ .outOfService → z.isGap = true → s.zoneState d z = .clear

/-! ## A cycle close (chapter 5) -/

/-- The selected reply of a slot: the A reply, else the B reply (R93). -/
def State.heard (s : State) (i : SlotNo) : Option Reply := (s.replyA i).or (s.replyB i)

/-- The comm record of a configured slot; one that joins starts afresh (R91). -/
def State.commOf (s : State) (i : SlotNo) : CommRec :=
  (s.comm i).getD { state := .noReply, miss := 0, run := 0, held := none }

/-- The doors with the two ring counters of a cycle close: DISAGREE for an in-service entry whose two replies differ, COMM_MISSES for
one with no reply (R94, R97). -/
def State.ringCounted (s : State) : State :=
  { s with doors := Vector.ofFn fun d : DoorNo =>
      let r := s.door d
      if (s.pdt d).inService = true then
        match s.replyA (slotOfDoor d), s.replyB (slotOfDoor d) with
        | some x, some y =>
          if x = y then r else { r with counters := { r.counters with disagree := min 65535 (r.counters.disagree + 1) } }
        | none, none => { r with counters := { r.counters with commMisses := min 65535 (r.counters.commMisses + 1) } }
        | some _, none => r
        | none, some _ => r
      else r }

/-- A slot's new reply is handed on: the slot was not LOST, or its recovery run reaches 3 (R95, R97, R100). -/
def HandsReply (s : State) (i : SlotNo) (y : Reply) : Prop :=
  s.heard i = some y ∧ ((s.commOf i).state ≠ .lost ∨ (s.commOf i).run + 1 = 3)

/-- A slot hands nothing on at a cycle close: it has no reply and does not become LOST, or stays LOST (R92, R97 to R100). -/
def HandsNothing (s : State) (i : SlotNo) : Prop :=
  if s.configured i = true then
    match (s.commOf i).state, s.heard i with
    | .lost, some _ => (s.commOf i).run + 1 ≠ 3
    | .lost, none => True
    | .live, none => 1 ≤ s.settings.holdCycles
    | .noReply, none | .holding, none => min 255 ((s.commOf i).miss + 1) ≤ s.settings.holdCycles
    | .noReply, some _ | .live, some _ | .holding, some _ => False
  else s.heard i = none ∨ 48 ≤ i.val

/-- No press of a panel acts at a cycle close: it is not heard, its record is UNSEEN, the key is off, or no button is newly pressed
(R188). -/
def QuietPanel (s : State) (z : Zone) : Prop :=
  ∀ (n : Panel) (y : Reply), s.panel z = some n → s.heard (slotOfPanel z) = some y →
    n.seen = false ∨ y.panelKey = false ∨ ((y.openButton = true → n.openPressed = true)
      ∧ (y.closeButton = true → n.closePressed = true) ∧ (y.resetButton = true → n.resetPressed = true))

/-- What the hand-overs of the door slots leave of each door's record, its zone records and its key record, from a state `u`: a reply
goes to the sensing zones, the effort accumulator, the door and the key, in that order; a recovery comes before all four; nothing
changes what nothing is handed to; and an entry out of service takes the isolation key alone (R92, R95, R98, R100). What a recovery
does to a door that it returns to service is the model's reading (notes/assumptions/24.md). -/
def DoorsHanded (s u t : State) : Prop :=
  ∀ d : DoorNo,
    let left := fun v : State => t.door d = v.door d ∧ t.zonesOf d = v.zonesOf d ∧ t.key d = v.key d
    ((s.pdt d).inService = true → ∀ y : Reply, HandsReply s (slotOfDoor d) y →
      ((s.commOf (slotOfDoor d)).state ≠ .lost →
        left ((((u.takeSensors d y).takeCurrent d y.current.toNat).applyStatus d y.unitStatus y.isoKey).takeKey d y.staffKey))
      ∧ ((s.commOf (slotOfDoor d)).state = .lost → left (u.handRecovery d y)))
    ∧ (HandsNothing s (slotOfDoor d) → left u)
    ∧ ((s.pdt d).inService = false → ∀ y : Reply, s.heard (slotOfDoor d) = some y →
        left (u.setDoor d { u.door d with isoKey := some y.isoKey }))

/-! ## An alignment computation (chapter 4), in the manual's terms -/

/-- Where the unit at a place of a consist starts, the first at place 0: the lengths and coupling allowances of the units in front
(R71). -/
def State.unitStart (s : State) (consist : List TrainUnit) (u : Nat) : Nat :=
  ((consist.take u).map fun y => (s.stock y.profile).length + (s.stock y.profile).allowance).sum

/-- The train offset of a door at offset `off` of car `k` (from 0) of a unit: behind the cars taken before it, counted from the
car's A end FORWARD and from its other end REVERSED (R72, R73). -/
def trainOffset (start : Nat) (o : Orientation) (cars : List (Option Car)) (k length off : Nat) : Int :=
  let before := fun l : List (Option Car) => (l.map fun c => (c.map Car.length).getD 0).sum
  match o with
  | .forward => (start + before (cars.take k) + off : Nat)
  | .reversed => (start + before (cars.drop (k + 1)) : Nat) + ((length : Int) - (off : Int))

/-- A train door of a consist: its unit, its car and its place in the platform-side list as loaded, its offset and width, its
platform coordinate, and its eligibility (R70, R72 to R75). -/
def IsTrainDoor (s : State) (sp : Span) (e : Int) (consist : List TrainUnit) (x : TrainDoor) : Prop :=
  ∃ (u k j : Nat) (y : TrainUnit) (c : Car) (q : ProfileDoor),
    consist[u]? = some y ∧ (s.stock y.profile).cars[k]? = some (some c)
      ∧ (if s.settings.platformSide = 1 ↔ y.orientation = .forward then c.side1 else c.side2)[j]? = some q
      ∧ x.unit = u + 1 ∧ x.car = k + 1 ∧ x.door = j + 1 ∧ x.w = q.width
      ∧ x.o = trainOffset (s.unitStart consist u) y.orientation (s.stock y.profile).cars k c.length q.offset
      ∧ x.pos = (sp.stopMark s.settings : Int) + e + x.o
      ∧ (x.eligible = true ↔
          2 * ((if sp = .rear then s.settings.zsplit else 0 : Nat) : Int) ≤ 2 * x.pos - x.w
            ∧ 2 * x.pos + x.w ≤ 2 * ((if sp = .front then s.settings.zsplit else s.settings.zend : Nat) : Int))

/-- The order of the train door list: by offset, then by unit, by the car's place as taken, and by the door's place from the front
(R74). -/
def ListedBefore (consist : List TrainUnit) (x y : TrainDoor) : Prop :=
  x.o < y.o ∨ (x.o = y.o ∧ (x.unit < y.unit ∨ (x.unit = y.unit ∧
    if (consist[x.unit - 1]?).map TrainUnit.orientation = some .reversed
      then y.car < x.car ∨ (y.car = x.car ∧ y.door < x.door)
      else x.car < y.car ∨ (x.car = y.car ∧ x.door < y.door))))

/-- The candidate of a platform door: an eligible train door at the smallest distance, the smaller index on equal distance
(R76). -/
def IsCandidate (e : PdtEntry) (doors : List TrainDoor) (k : Nat) (x : TrainDoor) : Prop :=
  doors[k]? = some x ∧ x.eligible = true ∧ ∀ (j : Nat) (y : TrainDoor), doors[j]? = some y → y.eligible = true →
    |2 * (e.centre : Int) - 2 * x.pos| ≤ |2 * (e.centre : Int) - 2 * y.pos|
      ∧ (|2 * (e.centre : Int) - 2 * y.pos| = |2 * (e.centre : Int) - 2 * x.pos| → k ≤ j)

/-- The overlap of a platform door and a train door in millimetres (R77). -/
def pairOverlap (e : PdtEntry) (x : TrainDoor) : Nat :=
  let overlap2 : Int :=
    min (2 * (e.centre : Int) + e.width) (2 * x.pos + x.w) - max (2 * (e.centre : Int) - e.width) (2 * x.pos - x.w)
  if 0 < overlap2 then (overlap2 / 2).toNat else 0

/-- A platform door claims its candidate: it is a span door in service for the computation, and the pair is aligned (R76, R77). -/
def Claims (s : State) (b : BerthId) (doors : List TrainDoor) (d : DoorNo) (k : Nat) (x : TrainDoor) : Prop :=
  (s.pdt d).inService = true ∧ (s.door d).state ≠ .outOfService ∧ InSpan s b d ∧ IsCandidate (s.pdt d) doors k x
    ∧ s.settings.minPassage ≤ pairOverlap (s.pdt d) x

/-! ## A ring test (section 5.7) -/

/-- Successive words of the generator, and where it then stands (R103). -/
def testWords : Nat → BitVec 15 → List Word16
  | 0, _ => []
  | n + 1, g => (genWord g).2 :: testWords n (genWord g).1
def genAfter : Nat → BitVec 15 → BitVec 15
  | 0, g => g
  | n + 1, g => genAfter n (genWord g).1

/-- A slot whose pending inversion was not sent: it is cleared and its count goes back down (R110). -/
def TestSlot.withdrawn (x : TestSlot) : TestSlot :=
  if x.pending = true then { x with pending := false, inserted := x.inserted - 1 } else x

/-- A slot judged at a test cycle close by its selected reply of the cycle (R104), its inserted count the one reached (R111). -/
def TestSlot.scored (x : TestSlot) (sel : Option Reply) : TestSlot :=
  { x with reached := x.inserted
           errors := if (sel.map fun r => decide (x.word = some r.echo)) = some true then x.errors else x.errors + 1 }

/-- The ring master once a running test, if there is one, has aborted (R106); its `judged` is the model's own
(notes/assumptions/18.md). -/
def RingMaster.aborted (m : RingMaster) : RingMaster :=
  if m.test.status = .run then
    { m with judged := false, test := { m.test with status := .abort, slots := m.test.slots.map TestSlot.withdrawn } }
  else m

/-- The RING_TEST_REPORT of an abort, where a test ran (R106, R107). -/
def RingMaster.abortReport (m : RingMaster) : List Telegram :=
  if m.test.status = .run then [ringTestReport m.aborted.test] else []

/-! ## A door's re-adoption (R117) -/

/-- A door re-adopted from a status whose isolation key is off, its PDT entry in service: findings 2 to 5 in their order, the reason
set kept, and a door found closed and locked driven open where it holds a reason (R117, R120). `c` is the held cause of the last
finding. -/
def Readopted (r t : Door) (u : UnitStatus) (c : HeldCause) : Prop :=
  t.lastStatus = some u ∧ t.isoKey = some false ∧ t.reasons = r.reasons ∧ t.reopenCount = 0
    ∧ (u.faultCode ≠ 0 → t.state = .fault ∧ t.faultCause = some .unitFault ∧ t.order = .stop)
    ∧ (u.faultCode = 0 → u.manual = true → t.state = .releasedManual ∧ t.order = .none
        ∧ t.counters.manualReleases = min 65535 (r.counters.manualReleases + 1))
    ∧ (u.faultCode = 0 → u.manual = false → u.leaf = .closed → u.lock = true →
        (r.reasons = .empty → t.state = .closed ∧ t.order = .close)
        ∧ (r.reasons ≠ .empty → t.state = .opening ∧ t.order = .opn
            ∧ t.counters.openCycles = min 65535 (r.counters.openCycles + 1)))
    ∧ (u.faultCode = 0 → u.manual = false → u.leaf ≠ .closed ∨ u.lock = false →
        t.state = .held ∧ t.heldCause = some c ∧ t.order = .none)

/-! ## What a reset leaves (R205, R215 and each record's own rule) -/

/-- Every field of a berth record after a reset (R42). -/
def Berth.afterReset (b : Berth) : Prop :=
  b.state = .vacant ∧ b.span = none ∧ b.trainNumber = none ∧ b.consist = [] ∧ b.lastReport = none ∧ b.standstill = false
    ∧ b.saturated = false ∧ b.eUsed = none ∧ b.verdict = none ∧ b.nEligible = 0 ∧ b.nAligned = 0 ∧ b.trainDoors = []
    ∧ b.matchList = [] ∧ (∀ d : DoorNo, b.platformEnable[d] = false) ∧ (∀ t : Fin 96, b.trainEnable[t] = false)
    ∧ b.permit = .withdrawn ∧ b.proofTimer = .stopped ∧ b.closeCause = none

/-- Every field of a door record after a reset (R112). -/
def Door.afterReset (r : Door) : Prop :=
  r.state = .unknown ∧ r.reasons = .empty ∧ r.reopenCount = 0 ∧ r.heldCause = none ∧ r.faultCause = none ∧ r.order = .none
    ∧ r.lastStatus = none ∧ r.isoKey = none ∧ r.motion = .stopped ∧ r.lockProof = .stopped ∧ r.reclose = .stopped
    ∧ r.effort = 0 ∧ r.blank = 0
    ∧ r.counters = { openCycles := 0, reopens := 0, effortTrips := 0, commMisses := 0, disagree := 0, gapEvents := 0,
                     manualReleases := 0 }

/-- The link interface after a reset (R30, R32, R34, R35). -/
def LineLink.afterReset (l : LineLink) : Prop :=
  l.link = .lost ∧ l.linkTimer = .stopped ∧ l.validRun = 0 ∧ l.degraded = true ∧ l.waiting = [] ∧ l.txQueue = []
    ∧ l.sending = none ∧ l.crcErrors = 0 ∧ l.lengthErrors = 0 ∧ l.txDrops = 0

/-- The Event Reporter after a reset, but for the reset cause (R205). -/
def EventReporter.afterReset (e : EventReporter) : Prop :=
  (∀ d : DoorNo, e.doorFlags[d] = false) ∧ e.berthFlagA = false ∧ e.berthFlagB = false
    ∧ (∀ k : Fin 16, e.mask[k] = false) ∧ e.eventsLost = true
    ∧ (∀ d : DoorNo, e.snap.doors[d] = { openCycles := 0, reopens := 0, effortTrips := 0, commMisses := 0, disagree := 0,
                                         gapEvents := 0, manualReleases := 0 })
    ∧ e.snap.crcErrors = 0 ∧ e.snap.lengthErrors = 0 ∧ e.snap.txDrops = 0 ∧ e.seq = 0 ∧ e.autoTimer = .stopped

/-- What every reset kind leaves in `t`, from the state `s` it found: every record at its reset value, both loops open, the
nonvolatile image and the FIRE input as they were. That until the load the tables are empty, the pools whole and no sensing zone,
slot or panel has a record is the model's (notes/assumptions/1.md); what the load makes of them is in StartingEnds. -/
def AfterReset (s t : State) : Prop :=
  t.berthA.afterReset ∧ t.berthB.afterReset ∧ (∀ d : DoorNo, (t.door d).afterReset) ∧ t.lli.afterReset ∧ t.er.afterReset
    ∧ t.ou.list = [] ∧ t.ou.fireTaken = false ∧ (∀ d : DoorNo, t.key d = .unseen)
    ∧ t.drm.test.status = .idle ∧ t.drm.test.slots = [] ∧ t.drm.test.cyclesDone = 0
    ∧ t.drm.ring = .intact ∧ t.drm.breakPos = none ∧ t.drm.copyA = none ∧ t.drm.copyB = none
    ∧ t.ts.tables = Tables.empty ∧ t.ts.freeCars = 96 ∧ t.ts.freeDoors = 320
    ∧ t.ts.config = .unconfigured ∧ t.ts.imageState = .invalid
    ∧ (∀ (d : DoorNo) (z : ZoneId), t.zone d z = none) ∧ (∀ i : SlotNo, t.comm i = none) ∧ (∀ z : Zone, t.panel z = none)
    ∧ t.loopFront = false ∧ t.loopRear = false ∧ t.ts.saveState = .idle
    ∧ t.ts.image = s.ts.image ∧ t.firePin = s.firePin ∧ t.pending = s.pending

/-! ## The checks of the requests, read off the payload -/

/-- A berth field, once it is A or B. -/
def berthNamed (p : List Byte) : BerthId := if u8 p 0 = 0 then .A else .B

def spanNamed (p : List Byte) : Span := if u8 p 1 = 0 then .front else if u8 p 1 = 1 then .rear else .full

/-- The consist of an ARRIVAL whose units are all in range. -/
def consistNamed (p : List Byte) : List TrainUnit :=
  (List.range (u8 p 4)).map fun k =>
    { profile := Fin.ofNat 16 (u8 p (5 + 2 * k)), orientation := if u8 p (6 + 2 * k) = 0 then .forward else .reversed }

/-- The checks of ARRIVAL, in order (R46). -/
def arrivalRefusal (s : State) (p : List Byte) : Option (Code × Nat) :=
  let b := berthNamed p
  let o := s.berth (otherBerth b)
  if 1 < u8 p 0 then some (.range, 1)
  else if 2 < u8 p 1 then some (.range, 2)
  else if u8 p 4 < 1 ∨ 3 < u8 p 4 then some (.range, 4)
  else if (List.range (u8 p 4)).any fun k => decide (15 < u8 p (5 + 2 * k) ∨ 1 < u8 p (6 + 2 * k)) then some (.range, 5)
  else if s.ts.config = .unconfigured then some (.notConfigured, 0)
  else if OverrideKind.maint ∈ s.ou.list then some (.overridden, 0)
  else if (s.berth b).state ≠ .vacant then some (.wrongState, 0)
  else if o.state ≠ .vacant ∧ (o.span.map fun x => x.overlaps (spanNamed p)) = some true then some (.overlap, 0)
  else if (consistNamed p).any fun x => decide ((s.stock x.profile).state ≠ .valid) then some (.profileInvalid, 0)
  else if 96 < s.consistCount (consistNamed p) then some (.tooManyDoors, 0)
  else none

/-- The checks of STOP_REPORT, in order (R49). -/
def stopReportRefusal (s : State) (p : List Byte) : Option (Code × Nat) :=
  if 1 < u8 p 0 then some (.range, 1)
  else if 1 < u8 p 3 then some (.range, 3)
  else if (s.berth (berthNamed p)).state = .vacant then some (.wrongState, 0)
  else none

/-- The last report stands more than CREEP_TOL from e_used, or the train was last reported moving (R56, check 6). -/
def Berth.movedOff (b : Berth) (creepTol : Nat) : Prop :=
  b.standstill = false ∨ ∀ e u : Int, b.lastReport = some e → b.eUsed = some u → (creepTol : Int) < |e - u|

/-- The checks 1 to 5 of RELEASE, in order (R56); an absent verdict, which no BERTHED or PROVEN berth has, counts as NONE. -/
def releaseRefusal (s : State) (p : List Byte) : Option (Code × Nat) :=
  let b := s.berth (berthNamed p)
  if 1 < u8 p 0 then some (.range, 1)
  else if 1 < u8 p 1 then some (.range, 2)
  else if b.state ≠ .berthed ∧ b.state ≠ .proven then some (.wrongState, 0)
  else if b.verdict = none ∨ b.verdict = some .none then some (.range, 1)
  else if b.verdict = some .partly ∧ u8 p 1 = 0 then some (.range, 2)
  else none

/-- The checks of CLOSE, in order (R59). -/
def closeRefusal (s : State) (p : List Byte) : Option (Code × Nat) :=
  let st := (s.berth (berthNamed p)).state
  if 1 < u8 p 0 then some (.range, 1)
  else if OverrideKind.fire ∈ s.ou.list ∨ OverrideKind.evac ∈ s.ou.list then some (.overridden, 0)
  else if st = .vacant ∨ st = .announced ∨ st = .berthed then some (.wrongState, 0)
  else none

/-- The offset of a STOP_REPORT after saturation (R49). -/
def reportedOffset (p : List Byte) : Int := max (-3000) (min 3000 (i16 p 1))

/-- The berth record with a STOP_REPORT stored (R49). -/
def Berth.stored (b : Berth) (p : List Byte) : Berth :=
  { b with lastReport := some (reportedOffset p), standstill := decide (u8 p 3 = 1),
           saturated := decide (i16 p 1 < -3000 ∨ 3000 < i16 p 1) }

/-- The checks of DOOR_COMMAND, in order (R137). -/
def doorCommandRefusal (s : State) (p : List Byte) : Option (Code × Nat) :=
  if 47 < u8 p 0 then some (.range, 1)
  else if 1 < u8 p 1 then some (.range, 2)
  else if OverrideKind.maint ∉ s.ou.list then some (.overridden, 0)
  else if u8 p 1 = 1 ∧ (OverrideKind.fire ∈ s.ou.list ∨ OverrideKind.evac ∈ s.ou.list) then some (.overridden, 0)
  else if (s.door (Fin.ofNat 48 (u8 p 0))).state = .outOfService then some (.wrongState, 0)
  else none

/-- The checks of MODE_ENTER, in order (R174). -/
def modeEnterRefusal (s : State) (p : List Byte) : Option (Code × Nat) :=
  let k : OverrideKind := if u8 p 0 = 0 then .maint else .test
  if 1 < u8 p 0 then some (.range, 1)
  else if k ∈ s.ou.list then some (.wrongState, 0)
  else if s.ou.list.any fun x => decide (k.rank < x.rank) then some (.overridden, 0)
  else if k = .maint ∧ (s.berthA.state ≠ .vacant ∨ s.berthB.state ≠ .vacant) then some (.berthOccupied, 0)
  else if k = .test ∧ OverrideKind.maint ∉ s.ou.list then some (.wrongState, 0)
  else none

/-- The checks of TABLE_WRITE that do not look at the entry, in order (R12, checks 1 to 5). -/
def tableWriteRefusal (s : State) (p : List Byte) : Option (Code × Nat) :=
  if s.ts.saveState = .saving then some (.busy, 0)
  else if OverrideKind.maint ∉ s.ou.list then some (.overridden, 0)
  else if s.berthA.state ≠ .vacant ∨ s.berthB.state ≠ .vacant then some (.berthOccupied, 0)
  else if 3 < u8 p 0 then some (.range, 1)
  else if (if u8 p 0 = 0 then 47 else if u8 p 0 = 1 then 3 else if u8 p 0 = 2 then 7 else 0) < u8 p 1 then some (.range, 2)
  else none

/-- The checks of PROFILE_BEGIN, in order (R16). -/
def profileBeginRefusal (s : State) (p : List Byte) : Option (Code × Nat) :=
  let id : Fin 16 := Fin.ofNat 16 (u8 p 0)
  if s.ts.saveState = .saving then some (.busy, 0)
  else if 15 < u8 p 0 then some (.range, 1)
  else if u8 p 1 < 1 ∨ 10 < u8 p 1 then some (.range, 2)
  else if 2000 < u16 p 2 then some (.range, 3)
  else if s.referenced id = true then some (.inUse, 0)
  else if s.ts.freeCars + (s.stock id).carsHeld < u8 p 1 then some (.noSpace, 0)
  else none

/-- The checks of PROFILE_CAR, in order (R17). -/
def profileCarRefusal (s : State) (p : List Byte) : Option (Code × Nat) :=
  let id : Fin 16 := Fin.ofNat 16 (u8 p 0)
  let q := s.stock id
  if s.ts.saveState = .saving then some (.busy, 0)
  else if 15 < u8 p 0 then some (.range, 1)
  else if u8 p 1 < 1 ∨ 10 < u8 p 1 then some (.range, 2)
  else if q.state = .empty then some (.wrongState, 0)
  else if q.cars.length < u8 p 1 then some (.range, 2)
  else if u16 p 2 < 5000 ∨ 30000 < u16 p 2 then some (.range, 3)
  else if goodDoorList (u16 p 2) (carAt p).side1 = false then some (.range, 4)
  else if goodDoorList (u16 p 2) (carAt p).side2 = false then some (.range, 5)
  else if s.referenced id = true then some (.inUse, 0)
  else if s.ts.freeDoors + carDoors ((q.cars[u8 p 1 - 1]?).getD none) < (carAt p).side1.length + (carAt p).side2.length then
    some (.noSpace, 0)
  else none

/-- The checks of PROFILE_DELETE, in order (R18). -/
def profileDeleteRefusal (s : State) (p : List Byte) : Option (Code × Nat) :=
  if s.ts.saveState = .saving then some (.busy, 0)
  else if 15 < u8 p 0 then some (.range, 1)
  else if s.referenced (Fin.ofNat 16 (u8 p 0)) = true then some (.inUse, 0)
  else none

/-! ## What an accepted table write does beside its table (R4, R6, R8, R11) -/

/-- A zone record under a window length: its oldest samples dropped until it holds that many, its count recounted, its state, run
count and forced flag kept (R8). -/
def ZoneRec.cutTo (n : Nat) (r : ZoneRec) : ZoneRec :=
  if n < r.window.length then
    { r with window := r.window.drop (r.window.length - n), count := (r.window.drop (r.window.length - n)).count true }
  else r

/-- A zone's loop is closed exactly while the part is CONFIGURED and each door of the zone is OUT_OF_SERVICE or CLOSED (R195). -/
def LoopJudged (t : State) (z : Zone) : Prop :=
  t.loop z = true ↔ t.ts.config = .configured ∧ ∀ d : DoorNo, (t.pdt d).zone = z →
    (t.door d).state = .outOfService ∨ (t.door d).state = .closed

/-- What a PDT write that changes entry `d` from `old` to `e` leaves in `t` (R4, R134, R135, R150, R153, R162): the door record goes
out of service, becomes UNKNOWN or stays, its E lowered to the limit of a new class; the zone records follow the zones fitted and
the profile; the key record of an entry gone out of service is UNSEEN; both loops are judged; and only a changed door state is
told. An isolation key that is not known counts as off (R113). That UNKNOWN keeps the last known status, that a zone of an entry
coming into service is forced while its slot is LOST, and that a door returned so is noted as returning, are the model's
(notes/assumptions/31.md, notes/assumptions/10.md, notes/assumptions/9.md). -/
def PdtWritten (s t : State) (d : DoorNo) (old e : PdtEntry) : Prop :=
  let r := s.door d
  let effort := if e.driveClass = old.driveClass then r.effort
    else (s.ts.tables.classes[e.driveClass]).elim r.effort fun c => min r.effort c.limit
  let cut := fun x : ZoneRec => if e.profile = old.profile then x
    else (s.ts.tables.profiles[e.profile]).elim x fun q => x.cutTo q.n
  let out := old.inService = true ∧ e.inService = false
  t.door d = (if out then
        { r with state := .outOfService, order := .none, reasons := .empty, reopenCount := 0, heldCause := none,
                 faultCause := none, motion := .stopped, lockProof := .stopped, reclose := .stopped, effort := effort,
                 returning := false }
      else if old.inService = false ∧ e.inService = true ∧ r.isoKey ≠ some true then
        { r with state := .unknown, order := .none, reasons := .empty, reopenCount := 0, heldCause := none,
                 faultCause := none, motion := .stopped, lockProof := .stopped, reclose := .stopped, effort := effort,
                 returning := true }
      else { r with effort := effort })
    ∧ (∀ z : ZoneId, t.zone d z =
        if e.inService = false then (if old.inService = true then none else (s.zone d z).map cut)
        else if e.fitted[z.idx] = false then none
        else match s.zone d z with
          | some x => some (cut x)
          | none => some (if (s.comm (slotOfDoor d)).map CommRec.state = some .lost
              then { window := [], count := 0, state := .occupied, run := 0, forced := true }
              else { window := [], count := 0, state := .clear, run := 0, forced := false }))
    ∧ t.key d = (if out then .unseen else s.key d)
    ∧ (∀ d' : DoorNo, d' ≠ d → t.door d' = s.door d' ∧ t.zonesOf d' = s.zonesOf d' ∧ t.key d' = s.key d')
    ∧ (∀ z : Zone, LoopJudged t z)
    ∧ t = { s with ts := t.ts, doors := t.doors, zones := t.zones, loopFront := t.loopFront, loopRear := t.loopRear
                   lli := t.lli, er := t.er, ou := { s.ou with keys := t.ou.keys } }
    ∧ MapOnly s.er t.er
    ∧ Tells s.popRequest t (if (t.door d).standing = r.standing then [] else t.doorChange d)
    ∧ ((t.door d).standing = r.standing → t.er = s.er) ∧ ((t.door d).standing ≠ r.standing → t.er.doorFlags[d] = true)

/-- What a Drive Class write leaves: where L falls, or the class was unloaded, every E of the class above the new L is that L
(R6, R150). -/
def ClassWritten (s t : State) (i : Fin 4) (c : DriveClass) : Prop :=
  t = { s.popRequest with ts := t.ts, doors := t.doors }
    ∧ ∀ d : DoorNo, t.door d =
        if (s.pdt d).driveClass = i ∧ (s.ts.tables.classes[i]).all (fun o => decide (c.limit < o.limit)) = true
          then { s.door d with effort := min (s.door d).effort c.limit } else s.door d

/-- What a Sensing Profile write leaves: the zone records of its doors are cut to the new window length (R8). -/
def SensingWritten (s t : State) (i : Fin 8) (n : Nat) : Prop :=
  t = { s.popRequest with ts := t.ts, zones := t.zones }
    ∧ ∀ (d : DoorNo) (z : ZoneId), t.zone d z = if (s.pdt d).profile = i then (s.zone d z).map (ZoneRec.cutTo n) else s.zone d z

/-- What a settings write leaves: reopen counts above a lowered REOPEN_LIMIT come down to it (R127), AUTO_SNAPSHOT going on starts
the timer and going off stops it (R11, R211), a panel newly fitted is UNSEEN, its key off and its buttons released, and one no longer
fitted loses its record (R188), and both loops are judged (R11). That the three lamps of a panel newly fitted are dark until the next
frame sets them (R193) is the model's (notes/assumptions/1.md). -/
def SettingsWritten (s t : State) (c : Settings) : Prop :=
  t = { s.popRequest with ts := t.ts, doors := t.doors, loopFront := t.loopFront, loopRear := t.loopRear
                          er := { s.er with autoTimer := t.er.autoTimer }
                          ou := { s.ou with panelFront := t.ou.panelFront, panelRear := t.ou.panelRear } }
    ∧ (∀ d : DoorNo, t.door d = if c.reopenLimit < s.settings.reopenLimit
        then { s.door d with reopenCount := min (s.door d).reopenCount c.reopenLimit } else s.door d)
    ∧ t.er.autoTimer = (if c.autoSnapshot = s.settings.autoSnapshot then s.er.autoTimer
        else if c.autoSnapshot = true then .running 60000 else .stopped)
    ∧ (∀ z : Zone, t.panel z = if c.panelsFitted.fits z = true then some ((s.panel z).getD
        { seen := false, key := false, openPressed := false, closePressed := false, resetPressed := false, lampProven := false,
          lampDoorsOpen := false, lampAlarm := false }) else none)
    ∧ ∀ z : Zone, LoopJudged t z

/-! ## Invariants of every step -/

/-- The link interface (R27, R30, R31, R34): at most 16 telegrams and 16 requests wait, a free transmitter leaves nothing
waiting to be sent, and while the link is LOST nothing waits at all and the degraded flag is set. -/
def LinkInv (s : State) : Prop :=
  s.lli.txQueue.length ≤ 16 ∧ s.lli.waiting.length ≤ 16 ∧ (s.lli.sending = none → s.lli.txQueue = [])
    ∧ (s.lli.link = .lost → s.lli.txQueue = [] ∧ s.lli.waiting = [] ∧ s.lli.degraded = true)

/-- The override list (R172, R176, R180): ranks rise strictly from bottom to top, TEST stands only with MAINT, and FIRE is
present exactly while the level last taken is asserted. -/
def OverrideInv (s : State) : Prop :=
  s.ou.list.Pairwise (fun a b => a.rank < b.rank) ∧ (OverrideKind.test ∈ s.ou.list → OverrideKind.maint ∈ s.ou.list)
    ∧ (OverrideKind.fire ∈ s.ou.list ↔ s.ou.fireTaken = true)

/-- The departure permits (R201, R62): granted exactly while PROVEN, and a proof timer that is not stopped only while
PROVING. -/
def PermitInv (s : State) : Prop :=
  ∀ b : BerthId, ((s.berth b).permit = .granted ↔ (s.berth b).state = .proven)
    ∧ ((s.berth b).proofTimer ≠ .stopped ↔ (s.berth b).state = .proving)

/-- The proof (R197 to R200): while the part runs, the proof condition of a PROVEN berth holds and that of a PROVING one does not;
before it runs both berths are VACANT. -/
def ProofInv (s : State) : Prop :=
  ∀ b : BerthId,
    (s.phase = .running → ((s.berth b).state = .proven → ProofHolds s b) ∧ ((s.berth b).state = .proving → ¬ ProofHolds s b))
    ∧ (s.phase ≠ .running → (s.berth b).state = .vacant)

/-- MAINT and trains exclude one another (R46, R174), a berth that is not VACANT has a span (R42), and two such berths hold
spans that do not overlap (R48). -/
def OccupancyInv (s : State) : Prop :=
  (OverrideKind.maint ∈ s.ou.list → s.berthA.state = .vacant ∧ s.berthB.state = .vacant)
    ∧ (∀ b : BerthId, (s.berth b).state ≠ .vacant → (s.berth b).span ≠ none)
    ∧ (∀ x y : Span, s.berthA.state ≠ .vacant → s.berthB.state ≠ .vacant → s.berthA.span = some x → s.berthB.span = some y →
        x.overlaps y = false)

/-- The loop outputs (R195): while the part runs, a zone's loop is closed exactly while the part is CONFIGURED and every
in-service door of the zone is CLOSED; in reset and STARTING both are open, the part is UNCONFIGURED and no save runs. -/
def LoopInv (s : State) : Prop :=
  (s.phase = .running → ∀ z : Zone, s.loop z = true ↔
      s.ts.config = .configured ∧ ∀ d : DoorNo, (s.pdt d).zone = z →
        (s.door d).state = .outOfService ∨ (s.door d).state = .closed)
    ∧ (s.phase ≠ .running →
        s.loopFront = false ∧ s.loopRear = false ∧ s.ts.config = .unconfigured ∧ s.ts.saveState = .idle)

/-- The pools (R14): free records and records held by the stock profiles make 96 car records and 320 train-door records. -/
def PoolInv (s : State) : Prop :=
  s.ts.freeCars + s.ts.tables.carsHeld = 96 ∧ s.ts.freeDoors + s.ts.tables.doorsHeld = 320

/-- A door record (R112, R114, R119, R120): its causes, order, timers and reason set are those of its state. -/
def Door.good (r : Door) : Prop :=
  (r.heldCause ≠ none ↔ r.state = .held) ∧ (r.faultCause ≠ none ↔ r.state = .fault)
    ∧ (r.motion ≠ .stopped → r.state = .opening ∨ r.state = .closing ∨ r.state = .reopening)
    ∧ (r.lockProof ≠ .stopped → r.state = .closing) ∧ (r.reclose ≠ .stopped → r.state = .reopening)
    ∧ (r.state = .closed ∨ r.state = .closing ∨ r.state = .reopening ∨ r.state = .outOfService → r.reasons = .empty)
    ∧ (r.state = .opening ∨ r.state = .opened → r.reasons ≠ .empty)
    ∧ (r.state = .closed ∨ r.state = .closing → r.order = .close)
    ∧ (r.state = .opening ∨ r.state = .opened ∨ r.state = .reopening → r.order = .opn)
    ∧ (r.state = .fault → r.order = .stop)
    ∧ (r.state = .unknown ∨ r.state = .outOfService ∨ r.state = .releasedManual → r.order = .none)

def DoorInv (s : State) : Prop := ∀ d : DoorNo, (s.door d).good

/-- A VACANT berth holds its reset values in every field (R42, R64). -/
def VacantInv (s : State) : Prop := ∀ b : BerthId, (s.berth b).state = .vacant → (s.berth b).afterReset

/-- Service (R113, R118, R134, R135): while the part runs, a record that is not OUT_OF_SERVICE has its PDT entry in service and its
last known isolation key not on; before it runs no key is known to be on; and a door that a PDT write has returned to service and
that has not re-adopted yet is UNKNOWN or in FAULT(COMM_LOST). -/
def ServiceInv (s : State) : Prop :=
  ∀ d : DoorNo,
    (s.phase = .running → (s.door d).state ≠ .outOfService → (s.pdt d).inService = true ∧ (s.door d).isoKey ≠ some true)
    ∧ (s.phase ≠ .running → (s.door d).isoKey ≠ some true)
    ∧ ((s.door d).returning = true →
        (s.door d).state = .unknown ∨ ((s.door d).state = .fault ∧ (s.door d).faultCause = some .commLost))

end Sys2Proof.Machine
end

