-- ==== Sys2Proof/Certificates/Slice0/Obligations.lean ====
section
/-! DEFINITION. The statements for the provers. -/

open Sys2Proof Sys2Proof.Machine

/-! ## The step and the resets -/

/-- The command at the front of the queue is carried out with the queue's rest. That an empty queue idles is the model's choice
(notes/assumptions/3.md). -/
def Obligations.StepTakesFront : Prop :=
  ∀ (c : Instr) (rest : List Instr) (s : State),
    step { s with pending := c :: rest } = exec c { s with pending := rest }
      ∧ step { s with pending := [] } = .next { s with pending := [] }

/-- R215: POWER_ON, SUPPLY_DIP and the release of the reset input begin STARTING with their cause, every record at its reset
value (AfterReset: berths, doors, link, Event Reporter, Override Unit, keys, ring test, ring state, loops, save state); the assertion
of the reset input and a fall of the supply hold the part in reset in the same way. What AfterReset says of the records that follow
from the loaded tables (tables, pools, configuration and image state, zone, comm and panel records), before the load, is the model's
(notes/assumptions/1.md); what the load makes of them is in StartingEnds. That POWER_ON and SUPPLY_DIP leave the part in reset while
the reset input is asserted is the model's (notes/assumptions/22.md), and is not stated here. -/
def Obligations.ResetKindsReset : Prop :=
  ∀ s : State,
    (s.resetLine = false → ∃ t : State, exec .powerOn s = .next t ∧ AfterReset s t ∧ t.phase = .starting ∧ t.er.cause = .powerOn)
    ∧ (s.resetLine = false → ∃ t : State, exec .supplyDip s = .next t ∧ AfterReset s t ∧ t.phase = .starting
        ∧ t.er.cause = .supplyDip)
    ∧ (s.resetLine = true → s.supplyOk = true → ∃ t : State, exec .resetLineReleased s = .next t ∧ AfterReset s t
        ∧ t.phase = .starting ∧ t.er.cause = .resetLine ∧ t.resetLine = false)
    ∧ (∃ t : State, exec .resetLineAsserted s = .next t ∧ AfterReset s t ∧ t.phase = .inReset ∧ t.resetLine = true)
    ∧ (∃ t : State, exec .supplyFall s = .next t ∧ AfterReset s t ∧ t.phase = .inReset ∧ t.supplyOk = false)

/-- R216: a PART_RESET that is taken causes a reset of kind LINK_RESET, and is not answered: nothing waits to be sent and
nothing is being sent. The values before the load of what follows from the loaded tables are the model's
(notes/assumptions/1.md). -/
def Obligations.PartResetRestarts : Prop :=
  ∀ (s : State) (src : Byte) (p : List Byte), Taken s .partReset src p → s.supplyOk = true → s.resetLine = false →
    ∃ t : State, exec (.partReset src p) s = .next t ∧ AfterReset s t ∧ t.phase = .starting ∧ t.er.cause = .linkReset
      ∧ t.lli.txQueue = [] ∧ t.lli.sending = none

/-- R14, R22, R91, R153, R188, R217: from what a reset leaves, the end of STARTING loads a good image as CONFIGURED or takes empty
tables as UNCONFIGURED, with the pools whole and no save running, puts the doors of out-of-service entries OUT_OF_SERVICE, gives a
fresh record to every fitted zone of an in-service entry, to every configured slot and to every fitted panel and to no other, begins
cycle 0 with a NORMAL frame, closes the loop of a zone exactly when the part is CONFIGURED and the zone has no in-service door, takes
the level of the FIRE input, and starts the auto snapshot timer if AUTO_SNAPSHOT is on. The link and the berths stay as the reset
left them. That the panel lamps are set before the loops are judged is the model's order (notes/assumptions/20.md). What makes an
image good, which the statement takes as the model judges it, holds an EMPTY profile's allowance to a range too
(notes/assumptions/35.md). -/
def Obligations.StartingEnds : Prop :=
  ∀ s : State, s.phase = .starting → AfterReset s s →
    ∃ t : State, exec .startingEnd s = .next t ∧ t.phase = .running ∧ t.lli = s.lli ∧ t.berthA = s.berthA ∧ t.berthB = s.berthB
      ∧ (s.ts.image.good = true →
          t.ts.tables = s.ts.image.contents ∧ t.ts.config = .configured ∧ t.ts.imageState = .valid)
      ∧ (s.ts.image.good = false →
          t.ts.tables = Tables.empty ∧ t.ts.config = .unconfigured ∧ t.ts.imageState = .invalid)
      ∧ PoolInv t ∧ t.ts.saveState = .idle ∧ t.ts.image = s.ts.image
      ∧ (∀ (d : DoorNo) (z : ZoneId), t.zone d z = if (t.pdt d).inService = true ∧ (t.pdt d).fitted[z.idx] = true
          then some { window := [], count := 0, state := .clear, run := 0, forced := false } else none)
      ∧ (∀ i : SlotNo, t.comm i = if t.configured i = true
          then some { state := .noReply, miss := 0, run := 0, held := none } else none)
      ∧ (∀ z : Zone, t.settings.panelsFitted.fits z = false → t.panel z = none)
      ∧ (∀ z : Zone, t.settings.panelsFitted.fits z = true → ∃ n : Panel, t.panel z = some n
          ∧ n.seen = false ∧ n.key = false ∧ n.openPressed = false ∧ n.closePressed = false ∧ n.resetPressed = false
          ∧ n.lampProven = false ∧ n.lampAlarm = false
          ∧ (n.lampDoorsOpen = true ↔ ∃ d : DoorNo, (t.pdt d).zone = z ∧ (t.pdt d).inService = true))
      ∧ (∀ d : DoorNo, (t.door d).state = if (t.pdt d).inService then .unknown else .outOfService)
      ∧ t.drm.cycleNo = 0 ∧ t.drm.kind = .normal ∧ t.drm.period = t.settings.ringPeriod
      ∧ t.drm.copyA = none ∧ t.drm.copyB = none
      ∧ (∀ z : Zone, t.loop z = true ↔
          t.ts.config = .configured ∧ ∀ d : DoorNo, (t.pdt d).zone = z → (t.pdt d).inService = false)
      ∧ t.ou.list = (if s.firePin then [.fire] else []) ∧ t.ou.fireTaken = s.firePin
      ∧ t.er.autoTimer = if t.settings.autoSnapshot then .running 60000 else .stopped

/-! ## The line link -/

/-- R23: a run that fails a check of framing, length or size is discarded and adds 1 to LENGTH_ERRORS, one that fails the check
comparison alone adds 1 to CRC_ERRORS; both set the valid-run count to 0 and change nothing else. That they
do so while the link is UP too, where R33 leaves the count standing, is the model's reading (notes/assumptions/12.md). While the part is not running,
every run is discarded without being counted. -/
def Obligations.LineRunDiscarded : Prop :=
  ∀ (s : State) (run : List Byte),
    (s.phase ≠ .running → exec (.lineRunReceived run) s = .next s)
    ∧ (s.phase = .running →
        (run.take 2 ≠ [0xC3, 0x3C] ∨ run.length < 8 ∨ 240 < u8 run 5 ∨ run.length ≠ 8 + u8 run 5 →
          exec (.lineRunReceived run) s
            = .next { s with lli := { s.lli with validRun := 0, lengthErrors := min 65535 (s.lli.lengthErrors + 1) } })
        ∧ (run.take 2 = [0xC3, 0x3C] → run.length = 8 + u8 run 5 → u8 run 5 ≤ 240 →
            run.drop (6 + u8 run 5) ≠ encWord (crc16 ((run.take (6 + u8 run 5)).drop 2)) →
          exec (.lineRunReceived run) s
            = .next { s with lli := { s.lli with validRun := 0, crcErrors := min 65535 (s.lli.crcErrors + 1) } }))

/-- R24, R27, R36: while the link is UP, every telegram framed as R36 lays down is valid and restarts the link timer; one of
class REQUEST then waits to be routed unless 16 already wait, and any other class does nothing more. -/
def Obligations.ValidTelegramWaits : Prop :=
  ∀ (s : State) (cls src kind : Byte) (payload : List Byte),
    s.phase = .running → s.lli.link = .up → payload.length ≤ 240 →
    exec (.lineRunReceived (telegramOf cls src kind payload)) s
      = .next { s with lli := { s.lli with
          linkTimer := .running s.settings.linkTimeout
          waiting := if cls = 0x01 ∧ s.lli.waiting.length < 16
            then s.lli.waiting ++ [{ src := src, kind := kind, payload := payload }] else s.lli.waiting } }

/-- R32, R33, R34, R210: while the link is LOST a valid telegram adds 1 to the valid-run count; the third brings the link UP and
offers EDGE_STATUS and both BERTH_STATUS reports in that order, the admission of the EDGE_STATUS clears the degraded flag and
EVENTS_LOST, and a request that completed the run waits to be routed. -/
def Obligations.LinkRecovers : Prop :=
  ∀ (s : State) (cls src kind : Byte) (payload : List Byte),
    s.phase = .running → s.lli.link = .lost → payload.length ≤ 240 →
    (s.lli.validRun < 2 →
      exec (.lineRunReceived (telegramOf cls src kind payload)) s
        = .next { s with lli := { s.lli with
            linkTimer := .running s.settings.linkTimeout, validRun := s.lli.validRun + 1 } })
    ∧ (s.lli.validRun = 2 → s.lli.txQueue = [] → s.lli.waiting = [] →
      exec (.lineRunReceived (telegramOf cls src kind payload)) s
        = .next { s with
            er := { s.er with eventsLost := false }
            lli := { s.lli with
              link := .up, linkTimer := .running s.settings.linkTimeout, validRun := 3, degraded := false
              waiting := if cls = 0x01 then [{ src := src, kind := kind, payload := payload }] else []
              sending := some (s.lli.sending.getD (edgeStatusReport s).wire)
              txQueue := (if s.lli.sending = none then [] else [edgeStatusReport s])
                ++ [berthStatusReport .A s.berthA, berthStatusReport .B s.berthB] } })

/-- R32, R27: the link timer runs out. In UP the link is LOST, the telegrams and requests that wait are discarded, EVENTS_LOST
and the degraded flag are set and the valid-run count is 0; the telegram being sent goes on. In LOST the valid-run count is 0. That the
expiry of a timer that does not run changes nothing is the model's (notes/assumptions/27.md). -/
def Obligations.LinkTimeoutLosesLink : Prop :=
  ∀ s : State,
    (s.lli.linkTimer ≠ .stopped → s.lli.link = .up →
      exec .linkTimeout s = .next { s with
        er := { s.er with eventsLost := true }
        lli := { s.lli with link := .lost, linkTimer := .stopped, validRun := 0, degraded := true, waiting := [],
                            txQueue := [] } })
    ∧ (s.lli.linkTimer ≠ .stopped → s.lli.link = .lost →
      exec .linkTimeout s = .next { s with lli := { s.lli with linkTimer := .stopped, validRun := 0 } })
    ∧ (s.lli.linkTimer = .stopped → exec .linkTimeout s = .next s)

/-- R30, R31, R206, R208: when the last byte has been sent, the transmitter takes the oldest waiting telegram, or is free. An answer
or report that is offered is admitted while the link is UP and fewer than 16 telegrams wait, an event while fewer than 12 wait; one
admitted waits last, or is sent where the transmitter is free and nothing waits. A dropped answer or report adds 1 to TX_DROPS while
the link is UP and does nothing while it is LOST; a dropped event changes nothing in the queue and sets EVENTS_LOST. An event of a
masked kind makes no telegram and sets nothing. -/
def Obligations.TransmitCompleteTakesOldest : Prop :=
  (∀ s : State, s.lli.sending ≠ none →
    (s.lli.txQueue = [] → exec .transmitComplete s = .next { s with lli := { s.lli with sending := none } })
    ∧ (∀ (t : Telegram) (rest : List Telegram), s.lli.txQueue = t :: rest →
        exec .transmitComplete s = .next { s with lli := { s.lli with sending := some t.wire, txQueue := rest } }))
  ∧ (∀ (l : LineLink) (t : Telegram),
    let fits := l.link = .up ∧ l.txQueue.length < (if t.cls = .event then 12 else 16)
    (fits → l.sending ≠ none → l.offer t = { l with txQueue := l.txQueue ++ [t] })
    ∧ (fits → l.sending = none → l.txQueue = [] → l.offer t = { l with sending := some t.wire })
    ∧ (¬ fits → l.link = .up → t.cls ≠ .event → l.offer t = { l with txDrops := min 65535 (l.txDrops + 1) })
    ∧ (¬ fits → l.link = .lost ∨ t.cls = .event → l.offer t = l))
  ∧ ∀ (s : State) (e : EventKind) (subject : Nat) (items : List Byte),
    let t : Telegram := { cls := .event, kind := e.code, payload := enc1 subject ++ items }
    (s.er.mask[e.idx] = true → s.raise e subject items = s)
    ∧ (s.er.mask[e.idx] = false → s.lli.link = .up → s.lli.txQueue.length < 12 →
        s.raise e subject items = { s with lli := s.lli.offer t })
    ∧ (s.er.mask[e.idx] = false → s.lli.link = .lost ∨ 12 ≤ s.lli.txQueue.length →
        s.raise e subject items = { s with er := { s.er with eventsLost := true } })

/-- R25: a request that stands first and fails a check on its kind, its source or its payload size is answered UNKNOWN_KIND,
NOT_PERMITTED, or RANGE with field 0, in that order of checks, and is not carried out. -/
def Obligations.AccessChecksRefuse : Prop :=
  (∀ (s : State) (src kind : Byte) (p : List Byte), Stands s kind src p → kind.toNat = 0 ∨ 0x20 < kind.toNat →
      exec (.unknownKindRequest src kind p) s = .next (s.popRequest.refused kind src .unknownKind 0))
  ∧ ∀ (s : State) (k : Kind) (src : Byte) (p : List Byte), Stands s k.code src p →
      (k.senders.permit src = false →
        exec (requestCmd k src p) s = .next (s.popRequest.refused k.code src .notPermitted 0))
      ∧ (k.senders.permit src = true → p.length ≠ payloadSize k p →
        exec (requestCmd k src p) s = .next (s.popRequest.refused k.code src .range 0))

/-! ## Berths -/

/-- R45, R46, R48, R205, R206: an ARRIVAL that passes every check is taken out of the request order and fills the berth, which becomes
ANNOUNCED, sets its change flag and no other, offers BERTH_CHANGE and one BERTH_STATUS and is answered ACCEPTED; nothing else changes,
but for EVENTS_LOST where the event is dropped. That the BERTH_CHANGE
comes first is the model's order (notes/assumptions/8.md). -/
def Obligations.ArrivalAnnounces : Prop :=
  ∀ (s : State) (src : Byte) (p : List Byte), Taken s .arrival src p → arrivalRefusal s p = none →
    ∃ t : State, exec (.arrival src p) s = .next (t.accepted .arrival src [])
      ∧ t.berth (berthNamed p)
          = { state := .announced, span := some (spanNamed p), trainNumber := some (u16 p 2), consist := consistNamed p,
              lastReport := none, standstill := false, saturated := false, eUsed := none, verdict := none, nEligible := 0,
              nAligned := 0, trainDoors := [], matchList := [], platformEnable := Vector.replicate 48 false,
              trainEnable := Vector.replicate 96 false, permit := .withdrawn, proofTimer := .stopped, closeCause := none }
      ∧ t.berth (otherBerth (berthNamed p)) = s.berth (otherBerth (berthNamed p))
      ∧ Tells s.popRequest t
          (t.berthChange (berthNamed p) ++ [berthStatusReport (berthNamed p) (t.berth (berthNamed p))])
      ∧ FlagsBerth s t (berthNamed p) ∧ BerthsOnly s t

/-- R46, R49, R56, R59: an ARRIVAL, STOP_REPORT, RELEASE or CLOSE that fails a check is refused with the code of the first
check that fails, and changes nothing. That a RELEASE is refused where the verdict, the last report or e_used is absent, which no
run shows, is the model's choice (notes/assumptions/25.md). -/
def Obligations.BerthOrdersRefused : Prop :=
  ∀ (s : State) (src : Byte) (p : List Byte) (c : Code) (f : Nat),
    (Taken s .arrival src p → arrivalRefusal s p = some (c, f) →
      exec (.arrival src p) s = .next (s.popRequest.refused Kind.arrival.code src c f))
    ∧ (Taken s .stopReport src p → stopReportRefusal s p = some (c, f) →
      exec (.stopReport src p) s = .next (s.popRequest.refused Kind.stopReport.code src c f))
    ∧ (Taken s .release src p → releaseRefusal s p = some (c, f) →
      exec (.release src p) s = .next (s.popRequest.refused Kind.release.code src c f))
    ∧ (Taken s .release src p → releaseRefusal s p = none → (s.berth (berthNamed p)).state = .proven →
        (s.berth (berthNamed p)).movedOff s.settings.creepTol →
      exec (.release src p) s = .next (s.popRequest.refused Kind.release.code src .wrongState 0))
    ∧ (Taken s .close src p → closeRefusal s p = some (c, f) →
      exec (.close src p) s = .next (s.popRequest.refused Kind.close.code src c f))

/-- R45, R49 to R52: a STOP_REPORT in PROVING or PROVEN, one without standstill in ANNOUNCED, and one at standstill within CREEP_TOL
of e_used in RELEASED are stored and do nothing more; one without standstill in BERTHED clears the alignment, and the berth
returns to ANNOUNCED, told by BERTH_CHANGE and BERTH_STATUS (their order: notes/assumptions/8.md). -/
def Obligations.StopReportStores : Prop :=
  ∀ (s : State) (src : Byte) (p : List Byte), Taken s .stopReport src p → stopReportRefusal s p = none →
    let b := berthNamed p
    let r := s.berth b
    (r.state = .proving ∨ r.state = .proven ∨ (r.state = .announced ∧ u8 p 3 = 0)
        ∨ (r.state = .released ∧ u8 p 3 = 1
            ∧ ∃ u : Int, r.eUsed = some u ∧ |reportedOffset p - u| ≤ (s.settings.creepTol : Int)) →
      exec (.stopReport src p) s = .next ((s.popRequest.setBerth b (r.stored p)).accepted .stopReport src []))
    ∧ (r.state = .berthed → u8 p 3 = 0 →
      ∃ t : State, exec (.stopReport src p) s = .next (t.accepted .stopReport src [])
        ∧ t.berth b = { r.stored p with
            state := .announced, eUsed := none, verdict := none, nEligible := 0, nAligned := 0, trainDoors := [],
            matchList := [], platformEnable := Vector.replicate 48 false, trainEnable := Vector.replicate 96 false }
        ∧ Tells s.popRequest t (t.berthChange b ++ [berthStatusReport b (t.berth b)])
        ∧ t.berth (otherBerth b) = s.berth (otherBerth b) ∧ FlagsBerth s t b ∧ BerthsOnly s t)

/-- R45, R50, R51, R69, R83, R116: a STOP_REPORT at standstill in ANNOUNCED or BERTHED sets e_used, has the alignment computed and leaves
the berth BERTHED; the doors of the new platform enable set receive FIRE and EVAC while those overrides are present, and no
other door record changes. The request leaves the request order, every change is told, and the berth's BERTH_STATUS comes last (notes/assumptions/8.md). -/
def Obligations.StandstillComputes : Prop :=
  ∀ (s : State) (src : Byte) (p : List Byte), Taken s .stopReport src p → stopReportRefusal s p = none →
    let b := berthNamed p
    let r := s.berth b
    let s1 := s.setBerth b { r.stored p with eUsed := some (reportedOffset p) }
    (r.state = .announced ∨ r.state = .berthed) → u8 p 3 = 1 →
      ∃ t : State, exec (.stopReport src p) s = .next (t.accepted .stopReport src [])
        ∧ t.berth b = { s1.computed b with state := .berthed }
        ∧ (∀ d : DoorNo, (t.berth b).platformEnable[d] = false
            ∨ (OverrideKind.fire ∉ s.ou.list ∧ OverrideKind.evac ∉ s.ou.list) → t.door d = s.door d)
        ∧ (∀ d : DoorNo, (t.berth b).platformEnable[d] = true → (s.door d).state ≠ .outOfService →
            (OverrideKind.fire ∈ s.ou.list → (t.door d).reasons.fire = true)
            ∧ (OverrideKind.evac ∈ s.ou.list → (t.door d).reasons.evac = true))
        ∧ (∃ ts : List Telegram, Tells s.popRequest t ts ∧ ChangesTold s t ts
            ∧ ts.getLast? = some (berthStatusReport b (t.berth b)))
        ∧ DoorsAndBerthsOnly s t

/-- R45, R52, R53, R54, R55, R62, R116, R120: in RELEASED, a report of movement or of a standstill more than CREEP_TOL from e_used takes the berth
through PROVING with close cause MOVING or CREEP, on to PROVEN exactly where the proof condition holds (R63, R197 to R199), and
RELEASE is removed from each door of the span: an OPENING or OPEN door that held no other reason is ordered closed and is CLOSING,
but where a CREEP computation puts the door in the enable set again under FIRE or EVAC (R83). A MOVING close
empties the alignment and its verdict is NONE; a CREEP close offers CREEP, sets e_used and computes the alignment again. Doors
outside the span are unchanged, the proof timer runs while PROVING, every change is told, and the BERTH_STATUS comes last (notes/assumptions/8.md). -/
def Obligations.ProtectiveClose : Prop :=
  ∀ (s : State) (src : Byte) (p : List Byte), Taken s .stopReport src p → stopReportRefusal s p = none →
    let b := berthNamed p
    let r := s.berth b
    let s1 := s.setBerth b { r.stored p with eUsed := some (reportedOffset p) }
    let closed := fun (t : State) (c : CloseCause) (first : List Telegram) =>
      ((t.berth b).state = .proving ∧ (t.berth b).proofTimer = .running (s.settings.proofTime * 1000)
          ∨ (t.berth b).state = .proven ∧ (t.berth b).proofTimer = .stopped ∧ (t.berth b).permit = .granted)
        ∧ ((t.berth b).state = .proven ↔ ProofHolds t b)
        ∧ (∀ d : DoorNo, InSpan s b d → (s.door d).state ≠ .outOfService → (t.door d).reasons.release = false)
        ∧ (∀ d : DoorNo, InSpan s b d →
            (t.berth b).platformEnable[d] = false ∨ (OverrideKind.fire ∉ s.ou.list ∧ OverrideKind.evac ∉ s.ou.list) →
              t.door d = (s.putReason d false .release).door d
                ∧ ((s.door d).state = .opening ∨ (s.door d).state = .opened →
                    (s.door d).reasons = { Reasons.empty with release := true } →
                    (t.door d).state = .closing ∧ (t.door d).order = .close
                      ∧ (t.door d).motion = .running (s.settings.closeTimeLimit * 1000)))
        ∧ (∀ d : DoorNo, ¬ InSpan s b d → t.door d = s.door d) ∧ DoorsAndBerthsOnly s t
        ∧ ∃ ts : List Telegram, Tells s.popRequest t ts ∧ ChangesTold s t ts ∧ first ⊆ ts
            ∧ s.berthChangeTo b .proving (some c) (r.trainNumber.getD 0) ⊆ ts
            ∧ ts.getLast? = some (berthStatusReport b (t.berth b))
    r.state = .released →
      (u8 p 3 = 0 →
        ∃ t : State, exec (.stopReport src p) s = .next (t.accepted .stopReport src []) ∧ closed t .moving []
          ∧ t.berth b = { r.stored p with
              state := (t.berth b).state, permit := (t.berth b).permit, proofTimer := (t.berth b).proofTimer
              closeCause := some .moving, verdict := some .none, nEligible := 0, nAligned := 0, trainDoors := []
              matchList := [], platformEnable := Vector.replicate 48 false, trainEnable := Vector.replicate 96 false })
      ∧ ∀ u : Int, u8 p 3 = 1 → r.eUsed = some u → (s.settings.creepTol : Int) < |reportedOffset p - u| →
        ∃ t : State, exec (.stopReport src p) s = .next (t.accepted .stopReport src [])
          ∧ closed t .creep (s.eventOf .creep (berthCode b) (encInt2 (reportedOffset p) ++ encInt2 u))
          ∧ t.berth b = { s1.computed b with
              state := (t.berth b).state, permit := (t.berth b).permit, proofTimer := (t.berth b).proofTimer
              closeCause := some .creep }

/-- R45, R56, R57, R116, R201: a RELEASE that passes the checks makes the berth RELEASED, with its alignment kept, its permit withdrawn and its
close cause absent if it was PROVEN; every in-service door of its platform enable set holds RELEASE, a CLOSED one with no reason
opens and counts an OPEN_CYCLES, and every other door is unchanged. The request leaves the request
order, a withdrawn permit is reported first, every change is told, and the BERTH_STATUS comes last (notes/assumptions/8.md). -/
def Obligations.ReleaseOpens : Prop :=
  ∀ (s : State) (src : Byte) (p : List Byte), Taken s .release src p → releaseRefusal s p = none →
    let b := berthNamed p
    let r := s.berth b
    (r.state = .proven → ¬ r.movedOff s.settings.creepTol) →
    ∃ t : State, exec (.release src p) s = .next (t.accepted .release src [])
      ∧ t.berth b = (if r.state = .proven then { r with state := .released, permit := .withdrawn, closeCause := none }
                     else { r with state := .released })
      ∧ (∀ d : DoorNo, r.platformEnable[d] = false → t.door d = s.door d)
      ∧ (∀ d : DoorNo, r.platformEnable[d] = true → (s.door d).state ≠ .outOfService → (t.door d).reasons.release = true)
      ∧ (∀ d : DoorNo, r.platformEnable[d] = true → (s.door d).state = .closed → (s.door d).reasons = .empty →
          (t.door d).state = .opening ∧ (t.door d).order = .opn
            ∧ (t.door d).counters.openCycles = min 65535 ((s.door d).counters.openCycles + 1))
      ∧ (∃ ts : List Telegram, Tells s.popRequest t ts ∧ ChangesTold s t ts
          ∧ (r.state = .proven → ts.head? = some (permitWithdrawn b r .released))
          ∧ ts.getLast? = some (berthStatusReport b (t.berth b)))
      ∧ t.er.berthFlag b = true ∧ DoorsAndBerthsOnly s t

/-- R45, R59 to R63, R116, R120, R129: a CLOSE that passes the checks leaves no RELEASE, FIRE or EVAC reason on an in-service door of the
span and no such door HELD: an OPENING or OPEN door left with no reason is CLOSING, a HELD one closes, or opens where KEY or MAINT
is left. A RELEASED berth goes through PROVING with close cause ORDER, its proof timer running there, on to PROVEN exactly where
the proof condition holds, its grant then reported; a PROVING or PROVEN one keeps its close cause. The alignment of the berth and the doors outside its span are unchanged, every change is told, and the
BERTH_STATUS of a RELEASED berth comes last (notes/assumptions/8.md). -/
def Obligations.CloseShuts : Prop :=
  ∀ (s : State) (src : Byte) (p : List Byte), Taken s .close src p → closeRefusal s p = none →
    let b := berthNamed p
    let r := s.berth b
    ∃ (t : State) (ts : List Telegram), exec (.close src p) s = .next (t.accepted .close src [])
      ∧ ((t.berth b).state = .proving ∨ (t.berth b).state = .proven)
      ∧ t.berth b = { r with
          state := (t.berth b).state, permit := (t.berth b).permit, proofTimer := (t.berth b).proofTimer
          closeCause := if r.state = .released then some .order else r.closeCause }
      ∧ (r.state = .released →
          ((t.berth b).state = .proving → (t.berth b).proofTimer = .running (s.settings.proofTime * 1000))
          ∧ ((t.berth b).state = .proven ↔ ProofHolds t b)
          ∧ ((t.berth b).state = .proven → (t.berth b).proofTimer = .stopped ∧ (t.berth b).permit = .granted
              ∧ permitGranted b (t.berth b) ∈ ts)
          ∧ s.berthChangeTo b .proving (some .order) (r.trainNumber.getD 0) ⊆ ts
          ∧ ts.getLast? = some (berthStatusReport b (t.berth b)))
      ∧ (∀ d : DoorNo, InSpan s b d → (s.door d).state ≠ .outOfService →
          let left : Reasons := { (s.door d).reasons with release := false, fire := false, evac := false }
          (t.door d).reasons = left ∧ (t.door d).state ≠ .held
            ∧ (left = .empty →
                ((s.door d).state = .opening ∨ (s.door d).state = .opened) ∧ (s.door d).reasons ≠ .empty
                  ∨ (s.door d).state = .held →
                (t.door d).state = .closing ∧ (t.door d).order = .close
                  ∧ (t.door d).motion = .running (s.settings.closeTimeLimit * 1000))
            ∧ (left ≠ .empty → (s.door d).state = .held → (t.door d).state = .opening ∧ (t.door d).order = .opn)
            ∧ (left ≠ .empty → (s.door d).state ≠ .held → t.door d = { s.door d with reasons := left }))
      ∧ (∀ d : DoorNo, ¬ InSpan s b d → t.door d = s.door d) ∧ DoorsAndBerthsOnly s t
      ∧ Tells s.popRequest t ts ∧ ChangesTold s t ts

/-- R45, R64, R65: CANCEL of a berth that is neither A nor B is refused RANGE, field 1; in ANNOUNCED or BERTHED the berth becomes VACANT,
every field at its reset value, which BERTH_CHANGE, with the train number it held, and BERTH_STATUS tell (their order:
notes/assumptions/8.md), and the answer is ACCEPTED; in any other state it is refused WRONG_STATE. -/
def Obligations.CancelVacates : Prop :=
  ∀ (s : State) (src : Byte) (p : List Byte), Taken s .cancel src p →
    let b := berthNamed p
    let st := (s.berth b).state
    (1 < u8 p 0 → exec (.cancel src p) s = .next (s.popRequest.refused Kind.cancel.code src .range 1))
    ∧ (u8 p 0 ≤ 1 → st = .announced ∨ st = .berthed →
      ∃ t : State, exec (.cancel src p) s = .next (t.accepted .cancel src []) ∧ (t.berth b).afterReset
        ∧ Tells s.popRequest t
            (s.berthChangeTo b .vacant none ((s.berth b).trainNumber.getD 0) ++ [berthStatusReport b (t.berth b)])
        ∧ t.berth (otherBerth b) = s.berth (otherBerth b) ∧ FlagsBerth s t b ∧ BerthsOnly s t)
    ∧ (u8 p 0 ≤ 1 → st ≠ .announced → st ≠ .berthed →
      exec (.cancel src p) s = .next (s.popRequest.refused Kind.cancel.code src .wrongState 0))

/-- R45, R64, R66, R201, R202, R206: DEPARTED of a berth that is neither A nor B is refused RANGE, field 1; in PROVEN the permit is
withdrawn with its DEPARTURE_PERMIT report and the berth becomes VACANT, which BERTH_CHANGE, with the train number it held, and
BERTH_STATUS tell (their order: notes/assumptions/8.md); in any other state it is refused WRONG_STATE. -/
def Obligations.DepartedVacates : Prop :=
  ∀ (s : State) (src : Byte) (p : List Byte), Taken s .departed src p →
    let b := berthNamed p
    let r := s.berth b
    (1 < u8 p 0 → exec (.departed src p) s = .next (s.popRequest.refused Kind.departed.code src .range 1))
    ∧ (u8 p 0 ≤ 1 → r.state = .proven →
      ∃ t : State, exec (.departed src p) s = .next (t.accepted .departed src [])
        ∧ (t.berth b).afterReset ∧ t.berth (otherBerth b) = s.berth (otherBerth b) ∧ FlagsBerth s t b
        ∧ Tells s.popRequest t ([permitWithdrawn b r .departed] ++ s.berthChangeTo b .vacant none (r.trainNumber.getD 0)
            ++ [berthStatusReport b (t.berth b)])
        ∧ BerthsOnly s t)
    ∧ (u8 p 0 ≤ 1 → r.state ≠ .proven →
      exec (.departed src p) s = .next (s.popRequest.refused Kind.departed.code src .wrongState 0))

/-- R68: BERTH_QUERY is answered with the content of a BERTH_STATUS for the berth asked, in every state, and changes nothing. -/
def Obligations.BerthQueryReads : Prop :=
  ∀ (s : State) (src : Byte) (p : List Byte), Taken s .berthQuery src p →
    (1 < u8 p 0 → exec (.berthQuery src p) s = .next (s.popRequest.refused Kind.berthQuery.code src .range 1))
    ∧ (u8 p 0 ≤ 1 → exec (.berthQuery src p) s
        = .next (s.popRequest.accepted .berthQuery src (berthStatusData (berthNamed p) (s.berth (berthNamed p)))))

/-- R62, R116, R196 to R202: a proof timer that runs out in PROVING becomes expired and PROOF_TIMEOUT is offered; the berth stays
PROVING. An expired one gives no further PROOF_TIMEOUT; that the expiry of a stopped one, which does not run, changes nothing is the
model's (notes/assumptions/27.md). An evaluation (handProof) that finds the proof condition holding in PROVING makes the berth PROVEN,
its timer stopped, its permit granted and reported; one that finds it failing in PROVEN makes the berth PROVING, its permit withdrawn
with PROOF_LOST and reported and its timer started for PROOF_TIME; each is told by BERTH_CHANGE and BERTH_STATUS (their order:
notes/assumptions/8.md); any other changes nothing. The hand-over of a door's record judges the loop of its zone and evaluates the
berths whose span holds it. -/
def Obligations.ProofTimeoutExpires : Prop :=
  ∀ (s : State) (b : BerthId),
    (∀ ms : Nat, (s.berth b).state = .proving → (s.berth b).proofTimer = .running ms →
      exec (.proofTimeout b) s
        = .next ((s.setBerth b { s.berth b with proofTimer := .expired }).raise .proofTimeout (berthCode b)
            (enc2 ((s.berth b).trainNumber.getD 0))))
    ∧ ((s.berth b).proofTimer = .expired ∨ (s.berth b).proofTimer = .stopped → exec (.proofTimeout b) s = .next s)
    ∧ (let r := s.berth b
      let t := s.handProof b
      let gains := r.state = .proving ∧ ProofHolds s b
      let loses := r.state = .proven ∧ ¬ ProofHolds s b
      (gains → t.berth b = { r with state := .proven, permit := .granted, proofTimer := .stopped }
        ∧ Tells s t ([permitGranted b (t.berth b)] ++ t.berthChange b ++ [berthStatusReport b (t.berth b)]))
      ∧ (loses → t.berth b
            = { r with state := .proving, permit := .withdrawn, proofTimer := .running (s.settings.proofTime * 1000) }
        ∧ Tells s t ([permitWithdrawn b r .proofLost] ++ t.berthChange b ++ [berthStatusReport b (t.berth b)]))
      ∧ (gains ∨ loses → FlagsBerth s t b ∧ BerthsOnly s t ∧ t.berth (otherBerth b) = s.berth (otherBerth b))
      ∧ (¬ gains → ¬ loses → t = s))
    ∧ ∀ d : DoorNo,
        let t := s.handDoor d
        LoopJudged t (s.pdt d).zone ∧ t.er.doorFlags[d] = true ∧ DoorsAndBerthsOnly s t ∧ t.doors = s.doors
        ∧ (InSpan s b d → (s.berth b).state = .proving ∨ (s.berth b).state = .proven →
            ((t.berth b).state = .proven ∧ ProofHolds t b ∨ (t.berth b).state = .proving ∧ ¬ ProofHolds t b))

/-! ## Alignment -/

/-- R75 to R81: what a computation leaves. A saturated report matches nothing; otherwise a match record stands exactly for each
in-service span door and its candidate, the nearest eligible train door, where their overlap is at least MIN_PASSAGE and no other
such door with the same candidate has a greater overlap, or an equal one and a smaller number. The list is in ascending door order,
no train door is matched twice, the enable sets and the counts are those of the lists, and the verdict follows the counts. -/
def Obligations.AlignmentSound : Prop :=
  ∀ (s : State) (b : BerthId),
    let r := s.computed b
    r.trainDoors = s.trainDoors b
    ∧ ((s.berth b).saturated = false → ∀ m : MatchRec, m ∈ r.matchList ↔
        ∃ x : TrainDoor, Claims s b r.trainDoors m.p m.t x ∧ m.overlap = pairOverlap (s.pdt m.p) x
          ∧ m.residual = ((s.pdt m.p).centre : Int) - x.pos
          ∧ ∀ d : DoorNo, Claims s b r.trainDoors d m.t x →
              pairOverlap (s.pdt d) x < m.overlap ∨ (pairOverlap (s.pdt d) x = m.overlap ∧ m.p ≤ d))
    ∧ r.matchList.Pairwise (fun m n => m.p < n.p) ∧ (r.matchList.map MatchRec.t).Nodup
    ∧ r.nAligned = r.matchList.length ∧ r.nEligible = (r.trainDoors.filter TrainDoor.eligible).length
    ∧ (∀ d : DoorNo, r.platformEnable[d] = true ↔ ∃ m ∈ r.matchList, m.p = d)
    ∧ (∀ t : Fin 96, r.trainEnable[t] = true ↔ ∃ m ∈ r.matchList, m.t = t.val)
    ∧ r.verdict = some (if r.nAligned = 0 then .none else if r.nAligned < r.nEligible then .partly else .good)
    ∧ ((s.berth b).saturated = true → r.matchList = [] ∧ r.verdict = some .none)

/-- R47, R70 to R75: the train door list of a computation holds an entry for every platform-side door of the consist and no other,
each with its unit, car and place, its width, its train offset by R71 to R73, its coordinate of stop mark plus e_used plus offset, and
its eligibility. The entries stand by ascending offset, and on equal offsets by unit, by the car's place as taken, and from the
front. -/
def Obligations.TrainDoorsLaidOut : Prop :=
  ∀ (s : State) (b : BerthId) (sp : Span) (e : Int), (s.berth b).span = some sp → (s.berth b).eUsed = some e →
    (s.trainDoors b).length = s.consistCount (s.berth b).consist
    ∧ (∀ x : TrainDoor, x ∈ s.trainDoors b ↔ IsTrainDoor s sp e (s.berth b).consist x)
    ∧ (s.trainDoors b).Pairwise (ListedBefore (s.berth b).consist)

/-- R86, R111, R213: ALIGN_DETAIL, RING_TEST_RESULT and COUNTER_READ with a field out of range are refused RANGE with the number
of the first such field; otherwise they are answered with the records from the first one asked for, up to the count, and change
nothing. -/
def Obligations.IndexedReads : Prop :=
  ∀ (s : State) (src : Byte) (p : List Byte),
    (Taken s .alignDetail src p →
      (1 < u8 p 0 → exec (.alignDetail src p) s = .next (s.popRequest.refused Kind.alignDetail.code src .range 1))
      ∧ (u8 p 0 ≤ 1 → 47 < u8 p 1 →
          exec (.alignDetail src p) s = .next (s.popRequest.refused Kind.alignDetail.code src .range 2))
      ∧ (u8 p 0 ≤ 1 → u8 p 1 ≤ 47 → u8 p 2 = 0 ∨ 24 < u8 p 2 →
          exec (.alignDetail src p) s = .next (s.popRequest.refused Kind.alignDetail.code src .range 3))
      ∧ (u8 p 0 ≤ 1 → u8 p 1 ≤ 47 → 1 ≤ u8 p 2 → u8 p 2 ≤ 24 →
          exec (.alignDetail src p) s = .next (s.popRequest.accepted .alignDetail src
            (alignDetailData (berthNamed p) (s.berth (berthNamed p)) (u8 p 1) (u8 p 2)))))
    ∧ (Taken s .ringTestResult src p →
      (49 < u8 p 0 → exec (.ringTestResult src p) s = .next (s.popRequest.refused Kind.ringTestResult.code src .range 1))
      ∧ (u8 p 0 ≤ 49 → u8 p 1 = 0 ∨ 40 < u8 p 1 →
          exec (.ringTestResult src p) s = .next (s.popRequest.refused Kind.ringTestResult.code src .range 2))
      ∧ (u8 p 0 ≤ 49 → 1 ≤ u8 p 1 → u8 p 1 ≤ 40 →
          exec (.ringTestResult src p) s = .next (s.popRequest.accepted .ringTestResult src
            (ringTestResultData s.drm.test (u8 p 0) (u8 p 1)))))
    ∧ (Taken s .counterRead src p →
      (47 < u8 p 0 → exec (.counterRead src p) s = .next (s.popRequest.refused Kind.counterRead.code src .range 1))
      ∧ (u8 p 0 ≤ 47 → u8 p 1 = 0 ∨ 14 < u8 p 1 →
          exec (.counterRead src p) s = .next (s.popRequest.refused Kind.counterRead.code src .range 2))
      ∧ (u8 p 0 ≤ 47 → 1 ≤ u8 p 1 → u8 p 1 ≤ 14 →
          exec (.counterRead src p) s = .next (s.popRequest.accepted .counterRead src
            (counterReadData s.er (u8 p 0) (u8 p 1)))))

/-! ## The door ring -/

/-- R90: a copy of 652 bytes with the frame kind and cycle number of the cycle in progress is taken as its line's copy, unless
one has been taken; every other copy is discarded whole. That a copy discarded by a check leaves the line free for a later good
copy, and that a copy is discarded while the part does not run, are the model's (notes/assumptions/13.md,
notes/assumptions/27.md). -/
def Obligations.RingCopyTaken : Prop :=
  ∀ (s : State) (copy : List Byte),
    (s.phase = .running → copy.length = 652 → copy.take 2 = [s.drm.kind.code, s.drm.cycleNo] →
      (s.drm.copyA = none →
        exec (.ringCopyReceived .A copy) s = .next { s with drm := { s.drm with copyA := some copy } })
      ∧ (s.drm.copyB = none →
        exec (.ringCopyReceived .B copy) s = .next { s with drm := { s.drm with copyB := some copy } })
      ∧ (s.drm.copyA ≠ none → exec (.ringCopyReceived .A copy) s = .next s)
      ∧ (s.drm.copyB ≠ none → exec (.ringCopyReceived .B copy) s = .next s))
    ∧ ∀ q : Port, (s.phase ≠ .running ∨ copy.length ≠ 652 ∨ copy.take 2 ≠ [s.drm.kind.code, s.drm.cycleNo] →
        exec (.ringCopyReceived q copy) s = .next s)

/-- R88 to R95, R97, R100, R101: at a cycle close, whatever the order of the slots, the configured slots' comm records move on their
selected replies (the A reply, else the B reply) under HOLD_CYCLES, slots that are not configured have none, DISAGREE and COMM_MISSES
count, and the next cycle begins with the next number, the period read then, a frame kind of TEST exactly while a ring test runs, the
order of every in-service door's record in its order slot, and the lamps of a panel (R193), from the state then standing, in its own.
The tables and the inputs are unchanged. A door slot's reply is handed to its zones, its accumulator, its record and its key in that
order, a recovery before them, and a slot that is HOLDING, stays LOST or has had no reply hands nothing (R98); an entry out of service
takes the isolation key alone. This holds of the doors where no press of a panel acts, and also behind the act of one panel handed
first. A fitted panel's reply is taken as its record and acts as panelReply; a panel whose slot becomes LOST reads key off and every
button released. That the counters come before every hand-over is the model's order (notes/assumptions/19.md), and that a
recovery that returns a door to service takes its third reply's samples is the model's reading (notes/assumptions/24.md). -/
def Obligations.CycleCloseMovesComm : Prop :=
  ∀ (s : State) (order : List SlotNo), s.phase = .running →
    ∃ t : State, exec (.cycleClose order) s = .next t ∧ t.phase = .running ∧ t.ts = s.ts ∧ t.firePin = s.firePin
      ∧ t.drm.cycleNo = s.drm.cycleNo + 1 ∧ t.drm.copyA = none ∧ t.drm.copyB = none
      ∧ t.drm.period = s.settings.ringPeriod
      ∧ (t.drm.kind = .test ↔ t.drm.test.status = .run)
      ∧ (∀ d : DoorNo, (s.pdt d).inService = true →
          (t.drm.frame[slotOfDoor d]).order = BitVec.ofNat 8 (t.door d).order.code)
      ∧ (∀ d : DoorNo, (s.pdt d).inService = false → (t.drm.frame[slotOfDoor d]).order = 0)
      ∧ (∀ z : Zone, s.panel z = none → (t.drm.frame[slotOfPanel z]).order = 0)
      ∧ (∀ z : Zone, s.panel z ≠ none →
          let lamps := (t.drm.frame[slotOfPanel z]).order
          lamps.getLsbD 0 = t.loop z
            ∧ (lamps.getLsbD 1 = true ↔
                ∃ d : DoorNo, (s.pdt d).zone = z ∧ (t.door d).state ≠ .outOfService ∧ (t.door d).state ≠ .closed)
            ∧ (lamps.getLsbD 2 = true ↔ ∃ d : DoorNo, (s.pdt d).zone = z ∧ ((t.door d).state = .held ∨ (t.door d).state = .fault
                ∨ (t.door d).state = .releasedManual ∨ ∃ g : ZoneId, t.zoneState d g = .stuck))
            ∧ ∀ k : Nat, 3 ≤ k → lamps.getLsbD k = false)
      ∧ (∀ d : DoorNo,
          let before := (s.door d).counters
          let after := (t.door d).counters
          let a := s.replyA (slotOfDoor d)
          let b := s.replyB (slotOfDoor d)
          after.disagree = (if (s.pdt d).inService = true ∧ a ≠ none ∧ b ≠ none ∧ a ≠ b then min 65535 (before.disagree + 1)
              else before.disagree)
            ∧ after.commMisses = (if (s.pdt d).inService = true ∧ a = none ∧ b = none then min 65535 (before.commMisses + 1)
              else before.commMisses))
      ∧ ((∀ z : Zone, QuietPanel s z) → DoorsHanded s s.ringCounted t)
      ∧ (∀ (z : Zone) (y : Reply), s.settings.panelsFitted.fits z = true → s.panel z ≠ none → HandsReply s (slotOfPanel z) y →
          let v := s.ringCounted.panelReply z y
          (∃ n : Panel, t.panel z = some n ∧ n.seen = true ∧ n.key = y.panelKey ∧ n.openPressed = y.openButton
              ∧ n.closePressed = y.closeButton ∧ n.resetPressed = y.resetButton)
            ∧ (order.head? = some (slotOfPanel z) → (∀ z' : Zone, z' ≠ z → QuietPanel s z') → DoorsHanded s v t)
            ∧ ((∀ i : SlotNo, i ≠ slotOfPanel z → HandsNothing s i) → t.doors = v.doors ∧ t.zones = v.zones
                ∧ t.ou.keys = v.ou.keys ∧ t.berthA = v.berthA ∧ t.berthB = v.berthB ∧ ∀ x : Zone, t.loop x = v.loop x))
      ∧ (∀ (z : Zone) (n : Panel), s.settings.panelsFitted.fits z = true → s.panel z = some n →
          s.heard (slotOfPanel z) = none → (s.commOf (slotOfPanel z)).state ≠ .lost →
          (HandsNothing s (slotOfPanel z) →
            ∃ n' : Panel, t.panel z = some n' ∧ n'.seen = n.seen ∧ n'.key = n.key ∧ n'.openPressed = n.openPressed
              ∧ n'.closePressed = n.closePressed ∧ n'.resetPressed = n.resetPressed)
          ∧ (¬ HandsNothing s (slotOfPanel z) →
            ∃ n' : Panel, t.panel z = some n' ∧ n'.seen = false ∧ n'.key = false ∧ n'.openPressed = false
              ∧ n'.closePressed = false ∧ n'.resetPressed = false))
      ∧ (∀ i : SlotNo, s.configured i = false → t.comm i = none)
      ∧ ∀ i : SlotNo, s.configured i = true →
          let c := (s.comm i).getD { state := .noReply, miss := 0, run := 0, held := none }
          let m := min 255 (c.miss + 1)
          match c.state, (s.replyA i).or (s.replyB i) with
          | .lost, some r =>
            t.comm i = if c.run + 1 = 3 then some { state := .live, miss := 0, run := 0, held := some r }
                       else some { c with run := c.run + 1 }
          | .lost, none => t.comm i = some { c with run := 0, miss := m }
          | .noReply, some r | .live, some r | .holding, some r =>
            t.comm i = some { c with state := .live, miss := 0, held := some r }
          | .noReply, none => t.comm i = some { c with miss := m, state := if s.settings.holdCycles < m then .lost else .noReply }
          | .live, none =>
            t.comm i = some { c with miss := 1, state := if s.settings.holdCycles < 1 then .lost else .holding }
          | .holding, none =>
            t.comm i = some { c with miss := m, state := if s.settings.holdCycles < m then .lost else .holding }

/-- R96, R206: the ring state and break position after a cycle close are those the configured slots' replies of that close give, and
a change of either offers RING_STATE with both; that it comes before everything else the close offers is the model's order
(notes/assumptions/19.md). -/
def Obligations.RingStateJudged : Prop :=
  ∀ (s : State) (order : List SlotNo), s.phase = .running →
    ∃ t : State, exec (.cycleClose order) s = .next t
      ∧ ((∀ i : SlotNo, s.configured i = true → s.replyA i ≠ none ∧ s.replyB i ≠ none) →
          t.drm.ring = .intact ∧ t.drm.breakPos = none)
      ∧ ((∃ i : SlotNo, s.configured i = true ∧ ((s.replyA i = none) ≠ (s.replyB i = none))) →
          t.drm.ring = .openRing
            ∧ ((∀ i : SlotNo, s.configured i = true → s.replyA i ≠ none) → t.drm.breakPos = some 50)
            ∧ ∀ i : SlotNo, s.configured i = true → s.replyA i = none →
                (∀ j : SlotNo, j < i → s.configured j = true → s.replyA j ≠ none) → t.drm.breakPos = some i.val)
      ∧ ((∃ i : SlotNo, s.configured i = true ∧ s.replyA i = none ∧ s.replyB i = none) →
          (∀ i : SlotNo, s.configured i = true → ((s.replyA i = none) = (s.replyB i = none))) →
          t.drm.ring = s.drm.ring ∧ t.drm.breakPos = s.drm.breakPos)
      ∧ ∃ ts : List Telegram, Tells s t ((if t.drm.ring = s.drm.ring ∧ t.drm.breakPos = s.drm.breakPos then []
          else s.eventOf .ringState 0xFF (enc1 t.drm.ring.code ++ encOpt1 t.drm.breakPos)) ++ ts)

/-- R97, R99, R118, R130, R162, R186: an in-service door whose slot becomes LOST at a cycle close, from HOLDING, LIVE or NO_REPLY, with
its isolation key not known to be on (R113), is left in FAULT(COMM_LOST) with order STOP and no KEY reason, every fitted sensing zone
forced OCCUPIED, its key record UNSEEN and one more COMM_MISSES, and COMM_LOST is offered (R206). -/
def Obligations.CommLossFaultsDoor : Prop :=
  ∀ (s : State) (order : List SlotNo) (d : DoorNo), s.phase = .running → (s.pdt d).inService = true →
    let c := (s.comm (slotOfDoor d)).getD { state := .noReply, miss := 0, run := 0, held := none }
    c.state ≠ .lost → s.settings.holdCycles < (if c.state = .live then 1 else min 255 (c.miss + 1)) →
    s.replyA (slotOfDoor d) = none → s.replyB (slotOfDoor d) = none → (s.door d).state ≠ .outOfService →
    (s.door d).isoKey ≠ some true →
    ∃ t : State, exec (.cycleClose order) s = .next t ∧ (t.comm (slotOfDoor d)).map CommRec.state = some .lost
      ∧ (t.door d).state = .fault ∧ (t.door d).faultCause = some .commLost ∧ (t.door d).order = .stop
      ∧ (t.door d).reasons.key = false ∧ t.key d = .unseen
      ∧ (t.door d).counters.commMisses = min 65535 ((s.door d).counters.commMisses + 1)
      ∧ (∀ (z : ZoneId) (r : ZoneRec), s.zone d z = some r →
          ∃ r' : ZoneRec, t.zone d z = some r' ∧ r'.state = .occupied ∧ r'.forced = true)
      ∧ ∃ ts : List Telegram, Tells s t ts ∧ s.eventOf .commLost d.val [] ⊆ ts

/-- R103 to R110: the ring test is started, stopped and given an insertion, or the request is refused; each changes nothing but the
test record and, on a stop, offers the RING_TEST_REPORT before its answer. At a cycle close of a running test, a cycle whose frame
was TEST is judged: each slot of the test set scores an error unless its selected reply echoes the recorded word, and the cycle
counts; at 128 the test ends with its verdicts and its report, and the next frame is NORMAL; before that the next frame takes the
generator's next words, complemented where an inversion is pending. Which cycle sent a TEST frame of this test is kept in a field of
the model's own, `judged` (notes/assumptions/18.md), and the reached count before the first judged close is 0
(notes/assumptions/34.md). -/
def Obligations.RingTestRequests : Prop :=
  ∀ (s : State) (src : Byte) (p : List Byte),
    let t := s.drm.test
    (Taken s .ringTestStart src p →
      (s.ou.list.getLast? ≠ some .test ∨ t.status = .run →
        exec (.ringTestStart src p) s = .next (s.popRequest.refused Kind.ringTestStart.code src .wrongState 0))
      ∧ (s.ou.list.getLast? = some .test → t.status ≠ .run →
        exec (.ringTestStart src p) s = .next (State.accepted { s.popRequest with drm := { s.drm with
            judged := false
            test := { status := .run, gen := BitVec.allOnes 15, cyclesDone := 0
                      slots := (allSlots.filter fun i => (s.comm i).isSome).map fun i =>
                        { slot := i, word := none, errors := 0, inserted := 0, reached := 0, pending := false, verdict := none } } } }
          .ringTestStart src [])))
    ∧ (Taken s .ringTestStop src p →
      (t.status ≠ .run →
        exec (.ringTestStop src p) s = .next (s.popRequest.refused Kind.ringTestStop.code src .wrongState 0))
      ∧ (t.status = .run →
        let t' : RingTest := { t with status := .abort, slots := t.slots.map fun x =>
          if x.pending = true then { x with pending := false, inserted := x.inserted - 1 } else x }
        exec (.ringTestStop src p) s = .next ((({ s.popRequest with drm := { s.drm with test := t', judged := false } }).offer
          (ringTestReport t')).accepted .ringTestStop src [])))
    ∧ (Taken s .ringTestInsert src p →
      (47 < u8 p 0 → exec (.ringTestInsert src p) s = .next (s.popRequest.refused Kind.ringTestInsert.code src .range 1))
      ∧ (u8 p 0 ≤ 47 → t.status ≠ .run →
        exec (.ringTestInsert src p) s = .next (s.popRequest.refused Kind.ringTestInsert.code src .wrongState 0))
      ∧ (u8 p 0 ≤ 47 → t.status = .run → (∀ x ∈ t.slots, x.slot.val ≠ u8 p 0) →
        exec (.ringTestInsert src p) s = .next (s.popRequest.refused Kind.ringTestInsert.code src .range 1))
      ∧ (u8 p 0 ≤ 47 → t.status = .run → (∃ x ∈ t.slots, x.slot.val = u8 p 0) →
        exec (.ringTestInsert src p) s = .next (State.accepted { s.popRequest with drm := { s.drm with test := { t with
            slots := t.slots.map fun x =>
              if x.slot.val = u8 p 0 ∧ x.pending = false then { x with pending := true, inserted := x.inserted + 1 }
              else x } } }
          .ringTestInsert src [])))
    ∧ (∀ order : List SlotNo, s.phase = .running →
      ∃ u : State, exec (.cycleClose order) s = .next u
        ∧ (t.status ≠ .run → u.drm.test = t ∧ ∀ i : SlotNo, (u.drm.frame[i]).testWord = 0)
        ∧ (t.status = .run →
          let slots := if s.drm.judged = true then t.slots.map fun x => x.scored ((s.replyA x.slot).or (s.replyB x.slot)) else t.slots
          let done := if s.drm.judged = true then t.cyclesDone + 1 else t.cyclesDone
          let words := testWords slots.length t.gen
          (s.drm.judged = true → done = 128 →
            u.drm.test = { t with
                status := .finished, cyclesDone := 128
                slots := slots.map fun x => { x.withdrawn with verdict := some (decide (x.errors ≤ 3)) } }
              ∧ u.drm.kind = .normal ∧ (∀ i : SlotNo, (u.drm.frame[i]).testWord = 0)
              ∧ ∃ ts : List Telegram, Tells s u ts ∧ ringTestReport u.drm.test ∈ ts)
          ∧ (s.drm.judged = false ∨ done ≠ 128 →
            u.drm.test = { t with
                cyclesDone := done, gen := genAfter slots.length t.gen
                slots := List.zipWith (fun x w => { x with word := some w, pending := false }) slots words }
              ∧ u.drm.kind = .test ∧ u.drm.judged = true
              ∧ ((slots.map TestSlot.slot).Nodup → ∀ (k : Nat) (x : TestSlot) (w : Word16), slots[k]? = some x → words[k]? = some w →
                  (u.drm.frame[x.slot]).testWord = if x.pending = true then ~~~w else w)
              ∧ ∀ i : SlotNo, (∀ x ∈ slots, x.slot ≠ i) → (u.drm.frame[i]).testWord = 0)))

/-! ## Doors -/

/-- R116, R120, R129, R137: DOOR_COMMAND is refused with the code of the first check that fails; OPEN adds MAINT to the door, which opens
it from CLOSED or HELD when it held no reason and waits in UNKNOWN, FAULT and RELEASED_MANUAL; CLOSE removes MAINT, which orders an
OPENING or OPEN door that held MAINT alone closed, into CLOSING, and gives a HELD door a latch reset, which closes it, or opens it
where another reason is left; any other door only loses MAINT. No other door changes, the request leaves the request order, and every change is told. -/
def Obligations.DoorCommandActs : Prop :=
  ∀ (s : State) (src : Byte) (p : List Byte), Taken s .doorCommand src p →
    let d : DoorNo := Fin.ofNat 48 (u8 p 0)
    let r := s.door d
    (∀ (c : Code) (f : Nat), doorCommandRefusal s p = some (c, f) →
      exec (.doorCommand src p) s = .next (s.popRequest.refused Kind.doorCommand.code src c f))
    ∧ (doorCommandRefusal s p = none →
      ∃ t : State, exec (.doorCommand src p) s = .next (t.accepted .doorCommand src [])
        ∧ (∀ d' : DoorNo, d' ≠ d → t.door d' = s.door d') ∧ DoorsAndBerthsOnly s t
        ∧ (∃ ts : List Telegram, Tells s.popRequest t ts ∧ ChangesTold s t ts)
        ∧ (u8 p 1 = 0 → (t.door d).reasons = { r.reasons with maint := true }
          ∧ (r.reasons = .empty → r.state = .closed ∨ r.state = .held →
              (t.door d).state = .opening ∧ (t.door d).order = .opn ∧ (t.door d).reopenCount = 0)
          ∧ (r.state = .unknown ∨ r.state = .fault ∨ r.state = .releasedManual → (t.door d).state = r.state))
        ∧ (u8 p 1 = 1 →
          let left : Reasons := { r.reasons with maint := false }
          (t.door d).reasons = left ∧ (t.door d).state ≠ .held
          ∧ (left = .empty → (r.state = .opening ∨ r.state = .opened) ∧ r.reasons ≠ .empty ∨ r.state = .held →
              (t.door d).state = .closing ∧ (t.door d).order = .close
                ∧ (t.door d).motion = .running (s.settings.closeTimeLimit * 1000))
          ∧ (left ≠ .empty → r.state = .held → (t.door d).state = .opening ∧ (t.door d).order = .opn
              ∧ (t.door d).reopenCount = 0)
          ∧ (r.state ≠ .held → left ≠ .empty ∨ r.reasons = .empty ∨ (r.state ≠ .opening ∧ r.state ≠ .opened) →
              t.door d = { r with reasons := left })))

/-- R116, R117, R129, R131, R138, R161: RESET_LATCH gives a HELD door a latch reset, leaves a door that is neither HELD nor FAULT, one
in FAULT(COMM_LOST) and one with no last known status as it was, and re-adopts any other FAULT door from its last known status; it
then clears each STUCK zone of the door whose count is at or below K_OFF and changes no other zone. No other door changes, the
request leaves the request order, and every change is told. That the stuck clear comes last is the model's order
(notes/assumptions/33.md); a door that a PDT write returned to service and that has not re-adopted is never in another FAULT than
COMM_LOST (ServiceInv), and is left out. -/
def Obligations.ResetLatchActs : Prop :=
  ∀ (s : State) (src : Byte) (p : List Byte), Taken s .resetLatch src p →
    let d : DoorNo := Fin.ofNat 48 (u8 p 0)
    let r := s.door d
    let clears := r.state = .fault ∧ r.faultCause ≠ some .commLost
    let serves := r.isoKey ≠ some true ∧ (s.pdt d).inService = true
    (47 < u8 p 0 → exec (.resetLatch src p) s = .next (s.popRequest.refused Kind.resetLatch.code src .range 1))
    ∧ (u8 p 0 ≤ 47 →
      ∃ (t : State) (ts : List Telegram), exec (.resetLatch src p) s = .next (t.accepted .resetLatch src [])
        ∧ (∀ d' : DoorNo, d' ≠ d → t.door d' = s.door d' ∧ t.zonesOf d' = s.zonesOf d')
        ∧ DoorsAndBerthsOnly { s with zones := t.zones, ou := { s.ou with keys := t.ou.keys } } t
        ∧ Tells s.popRequest t ts ∧ ChangesTold s t ts
        ∧ (r.state = .held → (t.door d).reasons = r.reasons ∧ (t.door d).reopenCount = 0
            ∧ (t.door d).counters = r.counters
            ∧ (r.reasons = .empty → (t.door d).state = .closing ∧ (t.door d).order = .close)
            ∧ (r.reasons ≠ .empty → (t.door d).state = .opening ∧ (t.door d).order = .opn))
        ∧ (r.state ≠ .held → ¬ clears ∨ r.lastStatus = none → t.door d = r)
        ∧ (∀ u : UnitStatus, clears → r.lastStatus = some u → r.returning = false → serves →
            Readopted r (t.door d) u .startOpen)
        ∧ (∀ u : UnitStatus, clears → r.lastStatus = some u → ¬ serves →
            (t.door d).state = .outOfService ∧ (t.door d).order = .none ∧ (t.door d).reasons = .empty)
        ∧ (¬ clears ∨ serves → ∀ z : ZoneId,
            (∀ x : ZoneRec, s.zone d z = some x → x.state = .stuck →
              (∀ pr : SensingProfile, s.sensing d = some pr → t.zone d z = some
                (if x.count ≤ pr.kOff then { x with state := .clear, run := 0 } else x)))
            ∧ ((s.zone d z).map ZoneRec.state ≠ some .stuck → t.zone d z = s.zone d z)))

/-- R139: DOOR_QUERY is answered with the door's record and changes nothing. The count of free values used, which it advances, is
the model's own (notes/assumptions/4.md). -/
def Obligations.DoorQueryReads : Prop :=
  ∀ (s : State) (src : Byte) (p : List Byte), Taken s .doorQuery src p →
    (47 < u8 p 0 → exec (.doorQuery src p) s = .next (s.popRequest.refused Kind.doorQuery.code src .range 1))
    ∧ (u8 p 0 ≤ 47 → exec (.doorQuery src p) s
        = .next (State.accepted { s.popRequest with freeSeq := s.freeSeq + 1 } .doorQuery src
            (doorQueryData s (Fin.ofNat 48 (u8 p 0)))))

/-- R116, R121, R123, R126, R130, R206: a motion or lock-proof timer that runs out puts the door in FAULT with its cause, order STOP,
every timer stopped, count 0 and its reasons kept, and offers DOOR_FAULT first and the door's DOOR_CHANGE last; a reclose timer that runs out closes the door with its count kept when the doorway
is free, with its DOOR_CHANGE, and starts again when it is not. No other door changes and every change is told. -/
def Obligations.DoorTimersExpire : Prop :=
  ∀ (s : State) (d : DoorNo),
    let r := s.door d
    let faulted := fun (c : FaultCause) => ({ r with
      state := .fault, faultCause := some c, heldCause := none, order := .stop, reopenCount := 0, motion := .stopped,
      lockProof := .stopped, reclose := .stopped } : Door)
    let toldAs := fun (t : State) (first : List Telegram) =>
      ∃ mid : List Telegram, Tells s t (first ++ mid ++ t.doorChange d) ∧ ChangesTold s t (first ++ mid ++ t.doorChange d)
    (r.motion ≠ .stopped →
      ∃ t : State, exec (.motionTimeout d) s = .next t ∧ t.door d = faulted .motionTimeout
        ∧ (r.state ≠ .fault → toldAs t (s.eventOf .doorFault d.val (enc1 FaultCause.motionTimeout.code)))
        ∧ (∀ d' : DoorNo, d' ≠ d → t.door d' = s.door d') ∧ DoorsAndBerthsOnly s t)
    ∧ (r.lockProof ≠ .stopped →
      ∃ t : State, exec (.lockProofTimeout d) s = .next t ∧ t.door d = faulted .lockNotProven
        ∧ (r.state ≠ .fault → toldAs t (s.eventOf .doorFault d.val (enc1 FaultCause.lockNotProven.code)))
        ∧ (∀ d' : DoorNo, d' ≠ d → t.door d' = s.door d') ∧ DoorsAndBerthsOnly s t)
    ∧ (r.reclose ≠ .stopped → FreeDoorway s d →
      ∃ t : State, exec (.recloseTimeout d) s = .next t ∧ (t.door d).state = .closing ∧ (t.door d).order = .close
        ∧ (t.door d).motion = .running (s.settings.closeTimeLimit * 1000) ∧ (t.door d).reclose = .stopped
        ∧ (t.door d).reopenCount = r.reopenCount ∧ (r.state ≠ .closing → toldAs t [])
        ∧ (∀ d' : DoorNo, d' ≠ d → t.door d' = s.door d') ∧ DoorsAndBerthsOnly s t)
    ∧ (r.reclose ≠ .stopped → ¬ FreeDoorway s d →
      exec (.recloseTimeout d) s = .next (s.setDoor d { r with reclose := .running s.settings.recloseDelay }))

/-- R119, R120: what one reason does to a door's record. Added to an empty set it opens a door that is CLOSED, CLOSING,
REOPENING or HELD, and is kept in UNKNOWN, RELEASED_MANUAL and FAULT; the last reason removed closes a door that is OPENING or
OPEN and leaves a HELD one HELD; OUT_OF_SERVICE takes none. No other door changes. -/
def Obligations.ReasonsDriveDoor : Prop :=
  ∀ (s : State) (d : DoorNo) (k : Reason),
    let r := s.door d
    let on := (s.putReason d true k).door d
    let off := (s.putReason d false k).door d
    (∀ (v : Bool) (d' : DoorNo), d' ≠ d → (s.putReason d v k).door d' = s.door d')
    ∧ (r.state = .outOfService → on = r ∧ off = r)
    ∧ (r.state ≠ .outOfService → on.reasons = r.reasons.put true k ∧ off.reasons = r.reasons.put false k)
    ∧ (r.reasons = .empty →
        (r.state = .closed → on.state = .opening ∧ on.order = .opn
            ∧ on.counters.openCycles = min 65535 (r.counters.openCycles + 1))
        ∧ (r.state = .closing ∨ r.state = .reopening ∨ r.state = .held →
            on.state = .opening ∧ on.order = .opn ∧ on.reopenCount = 0 ∧ on.counters = r.counters)
        ∧ (r.state = .unknown ∨ r.state = .releasedManual ∨ r.state = .fault →
            on = { r with reasons := r.reasons.put true k }))
    ∧ (r.reasons ≠ .empty → r.reasons.put false k = .empty →
        (r.state = .opening ∨ r.state = .opened → off.state = .closing ∧ off.order = .close ∧ off.counters = r.counters)
        ∧ (r.state = .held ∨ r.state = .unknown ∨ r.state = .releasedManual ∨ r.state = .fault →
            off = { r with reasons := .empty }))
    ∧ (r.state ≠ .outOfService → (r.reasons ≠ .empty ∧ r.reasons.put true k ≠ .empty) →
        on = { r with reasons := r.reasons.put true k })

/-- R84, R100, R115, R117, R122 to R126, R132 to R135, R163, R164, R182, R186: what a status does to a door, by the state it finds, a CLOSED one among
them: the isolation key first, then the fault code, then the manual release, then the leaf and the lock. An UNKNOWN door, and one
returning to service by its key, re-adopts, and takes FIRE with it under ALL_IN_SERVICE (that FIRE and the setting are read then is
notes/assumptions/9.md). A reopen trigger drives a CLOSING door open, or holds it at REOPEN_LIMIT. A recovered slot offers
COMM_RECOVERED, starts its zones from the third reply's samples, re-adopts with cause COMM_RECOVERED, and takes the key as its
starting position. A door that leaves service by its isolation key is out of every platform enable set with its match record and
that record's train door, the counts and the verdict standing; its zones are cleared, each forced flag kept, or discarded with
the entry; and its staff key, if on and granted, is on and not granted, or UNSEEN with the entry. -/
def Obligations.ClosedDoorStatus : Prop :=
  ∀ (s : State) (d : DoorNo),
    let r := s.door d
    let fireReturns := OverrideKind.fire ∈ s.ou.list ∧ s.settings.fireScope = .allInService
    (∀ (u : UnitStatus) (iso : Bool),
      let t := (s.applyStatus d u iso).door d
      let known := ({ r with lastStatus := some u, isoKey := some iso } : Door)
      let wasManual := (r.lastStatus.map UnitStatus.manual).getD false
      let moves := r.state = .closed ∨ r.state = .opening ∨ r.state = .opened ∨ r.state = .closing ∨ r.state = .reopening
        ∨ r.state = .held
      let leafRules := iso = false ∧ u.faultCode = 0 ∧ (u.manual = false ∨ wasManual = true)
      (∀ d' : DoorNo, d' ≠ d → (s.applyStatus d u iso).door d' = s.door d')
      ∧ t.lastStatus = some u ∧ t.isoKey = some iso
      ∧ (iso = true → r.state ≠ .outOfService → t.state = .outOfService ∧ t.order = .none ∧ t.reasons = .empty)
      ∧ (iso = true → r.state ≠ .outOfService →
          let v := s.applyStatus d u iso
          (∀ b : BerthId,
            let old := s.berth b
            let new := v.berth b
            (old.platformEnable[d] = false → new = { old with
                state := new.state, permit := new.permit, proofTimer := new.proofTimer })
            ∧ (old.platformEnable[d] = true → new = { old with
                state := new.state, permit := new.permit, proofTimer := new.proofTimer
                platformEnable := old.platformEnable.set d false
                matchList := old.matchList.filter fun m => decide (m.p ≠ d)
                trainEnable := new.trainEnable }
              ∧ ∀ k : Fin 96, new.trainEnable[k] = (old.trainEnable[k] && !decide (∃ m ∈ old.matchList, m.p = d ∧ m.t = k.val))))
          ∧ (∀ z : ZoneId, v.zone d z = if (s.pdt d).inService = true
              then (s.zone d z).map fun x => { window := [], count := 0, state := .clear, run := 0, forced := x.forced } else none)
          ∧ v.key d = (if (s.pdt d).inService = true then (if s.key d = .onGranted then .onNotGranted else s.key d) else .unseen)
          ∧ t.effort = r.effort ∧ t.blank = r.blank ∧ t.counters = r.counters ∧ t.reopenCount = 0
          ∧ t.motion = .stopped ∧ t.lockProof = .stopped ∧ t.reclose = .stopped)
      ∧ (iso = false → u.faultCode ≠ 0 → moves ∨ r.state = .releasedManual →
          t.state = .fault ∧ t.faultCause = some .unitFault ∧ t.order = .stop ∧ t.reasons = r.reasons)
      ∧ (iso = false → u.faultCode = 0 → u.manual = true → wasManual = false → moves →
          t.state = .releasedManual ∧ t.order = .none ∧ t.reasons = r.reasons
            ∧ t.counters.manualReleases = min 65535 (r.counters.manualReleases + 1))
      ∧ (leafRules → r.state = .closed →
          (u.leaf = .closed → u.lock = true → t = known)
          ∧ (u.leaf ≠ .closed ∨ u.lock = false → t.state = .fault ∧ t.faultCause = some .lockLost ∧ t.order = .stop))
      ∧ (leafRules → r.state = .opening →
          (u.leaf = .opened → t.state = .opened ∧ t.order = .opn ∧ t.motion = .stopped ∧ t.reasons = r.reasons)
          ∧ (u.leaf ≠ .opened → t = known))
      ∧ (leafRules → r.state = .closing →
          (u.leaf = .closed → u.lock = true → t.state = .closed ∧ t.order = .close ∧ t.reopenCount = 0
            ∧ t.motion = .stopped ∧ t.lockProof = .stopped)
          ∧ (u.leaf = .closed → u.lock = false → r.lockProof = .stopped →
              t = { known with motion := .stopped, lockProof := .running s.settings.lockProofTime })
          ∧ (u.leaf ≠ .closed ∨ (u.lock = false ∧ r.lockProof ≠ .stopped) → t = known))
      ∧ (leafRules → r.state = .reopening →
          (u.leaf = .opened → r.reclose = .stopped →
              t = { known with motion := .stopped, reclose := .running s.settings.recloseDelay })
          ∧ (u.leaf ≠ .opened ∨ r.reclose ≠ .stopped → t = known))
      ∧ (leafRules → r.state = .opened ∨ r.state = .held → t = known)
      ∧ (iso = false → r.state = .fault → t = known)
      ∧ (iso = false → u.faultCode = 0 → r.state = .releasedManual →
          (u.manual = true ∨ wasManual = false → t = known)
          ∧ (u.manual = false → wasManual = true →
            (u.leaf = .closed → u.lock = true → r.reasons = .empty → t.state = .closed ∧ t.order = .close)
            ∧ (u.leaf = .closed → u.lock = true → r.reasons ≠ .empty → t.state = .opening ∧ t.order = .opn
                ∧ t.reasons = r.reasons ∧ t.counters.openCycles = min 65535 (r.counters.openCycles + 1))
            ∧ (u.leaf ≠ .closed ∨ u.lock = false →
                t.state = .held ∧ t.heldCause = some .manualRestored ∧ t.order = .none ∧ t.reasons = r.reasons)))
      ∧ (r.state = .outOfService → iso = true ∨ (s.pdt d).inService = false → t = known)
      ∧ (iso = false → (s.pdt d).inService = true → r.state = .unknown ∨ r.state = .outOfService →
          (¬ fireReturns ∨ (r.state = .unknown ∧ r.returning = false) → Readopted r t u .startOpen)
          ∧ (fireReturns → r.state = .outOfService ∨ r.returning = true → r.reasons = .empty →
              t.reasons = { Reasons.empty with fire := true }
                ∧ (u.faultCode = 0 → u.manual = false → t.state = .opening ∧ t.order = .opn))))
    ∧ (let t := (s.reopenTrigger d).door d
      (r.state ≠ .closing → s.reopenTrigger d = s)
      ∧ (r.state = .closing → (∀ d' : DoorNo, d' ≠ d → (s.reopenTrigger d).door d' = s.door d')
          ∧ t.reasons = r.reasons ∧ t.order = .opn
          ∧ (r.reopenCount < s.settings.reopenLimit → t.state = .reopening ∧ t.reopenCount = r.reopenCount + 1
              ∧ t.counters.reopens = min 65535 (r.counters.reopens + 1)
              ∧ t.motion = .running (s.settings.openTimeLimit * 1000))
          ∧ (s.settings.reopenLimit ≤ r.reopenCount → t.state = .held ∧ t.heldCause = some .obstructed
              ∧ t.reopenCount = r.reopenCount)))
    ∧ ∀ y : Reply, r.state = .fault → r.returning = false → y.isoKey = false → (s.pdt d).inService = true → s.key d = .unseen →
        (∀ c : DriveClass, s.driveClass d = some c → y.current.toNat ≤ c.iNom ∧ c.iNom < c.iHard) →
        let t := s.handRecovery d y
        Readopted r (t.door d) y.unitStatus .commRecovered
          ∧ (∀ d' : DoorNo, d' ≠ d → t.door d' = s.door d')
          ∧ t.key d = (if y.staffKey = true then .onNotGranted else .off)
          ∧ (∀ (z : ZoneId) (x : ZoneRec) (pr : SensingProfile), s.zone d z = some x → s.sensing d = some pr → 1 ≤ pr.n →
              pr.stuckLimit ≠ 1 →
              let n := if y.sensor z = true then 1 else 0
              t.zone d z = some { window := [y.sensor z], count := n, state := if pr.kOn ≤ n then .occupied else .clear
                                  run := if pr.kOn ≤ n then 1 else 0, forced := false })
          ∧ ∃ ts : List Telegram, Tells s t (s.eventOf .commRecovered d.val [] ++ ts)

/-! ## Drive effort -/

/-- R125, R141 to R149: what one current sample does to a door's accumulator: nothing in UNKNOWN or OUT_OF_SERVICE; blanking while the
blank count lasts, with cooling only; then a hard trip, heating with a soft trip at the limit, or cooling. A trip halves the
limit, counts, offers EFFORT_TRIP, and acts on the door by its state, its reasons kept. No other door changes. -/
def Obligations.EffortSample : Prop :=
  ∀ (s : State) (d : DoorNo) (i : Nat) (c : DriveClass), s.driveClass d = some c →
    let r := s.door d
    let t := (s.takeCurrent d i).door d
    let trips := c.iHard ≤ i ∨ (c.iNom < i ∧ c.limit ≤ r.effort + i ^ 2 - c.iNom ^ 2)
    (r.state = .unknown ∨ r.state = .outOfService → s.takeCurrent d i = s)
    ∧ (r.state ≠ .unknown → r.state ≠ .outOfService →
      (0 < r.blank → t.blank = r.blank - 1 ∧ t.state = r.state
          ∧ t.effort = if i ≤ c.iNom then r.effort - min r.effort ((c.iNom ^ 2 - i ^ 2) / 8) else r.effort)
      ∧ (r.blank = 0 → c.iNom < c.iHard →
        (c.iHard ≤ i → t.effort = c.limit / 2
            ∧ t.counters.effortTrips = min 65535 (r.counters.effortTrips + 1))
        ∧ (i < c.iHard → c.iNom < i → c.limit ≤ r.effort + i ^ 2 - c.iNom ^ 2 →
            t.effort = c.limit / 2 ∧ t.counters.effortTrips = min 65535 (r.counters.effortTrips + 1))
        ∧ (i < c.iHard → c.iNom < i → r.effort + i ^ 2 - c.iNom ^ 2 < c.limit →
            t = { r with effort := r.effort + i ^ 2 - c.iNom ^ 2 })
        ∧ (i ≤ c.iNom → t = { r with effort := r.effort - min r.effort ((c.iNom ^ 2 - i ^ 2) / 8) })
        ∧ (trips → t.reasons = r.reasons
            ∧ (∃ ts : List Telegram, Tells s (s.takeCurrent d i)
                (s.eventOf .effortTrip d.val (enc1 (if c.iHard ≤ i then 0 else 1) ++ enc1 i ++ enc1 r.state.code) ++ ts))
            ∧ (r.state = .closing → r.reopenCount < s.settings.reopenLimit →
                t.state = .reopening ∧ t.order = .opn ∧ t.reopenCount = r.reopenCount + 1
                  ∧ t.counters.reopens = min 65535 (r.counters.reopens + 1))
            ∧ (r.state = .closing → s.settings.reopenLimit ≤ r.reopenCount →
                t.state = .held ∧ t.heldCause = some .obstructed ∧ t.order = .opn ∧ t.reopenCount = r.reopenCount)
            ∧ (r.state = .opening ∨ r.state = .reopening → t.state = .held ∧ t.heldCause = some .openTrip ∧ t.order = .stop
                ∧ t.motion = .stopped ∧ t.reclose = .stopped ∧ t.reopenCount = r.reopenCount)
            ∧ (r.state = .closed ∨ r.state = .opened ∨ r.state = .held ∨ r.state = .releasedManual →
                t.state = .fault ∧ t.faultCause = some .driveOverload ∧ t.order = .stop ∧ t.reopenCount = 0)
            ∧ (r.state = .fault → t.state = .fault ∧ t.faultCause = r.faultCause ∧ t.order = r.order))))
    ∧ ∀ d' : DoorNo, d' ≠ d → (s.takeCurrent d i).door d' = s.door d'

/-! ## Passenger sensing -/

/-- R154 to R159, R165 to R168, R170: what one sample does to a fitted zone's record that is not forced and not STUCK, at a door in
service: the window takes the sample and drops its oldest one above N, the count is the window's, the state follows K_ON and K_OFF,
and the run counts samples that leave it OCCUPIED; at STUCK_LIMIT the zone of a CLOSED door that no berth holds becomes STUCK, told by
ZONE_STUCK. A gap zone that turns OCCUPIED counts a GAP_EVENTS and offers GAP_OCCUPIED, and then INTRUSION at a door no berth holds
where INTRUSION_REPORT is on; turning OCCUPIED is a reopen trigger for TH and ED, and for a gap zone where GAP_RESPONSE is REOPEN;
otherwise the door does not change. A gap zone's change is handed to the berths whose span holds the door, which evaluate the proof.
The sensor bits of a reply go to the six zones, each as its own sample. -/
def Obligations.ZoneSample : Prop :=
  ∀ (s : State) (d : DoorNo) (bit : Bool) (z : ZoneId) (r : ZoneRec) (p : SensingProfile),
    s.zone d z = some r → s.sensing d = some p → (s.door d).state ≠ .outOfService → r.forced = false → r.state ≠ .stuck →
    let w := if p.n < r.window.length + 1 then (r.window ++ [bit]).drop 1 else r.window ++ [bit]
    let n := w.count true
    let st : ZoneState := if r.state = .clear then (if p.kOn ≤ n then .occupied else .clear)
      else (if n ≤ p.kOff then .clear else .occupied)
    let run := if st = .occupied then min 65535 (r.run + 1) else 0
    let stuck := p.stuckLimit ≠ 0 ∧ st = .occupied ∧ p.stuckLimit ≤ run ∧ (s.door d).state = .closed ∧ s.held d = false
    let t := s.sampleZone d bit z
    let turns := r.state = .clear ∧ st = .occupied
    let counted : Door := if z.isGap = true
      then { s.door d with counters := { (s.door d).counters with gapEvents := min 65535 ((s.door d).counters.gapEvents + 1) } }
      else s.door d
    let first := (if z.isGap = true then s.eventOf .gapOccupied d.val (enc1 z.idx.val) else [])
      ++ (if z.isGap = true ∧ s.held d = false ∧ p.intrusionReport = true then s.eventOf .intrusion d.val (enc1 z.idx.val) else [])
    (¬ stuck → t.zone d z = some { window := w, count := n, state := st, run := run, forced := false })
    ∧ (stuck → t.zone d z = some { window := w, count := n, state := .stuck, run := 0, forced := false })
    ∧ (∀ z' : ZoneId, z' ≠ z → t.zone d z' = s.zone d z')
    ∧ (∀ d' : DoorNo, d' ≠ d → t.door d' = s.door d' ∧ t.zonesOf d' = s.zonesOf d')
    ∧ (¬ turns → t.door d = s.door d)
    ∧ (turns → z.isGap = false ∨ p.gapResponse = .reopen →
        t.door d = ((s.setDoor d counted).reopenTrigger d).door d)
    ∧ (turns → z.isGap = true → p.gapResponse = .holdDeparture → t.door d = counted)
    ∧ (turns → ∃ ts : List Telegram, Tells s t (first ++ ts))
    ∧ (stuck → ∃ ts us : List Telegram, Tells s t (ts ++ s.eventOf .zoneStuck d.val (enc1 z.idx.val) ++ us))
    ∧ (¬ turns → ¬ stuck → st = r.state ∨ z.isGap = false → t = s.setZone d z (t.zone d z))
    ∧ (z.isGap = true → st ≠ r.state ∨ stuck → ∀ b : BerthId, InSpan s b d →
        (s.berth b).state = .proving ∨ (s.berth b).state = .proven →
        (t.berth b).state = .proven ∧ ProofHolds t b ∨ (t.berth b).state = .proving ∧ ¬ ProofHolds t b)
    ∧ ∀ y : Reply, (s.takeSensors d y).zone d z = (s.sampleZone d (y.sensor z) z).zone d z

/-! ## Overrides -/

/-- R173, R174: MODE_ENTER is refused with the code of the first check that fails; otherwise its kind is pushed on top of the
override list, MODE_CHANGE is offered, and no door, zone, berth or table changes. -/
def Obligations.ModeEnterPushes : Prop :=
  ∀ (s : State) (src : Byte) (p : List Byte), Taken s .modeEnter src p →
    (∀ (c : Code) (f : Nat), modeEnterRefusal s p = some (c, f) →
      exec (.modeEnter src p) s = .next (s.popRequest.refused Kind.modeEnter.code src c f))
    ∧ (modeEnterRefusal s p = none →
      ∃ t : State, exec (.modeEnter src p) s = .next (t.accepted .modeEnter src [])
        ∧ t = { s with lli := t.lli, er := t.er
                       ou := { s.ou with list := s.ou.list ++ [if u8 p 0 = 0 then .maint else .test] } }
        ∧ Tells s.popRequest t (t.modeChange (if u8 p 0 = 0 then .maint else .test) 0)
        ∧ QueueOnly s.lli t.lli ∧ MapOnly s.er t.er)

/-- R106, R107, R116, R173, R175, R176: MODE_EXIT of TEST removes TEST; MODE_EXIT of MAINT removes TEST and then MAINT, each with its
MODE_CHANGE, and takes the MAINT reason from every in-service door: one OPENING or OPEN on MAINT alone is ordered closed (R120), and
a HELD door stays HELD. A running ring test aborts with its
report where TEST leaves, doors change only where they held MAINT, and every change is told. -/
def Obligations.ModeExitRemoves : Prop :=
  ∀ (s : State) (src : Byte) (p : List Byte), Taken s .modeExit src p →
    let noTest : State := { s with ou := { s.ou with list := s.ou.list.filter (· ≠ .test) } }
    (1 < u8 p 0 → exec (.modeExit src p) s = .next (s.popRequest.refused Kind.modeExit.code src .range 1))
    ∧ (u8 p 0 = 0 → OverrideKind.maint ∉ s.ou.list →
        exec (.modeExit src p) s = .next (s.popRequest.refused Kind.modeExit.code src .wrongState 0))
    ∧ (u8 p 0 = 1 → OverrideKind.test ∉ s.ou.list →
        exec (.modeExit src p) s = .next (s.popRequest.refused Kind.modeExit.code src .wrongState 0))
    ∧ (u8 p 0 = 1 → OverrideKind.test ∈ s.ou.list →
      ∃ t : State, exec (.modeExit src p) s = .next (t.accepted .modeExit src [])
        ∧ t = { s with ou := noTest.ou, drm := s.drm.aborted, lli := t.lli, er := t.er }
        ∧ Tells s.popRequest t (noTest.modeChange .test 1 ++ s.drm.abortReport) ∧ MapOnly s.er t.er)
    ∧ (u8 p 0 = 0 → OverrideKind.maint ∈ s.ou.list →
      ∃ (t : State) (ts : List Telegram), exec (.modeExit src p) s = .next (t.accepted .modeExit src [])
        ∧ t.ou = { s.ou with list := s.ou.list.filter fun k => k ≠ .maint ∧ k ≠ .test }
        ∧ t.drm = (if OverrideKind.test ∈ s.ou.list then s.drm.aborted else s.drm)
        ∧ DoorsAndBerthsOnly { s with ou := t.ou, drm := t.drm } t
        ∧ Tells s.popRequest t
            ((if OverrideKind.test ∈ s.ou.list then noTest.modeChange .test 1 ++ s.drm.abortReport else [])
              ++ t.modeChange .maint 1 ++ ts)
        ∧ ChangesTold s t ts
        ∧ ∀ d : DoorNo, t.door d = (s.putReason d false .maint).door d
            ∧ ((s.door d).state = .opening ∨ (s.door d).state = .opened →
                (s.door d).reasons = { Reasons.empty with maint := true } →
                (t.door d).state = .closing ∧ (t.door d).order = .close)
            ∧ ((s.door d).reasons.maint = false → t.door d = s.door d)
            ∧ ((s.door d).state ≠ .outOfService → (t.door d).reasons = { (s.door d).reasons with maint := false })
            ∧ ((s.door d).state = .held → (t.door d).state = .held))

/-- R106, R107, R116, R173, R177 to R179: EVACUATE ON is refused while EVAC or FIRE is present; otherwise EVAC is pushed with its
MODE_CHANGE, a running ring test aborts with its report, and every in-service door of either platform enable set holds EVAC: a CLOSED
one with no reason is ordered open, is OPENING and counts an OPEN_CYCLES, and one that is CLOSING, REOPENING or HELD with no reason
opens again (R120). No other door changes. OFF is refused while EVAC is absent;
otherwise EVAC leaves the list with its MODE_CHANGE and no door changes. Every change is told. -/
def Obligations.EvacuateActs : Prop :=
  ∀ (s : State) (src : Byte) (p : List Byte), Taken s .evacuate src p →
    (1 < u8 p 0 → exec (.evacuate src p) s = .next (s.popRequest.refused Kind.evacuate.code src .range 1))
    ∧ (u8 p 0 = 1 → OverrideKind.evac ∈ s.ou.list →
        exec (.evacuate src p) s = .next (s.popRequest.refused Kind.evacuate.code src .wrongState 0))
    ∧ (u8 p 0 = 1 → OverrideKind.evac ∉ s.ou.list → OverrideKind.fire ∈ s.ou.list →
        exec (.evacuate src p) s = .next (s.popRequest.refused Kind.evacuate.code src .overridden 0))
    ∧ (u8 p 0 = 1 → OverrideKind.evac ∉ s.ou.list → OverrideKind.fire ∉ s.ou.list →
      ∃ (t : State) (ts : List Telegram), exec (.evacuate src p) s = .next (t.accepted .evacuate src [])
        ∧ t.ou = { s.ou with list := s.ou.list ++ [.evac] } ∧ t.drm = s.drm.aborted
        ∧ DoorsAndBerthsOnly { s with ou := t.ou, drm := t.drm } t
        ∧ Tells s.popRequest t (t.modeChange .evac 0 ++ s.drm.abortReport ++ ts) ∧ ChangesTold s t ts
        ∧ (∀ d : DoorNo, s.berthA.platformEnable[d] = false → s.berthB.platformEnable[d] = false → t.door d = s.door d)
        ∧ ∀ d : DoorNo, s.berthA.platformEnable[d] = true ∨ s.berthB.platformEnable[d] = true →
            t.door d = (s.putReason d true .evac).door d
            ∧ ((s.door d).state ≠ .outOfService → (t.door d).reasons = { (s.door d).reasons with evac := true })
            ∧ ((s.door d).reasons = .empty → (s.door d).state = .closed →
                (t.door d).state = .opening ∧ (t.door d).order = .opn
                  ∧ (t.door d).counters.openCycles = min 65535 ((s.door d).counters.openCycles + 1))
            ∧ ((s.door d).reasons = .empty →
                (s.door d).state = .closing ∨ (s.door d).state = .reopening ∨ (s.door d).state = .held →
                (t.door d).state = .opening ∧ (t.door d).order = .opn ∧ (t.door d).reopenCount = 0))
    ∧ (u8 p 0 = 0 → OverrideKind.evac ∉ s.ou.list →
        exec (.evacuate src p) s = .next (s.popRequest.refused Kind.evacuate.code src .wrongState 0))
    ∧ (u8 p 0 = 0 → OverrideKind.evac ∈ s.ou.list →
      ∃ t : State, exec (.evacuate src p) s = .next (t.accepted .evacuate src [])
        ∧ t = { s with lli := t.lli, er := t.er, ou := { s.ou with list := s.ou.list.filter (· ≠ .evac) } }
        ∧ Tells s.popRequest t (t.modeChange .evac 1)
        ∧ QueueOnly s.lli t.lli ∧ MapOnly s.er t.er)

/-- R106, R107, R116, R173, R180 to R182: while the part runs, a FIRE input that stands at asserted where the level last taken was de-asserted puts FIRE
on top of the list with its MODE_CHANGE, aborts a running ring test with its report and gives FIRE to the doors that FIRE_SCOPE
names, a CLOSED one with no reason opening (R120); a change to de-asserted takes FIRE from the list with its MODE_CHANGE and leaves every door as it was; a level already taken changes nothing but the level. Before the part runs
the level is not taken. Every change is told. -/
def Obligations.FireChangeActs : Prop :=
  ∀ (s : State) (level : Bool),
    (s.phase ≠ .running → exec (.fireChange level) s = .next { s with firePin := level })
    ∧ (s.phase = .running → level = s.ou.fireTaken → exec (.fireChange level) s = .next { s with firePin := level })
    ∧ (s.phase = .running → level = true → s.ou.fireTaken = false → OverrideKind.fire ∉ s.ou.list →
      ∃ (t : State) (ts : List Telegram), exec (.fireChange level) s = .next t
        ∧ t.ou = { s.ou with fireTaken := true, list := s.ou.list ++ [.fire] } ∧ t.drm = s.drm.aborted
        ∧ DoorsAndBerthsOnly { s with firePin := true, ou := t.ou, drm := t.drm } t
        ∧ Tells s t (t.modeChange .fire 0 ++ s.drm.abortReport ++ ts) ∧ ChangesTold s t ts
        ∧ ∀ d : DoorNo,
            let named := s.settings.fireScope = .allInService ∨ s.berthA.platformEnable[d] = true
              ∨ s.berthB.platformEnable[d] = true
            (¬ named ∨ (s.door d).state = .outOfService → t.door d = s.door d)
            ∧ (named → (s.door d).state ≠ .outOfService → (t.door d).reasons = { (s.door d).reasons with fire := true }
                ∧ t.door d = (s.putReason d true .fire).door d)
            ∧ (named → (s.door d).reasons = .empty → (s.door d).state = .closed →
                (t.door d).state = .opening ∧ (t.door d).order = .opn))
    ∧ (s.phase = .running → level = false → s.ou.fireTaken = true → OverrideKind.fire ∈ s.ou.list →
      ∃ t : State, exec (.fireChange level) s = .next t
        ∧ t = { s with firePin := false, lli := t.lli, er := t.er
                       ou := { s.ou with fireTaken := false, list := s.ou.list.filter (· ≠ .fire) } }
        ∧ Tells s t (t.modeChange .fire 1)
        ∧ QueueOnly s.lli t.lli ∧ MapOnly s.er t.er)

/-- R184 to R186, R188 to R192: a staff key and a panel's reply are taken. A door's first key is its starting position; a key on adds
KEY where it is permitted and is refused with KEY_REFUSED where it is not; a key off removes KEY; a key that stays does nothing. A
panel's first reply is taken as it stands; after it the presses made with the key on act in the order CLOSE, RESET, OPEN, no OPEN
beside a CLOSE press; the record takes the reply and keeps its lamps. CLOSE, ignored under FIRE or EVAC, leaves none of its doors
HELD or holding any reason but KEY, and takes a RELEASED berth through PROVING with cause PANEL; RESET acts as RESET_LATCH on the
doors of the zone; OPEN adds MAINT under MAINT, and otherwise releases a berth that RELEASE with accept-partial would. -/
def Obligations.KeysAndPanelsTaken : Prop :=
  (∀ (s : State) (d : DoorNo) (on : Bool),
    let t := s.takeKey d on
    let permitted := (s.door d).state ≠ .outOfService
      ∧ (s.berthA.platformEnable[d] = true ∨ s.berthB.platformEnable[d] = true ∨ OverrideKind.maint ∈ s.ou.list)
    (∀ d' : DoorNo, d' ≠ d → t.door d' = s.door d' ∧ t.key d' = s.key d')
    ∧ (s.key d = .unseen → t = s.setKey d (if on = true then .onNotGranted else .off))
    ∧ (s.key d = .off → on = true → permitted → t.key d = .onGranted ∧ t.door d = (s.putReason d true .key).door d
        ∧ t.lli = (s.putReason d true .key).lli)
    ∧ (s.key d = .off → on = true → ¬ permitted → t.key d = .onNotGranted ∧ t.doors = s.doors
        ∧ Tells s t (s.eventOf .keyRefused d.val []))
    ∧ (s.key d = .onGranted ∨ s.key d = .onNotGranted → on = false → t.key d = .off
        ∧ t.door d = (s.putReason d false .key).door d ∧ t.lli = (s.putReason d false .key).lli)
    ∧ (s.key d = .off ∧ on = false ∨ (s.key d = .onGranted ∨ s.key d = .onNotGranted) ∧ on = true → t = s))
  ∧ (∀ (s : State) (z : Zone) (n : Panel) (y : Reply), s.panel z = some n →
    let t := s.panelReply z y
    let s0 := s.setPanel z (some { n with
      seen := true, key := y.panelKey, openPressed := y.openButton, closePressed := y.closeButton, resetPressed := y.resetButton })
    let close := y.closeButton = true ∧ n.closePressed = false
    let reset := y.resetButton = true ∧ n.resetPressed = false
    let opn := y.openButton = true ∧ n.openPressed = false
    t.panel z = s0.panel z
    ∧ (n.seen = false ∨ y.panelKey = false ∨ (¬ close ∧ ¬ reset ∧ ¬ opn) → t = s0)
    ∧ (n.seen = true → y.panelKey = true →
        (close → ¬ reset → t = s0.panelClose z) ∧ (close → reset → t = (s0.panelClose z).panelReset z)
        ∧ (¬ close → reset → ¬ opn → t = s0.panelReset z) ∧ (¬ close → reset → opn → t = (s0.panelReset z).panelOpen z)
        ∧ (¬ close → ¬ reset → opn → t = s0.panelOpen z)))
  ∧ (∀ (s : State) (z : Zone), s.panel z = none → ∀ y : Reply, s.panelReply z y = s)
  ∧ ∀ (s : State) (z : Zone),
    let c := s.panelClose z
    let o := s.panelOpen z
    let holds := fun b : BerthId => (s.berth b).state ≠ .vacant ∧ ∃ sp : Span, (s.berth b).span = some sp ∧ sp.has z = true
    let worked := fun d : DoorNo => (∃ b : BerthId, holds b ∧ InSpan s b d) ∨ ((∀ b : BerthId, ¬ holds b) ∧ (s.pdt d).zone = z)
    let unharmed := OverrideKind.fire ∉ s.ou.list ∧ OverrideKind.evac ∉ s.ou.list
    let released := fun b : BerthId => ((s.berth b).verdict = some .good ∨ (s.berth b).verdict = some .partly)
      ∧ ((s.berth b).state = .berthed ∨ ((s.berth b).state = .proven ∧ ¬ (s.berth b).movedOff s.settings.creepTol))
    (¬ unharmed → c = s)
    ∧ (unharmed → OccupancyInv s → ∀ d : DoorNo, (¬ worked d → c.door d = s.door d)
        ∧ (worked d → (s.door d).state ≠ .outOfService → (c.door d).state ≠ .held
            ∧ (c.door d).reasons = { Reasons.empty with key := (s.door d).reasons.key }
            ∧ ((s.door d).reasons.key = false →
                ((s.door d).state = .opening ∨ (s.door d).state = .opened) ∧ (s.door d).reasons ≠ .empty
                  ∨ (s.door d).state = .held →
                (c.door d).state = .closing ∧ (c.door d).order = .close)))
    ∧ (unharmed → OccupancyInv s → ∀ b : BerthId, holds b → (s.berth b).state = .released →
        ((c.berth b).state = .proving ∨ (c.berth b).state = .proven) ∧ ((c.berth b).state = .proven ↔ ProofHolds c b)
          ∧ (c.berth b).closeCause = some .panel)
    ∧ (∀ d : DoorNo, (s.panelReset z).door d = if (s.pdt d).zone = z then (s.resetDoor d).door d else s.door d)
    ∧ (OverrideKind.maint ∈ s.ou.list → ∀ d : DoorNo,
        o.door d = if (s.pdt d).zone = z then (s.putReason d true .maint).door d else s.door d)
    ∧ (OverrideKind.maint ∉ s.ou.list → (∀ b : BerthId, ¬ (holds b ∧ released b)) → o = s)
    ∧ (OverrideKind.maint ∉ s.ou.list → OccupancyInv s → ∀ b : BerthId, holds b → released b →
        (o.berth b).state = .released ∧ ∀ d : DoorNo,
          o.door d = if (s.berth b).platformEnable[d] = true then (s.putReason d true .release).door d else s.door d)

/-! ## Events, counters, identity -/

/-- R207: EVENT_ACK is refused RANGE with the number of the first field that holds a value out of range; with the all flag yes it
clears every change flag, with no it clears the flags of the listed doors and berths, and nothing else changes.
That lists longer than the doors or the berths there are pass is the model's choice (notes/assumptions/16.md). -/
def Obligations.EventAckClears : Prop :=
  ∀ (s : State) (src : Byte) (p : List Byte), Taken s .eventAck src p →
    let nd := u8 p 1
    let nb := u8 p (2 + nd)
    let doorsGood := ∀ k : Nat, k < nd → u8 p (2 + k) ≤ 47
    let berthsGood := ∀ k : Nat, k < nb → u8 p (3 + nd + k) ≤ 1
    (1 < u8 p 0 → exec (.eventAck src p) s = .next (s.popRequest.refused Kind.eventAck.code src .range 1))
    ∧ (u8 p 0 ≤ 1 → ¬ doorsGood → exec (.eventAck src p) s = .next (s.popRequest.refused Kind.eventAck.code src .range 2))
    ∧ (u8 p 0 ≤ 1 → doorsGood → ¬ berthsGood →
        exec (.eventAck src p) s = .next (s.popRequest.refused Kind.eventAck.code src .range 3))
    ∧ (u8 p 0 ≤ 1 → doorsGood → berthsGood →
      ∃ t : State, exec (.eventAck src p) s = .next (t.accepted .eventAck src [])
        ∧ t = { s.popRequest with er := { s.er with
            doorFlags := t.er.doorFlags, berthFlagA := t.er.berthFlagA, berthFlagB := t.er.berthFlagB } }
        ∧ (u8 p 0 = 1 → (∀ d : DoorNo, t.er.doorFlags[d] = false) ∧ ∀ b : BerthId, t.er.berthFlag b = false)
        ∧ (u8 p 0 = 0 →
            (∀ d : DoorNo, t.er.doorFlags[d]
              = (s.er.doorFlags[d] && !decide (∃ k ∈ List.range nd, u8 p (2 + k) = d.val)))
            ∧ ∀ b : BerthId, t.er.berthFlag b
              = (s.er.berthFlag b && !decide (∃ k ∈ List.range nb, u8 p (3 + nd + k) = berthCode b))))

/-- R208: EVENT_MASK replaces the event mask whole by the set carried and is answered ACCEPTED, with no effect on the queue, the
change map or EVENTS_LOST. -/
def Obligations.EventMaskReplaced : Prop :=
  ∀ (s : State) (src : Byte) (p : List Byte), Taken s .eventMask src p →
    ∃ m : Vector Bool 16, (∀ n : Fin 16, m[n] = (u8 p (n.val / 8)).testBit (n.val % 8))
      ∧ exec (.eventMask src p) s = .next (State.accepted { s.popRequest with er := { s.er with mask := m } } .eventMask src [])

/-- R209: CHANGE_MAP is answered with the 48 door flags, the two berth flags and EVENTS_LOST as they stand, and changes
nothing. -/
def Obligations.ChangeMapReads : Prop :=
  ∀ (s : State) (src : Byte) (p : List Byte), Taken s .changeMap src p →
    exec (.changeMap src p) s = .next (s.popRequest.accepted .changeMap src
      (encMap s.er.doorFlags.toList ++ encMap [s.er.berthFlagA, s.er.berthFlagB] ++ [if s.er.eventsLost then 0x01 else 0x00]))

/-- R214: IDENT is accepted from SIGNALLING and from SUPERVISOR; its answer data holds vendor 0x4546, part 6240 and revision
1.0, and it changes nothing. -/
def Obligations.IdentAnswers : Prop :=
  ∀ (s : State) (src : Byte), src = 0x01 ∨ src = 0x02 → Stands s 0x0C src [] →
    exec (.ident src []) s = .next (s.popRequest.accepted .ident src [0x45, 0x46, 0x18, 0x60, 0x01, 0x00])

/-- R34, R210: EDGE_QUERY is answered with the content of an EDGE_STATUS as it stands; the admission of the answer clears
EVENTS_LOST and the degraded flag, and an answer that finds 16 telegrams waiting is dropped, counted and clears neither. -/
def Obligations.EdgeQueryReads : Prop :=
  ∀ (s : State) (src : Byte) (p : List Byte), Taken s .edgeQuery src p →
    (s.lli.txQueue.length < 16 → exec (.edgeQuery src p) s
      = .next (State.accepted { s.popRequest with
          lli := { s.popRequest.lli with degraded := false }, er := { s.er with eventsLost := false } }
        .edgeQuery src (edgeStatusData s)))
    ∧ (16 ≤ s.lli.txQueue.length → exec (.edgeQuery src p) s
      = .next { s.popRequest with lli := { s.popRequest.lli with txDrops := min 65535 (s.lli.txDrops + 1) } })

/-- R211, R212: a SNAPSHOT, and the auto snapshot timer running out, copy every live counter into the snapshot set, set it to 0
and raise the snapshot sequence by 1; the timer starts afresh while AUTO_SNAPSHOT is on. The answer carries the new sequence, and
nothing else changes. That the expiry of a stopped timer changes nothing is the model's (notes/assumptions/27.md). -/
def Obligations.SnapshotTakes : Prop :=
  ∀ s : State,
    let taken := fun (s t : State) =>
      (∀ d : DoorNo, t.er.snap.doors[d] = (s.door d).counters ∧ t.door d = { s.door d with counters := .zero })
        ∧ t.er.snap.crcErrors = s.lli.crcErrors ∧ t.er.snap.lengthErrors = s.lli.lengthErrors
        ∧ t.er.snap.txDrops = s.lli.txDrops
        ∧ t = { s with doors := t.doors, lli := { s.lli with crcErrors := 0, lengthErrors := 0, txDrops := 0 }
                       er := { s.er with snap := t.er.snap, seq := s.er.seq + 1, autoTimer := t.er.autoTimer } }
    (∀ (src : Byte) (p : List Byte), Taken s .snapshot src p →
      ∃ t : State, exec (.snapshot src p) s = .next (t.accepted .snapshot src [s.er.seq + 1]) ∧ taken s.popRequest t
        ∧ t.er.autoTimer = if s.settings.autoSnapshot then .running 60000 else s.er.autoTimer)
    ∧ (s.er.autoTimer ≠ .stopped →
      ∃ t : State, exec .autoSnapshotTimeout s = .next t ∧ taken s t
        ∧ t.er.autoTimer = if s.settings.autoSnapshot then .running 60000 else .stopped)
    ∧ (s.er.autoTimer = .stopped → exec .autoSnapshotTimeout s = .next s)

/-! ## The Table Store -/

/-- R4, R6, R8, R11, R12: a TABLE_WRITE that fails a check is refused with the code of the first that fails; otherwise its entry, read
from the payload, replaces the old entry whole, nothing else of the Table Store and no berth changes, and the effects of the write
follow; a PDT entry written as it was has none. These are the model's: that a bound depending on another field of the write is judged
with the cross-checks, after every fixed range (notes/assumptions/15.md); that a zones fitted map with a bit that marks no member is
out of range (notes/assumptions/36.md); and, among the effects of a PDT write (PdtWritten), that a record that becomes UNKNOWN keeps
its last known status, its isolation key, E, its blank count and its counters (notes/assumptions/31.md), that a zone of an entry
coming into service is forced OCCUPIED while its slot is LOST (notes/assumptions/10.md), and that such a door is noted as returning
(notes/assumptions/9.md); and, among the effects of a settings write (SettingsWritten), that the three lamps of a panel newly fitted
are dark until the next frame is built, where R188 gives only its key and buttons (notes/assumptions/1.md). -/
def Obligations.TableWriteReplaces : Prop :=
  ∀ (s : State) (src : Byte) (p : List Byte), Taken s .tableWrite src p → VacantInv s →
    (∀ (c : Code) (f : Nat), tableWriteRefusal s p = some (c, f) →
      exec (.tableWrite src p) s = .next (s.popRequest.refused Kind.tableWrite.code src c f))
    ∧ (tableWriteRefusal s p = none →
      let i := u8 p 1
      let refusedAt := fun f : Nat =>
        exec (.tableWrite src p) s = .next (s.popRequest.refused Kind.tableWrite.code src .range f)
      let writes := fun (u : Tables) (effects : State → Prop) =>
        ∃ t : State, exec (.tableWrite src p) s = .next (t.accepted .tableWrite src []) ∧ t.ts = { s.ts with tables := u }
          ∧ t.berthA = s.berthA ∧ t.berthB = s.berthB ∧ t.ou.list = s.ou.list ∧ effects t
      (u8 p 0 = 0 →
        let d : DoorNo := Fin.ofNat 48 i
        (∀ f : Nat, (rawPdtAt p).badField = some f → refusedAt f)
        ∧ (∀ f : Nat, (rawPdtAt p).badField = none →
            s.ts.tables.pdtBadCross d (rawPdtAt p).entry = some f → refusedAt f)
        ∧ ((rawPdtAt p).badField = none → s.ts.tables.pdtBadCross d (rawPdtAt p).entry = none →
            writes { s.ts.tables with pdt := s.ts.tables.pdt.set d (rawPdtAt p).entry } fun t =>
              if (rawPdtAt p).entry = s.pdt d then t = s.popRequest
              else PdtWritten s t d (s.pdt d) (rawPdtAt p).entry))
      ∧ (u8 p 0 = 1 →
        (∀ f : Nat, (driveClassAt p).badField = some f → refusedAt f)
        ∧ ((driveClassAt p).badField = none → (driveClassAt p).iHard ≤ (driveClassAt p).iNom → refusedAt 4)
        ∧ ((driveClassAt p).badField = none → (driveClassAt p).iNom < (driveClassAt p).iHard →
            writes { s.ts.tables with classes := s.ts.tables.classes.set (Fin.ofNat 4 i : Fin 4) (some (driveClassAt p)) }
              fun t => ClassWritten s t (Fin.ofNat 4 i) (driveClassAt p)))
      ∧ (u8 p 0 = 2 →
        (∀ f : Nat, (rawSensingAt p).badField = some f → refusedAt f)
        ∧ (∀ f : Nat, (rawSensingAt p).badField = none → (rawSensingAt p).badCross = some f → refusedAt f)
        ∧ ((rawSensingAt p).badField = none → (rawSensingAt p).badCross = none →
            writes { s.ts.tables with
                profiles := s.ts.tables.profiles.set (Fin.ofNat 8 i : Fin 8) (some (rawSensingAt p).entry) }
              fun t => SensingWritten s t (Fin.ofNat 8 i) (rawSensingAt p).n))
      ∧ (u8 p 0 = 3 →
        (∀ f : Nat, (rawSettingsAt p).badField = some f → refusedAt f)
        ∧ ((rawSettingsAt p).badField = none → s.ts.tables.fitsExtents (rawSettingsAt p).block = false → refusedAt 4)
        ∧ ((rawSettingsAt p).badField = none → s.ts.tables.fitsExtents (rawSettingsAt p).block = true →
            writes { s.ts.tables with settings := (rawSettingsAt p).block } fun t =>
              SettingsWritten s t (rawSettingsAt p).block)))

/-- R13: TABLE_READ is refused RANGE for an unknown table, an index out of range, or a car above the profile's car count;
otherwise it is answered with the table, the index and the entry as it stands, and changes nothing. -/
def Obligations.TableReadReads : Prop :=
  ∀ (s : State) (src : Byte) (p : List Byte), Taken s .tableRead src p →
    let i := u8 p 1
    let id : Fin 16 := Fin.ofNat 16 i
    let refusedAt := fun f : Nat => exec (.tableRead src p) s = .next (s.popRequest.refused Kind.tableRead.code src .range f)
    let reads := fun data : List Byte => exec (.tableRead src p) s
      = .next (s.popRequest.accepted .tableRead src ([BitVec.ofNat 8 (u8 p 0), BitVec.ofNat 8 i] ++ data))
    (5 < u8 p 0 → refusedAt 1)
    ∧ (u8 p 0 = 0 → (47 < i → refusedAt 2) ∧ (i ≤ 47 → reads (pdtData (s.pdt (Fin.ofNat 48 i)))))
    ∧ (u8 p 0 = 1 → (3 < i → refusedAt 2)
        ∧ (i ≤ 3 → reads (driveClassData s.ts.tables.classes[(Fin.ofNat 4 i : Fin 4)])))
    ∧ (u8 p 0 = 2 → (7 < i → refusedAt 2) ∧ (i ≤ 7 → reads (sensingData s.ts.tables.profiles[(Fin.ofNat 8 i : Fin 8)])))
    ∧ (u8 p 0 = 3 → (0 < i → refusedAt 2) ∧ (i = 0 → reads (settingsData s.settings)))
    ∧ (u8 p 0 = 4 → (15 < i → refusedAt 2)
        ∧ (i ≤ 15 → u8 p 2 = 0 → reads (profileHeaderData (s.stock id) (s.referenced id)))
        ∧ (i ≤ 15 → (s.stock id).cars.length < u8 p 2 → refusedAt 3)
        ∧ ∀ c : Option Car, i ≤ 15 → 0 < u8 p 2 → (s.stock id).cars[u8 p 2 - 1]? = some c → reads (carData c))
    ∧ (u8 p 0 = 5 → (0 < i → refusedAt 2) ∧ (i = 0 → reads (storeData s.ts)))

/-- R14 to R18: PROFILE_BEGIN, PROFILE_CAR and PROFILE_DELETE are refused with the code of the first check that fails, BUSY, RANGE,
WRONG_STATE, IN_USE or NO_SPACE, and then change nothing; otherwise BEGIN takes m unwritten car records, CAR fills one car record,
DELETE empties the profile, each returning the profile's old records to the pools; a CAR that completes its profile makes it VALID.
No other profile and no other record of the part changes. -/
def Obligations.ProfileRequests : Prop :=
  ∀ (s : State) (src : Byte) (p : List Byte),
    let id : Fin 16 := Fin.ofNat 16 (u8 p 0)
    let old := s.stock id
    let set := fun (q : StockProfile) => ({ s.popRequest with ts := { s.ts with
      tables := { s.ts.tables with stock := s.ts.tables.stock.set id q }
      freeCars := s.ts.freeCars + old.carsHeld - q.carsHeld
      freeDoors := s.ts.freeDoors + old.doorsHeld - q.doorsHeld } } : State)
    (∀ (c : Code) (f : Nat),
      (Taken s .profileBegin src p → profileBeginRefusal s p = some (c, f) →
        exec (.profileBegin src p) s = .next (s.popRequest.refused Kind.profileBegin.code src c f))
      ∧ (Taken s .profileCar src p → profileCarRefusal s p = some (c, f) →
        exec (.profileCar src p) s = .next (s.popRequest.refused Kind.profileCar.code src c f))
      ∧ (Taken s .profileDelete src p → profileDeleteRefusal s p = some (c, f) →
        exec (.profileDelete src p) s = .next (s.popRequest.refused Kind.profileDelete.code src c f)))
    ∧ (Taken s .profileBegin src p → profileBeginRefusal s p = none →
      exec (.profileBegin src p) s = .next ((set
        { state := .building, cars := List.replicate (u8 p 1) none, allowance := u16 p 2 }).accepted .profileBegin src []))
    ∧ (Taken s .profileCar src p → profileCarRefusal s p = none →
      let cars := old.cars.set (u8 p 1 - 1) (some (carAt p))
      exec (.profileCar src p) s = .next ((set
        { old with cars := cars, state := if ∀ c ∈ cars, c ≠ none then .valid else old.state }).accepted .profileCar src []))
    ∧ (Taken s .profileDelete src p → profileDeleteRefusal s p = none →
      exec (.profileDelete src p) s
        = .next ((set { state := .empty, cars := [], allowance := 0 }).accepted .profileDelete src []))

/-- R20, R21: STORE_SAVE without MAINT is refused OVERRIDDEN and during a save BUSY; otherwise the save state is SAVING, the
valid mark is withdrawn and the image INVALID, the contents are those standing with the CRC-16 of their bytes (a free function of
the contents: notes/assumptions/5.md), and no answer is given. A read-back that matches
answers SAVE_DONE, the image VALID and the part CONFIGURED; one that does not, or the 400 ms running out, answers SAVE_FAIL, the
configuration kept. That the image holds the contents at the acceptance is the model's (notes/assumptions/21.md), and so is that the end of a
save that does not run changes nothing (notes/assumptions/27.md). -/
def Obligations.StoreSaves : Prop :=
  ∀ s : State,
    (∀ (src : Byte) (p : List Byte), Taken s .storeSave src p →
      (OverrideKind.maint ∉ s.ou.list →
        exec (.storeSave src p) s = .next (s.popRequest.refused Kind.storeSave.code src .overridden 0))
      ∧ (OverrideKind.maint ∈ s.ou.list → s.ts.saveState = .saving →
        exec (.storeSave src p) s = .next (s.popRequest.refused Kind.storeSave.code src .busy 0))
      ∧ (OverrideKind.maint ∈ s.ou.list → s.ts.saveState = .idle →
        exec (.storeSave src p) s = .next { s.popRequest with ts := { s.ts with
          saveState := .saving, imageState := .invalid
          image := { validMark := false, contents := s.ts.tables, check := crc16 (Config.imageBytes s.ts.tables) } } }))
    ∧ (s.ts.saveState = .saving →
      let failed := (({ s with ts := { s.ts with saveState := .idle } }).accepted .storeSave srcSupervisor [0x01])
      exec .storeSaveTimeout s = .next failed ∧ exec (.storeSaveComplete false) s = .next failed
      ∧ (∃ t : State, exec (.storeSaveComplete true) s = .next (t.accepted .storeSave srcSupervisor [0x00])
          ∧ t.ts = { s.ts with saveState := .idle, imageState := .valid, config := .configured
                               image := { s.ts.image with validMark := true } }
          ∧ t.doors = s.doors ∧ t.zones = s.zones ∧ t.ou = s.ou ∧ t.drm = s.drm
          ∧ (s.ts.config = .configured → t = { s with ts := t.ts })))
    ∧ (s.ts.saveState = .idle →
      exec .storeSaveTimeout s = .next s ∧ ∀ ok : Bool, exec (.storeSaveComplete ok) s = .next s)

/-! ## Invariants of every step -/

/-- Every step keeps the invariant of the link interface (R27, R30, R31, R34). -/
def Obligations.LinkInvKept : Prop := ∀ s t : State, LinkInv s → step s = .next t → LinkInv t

/-- Every step keeps the invariant of the override list (R172, R176, R180). -/
def Obligations.OverrideInvKept : Prop := ∀ s t : State, OverrideInv s → step s = .next t → OverrideInv t

/-- Every step keeps the permits granted exactly while PROVEN, and the proof timers stopped outside PROVING (R62, R201); and every step
keeps a PROVEN berth's proof condition holding, the loop of each zone of its span closed and no gap zone of an in-service span door
OCCUPIED or STUCK, and a PROVING berth's failing (R197, R198, R199, R200). -/
def Obligations.PermitInvKept : Prop :=
  ∀ s t : State, step s = .next t → (PermitInv s → PermitInv t) ∧ (ProofInv s → ProofInv t)

/-- Every step keeps MAINT and trains apart, and two berths off each other's spans (R46, R48, R174), and every step keeps a VACANT
berth's record at its reset values (R42, R64). -/
def Obligations.OccupancyInvKept : Prop :=
  ∀ s t : State, step s = .next t → (OccupancyInv s → OccupancyInv t) ∧ (VacantInv s → VacantInv t)

/-- Every step keeps the pools of car and train-door records whole (R14). -/
def Obligations.PoolInvKept : Prop := ∀ s t : State, PoolInv s → step s = .next t → PoolInv t

/-- Every step keeps each door record's causes, order, timers and reasons those of its state (R112, R114, R119, R120), and with that
keeps the records in service apart from those out of service (R113, R118, R134, R135). -/
def Obligations.DoorInvKept : Prop :=
  ∀ s t : State, DoorInv s → step s = .next t → DoorInv t ∧ (ServiceInv s → ServiceInv t)

/-- Every step keeps each loop output closed exactly while the part is CONFIGURED and every in-service door of the zone is CLOSED
(R195). -/
def Obligations.LoopInvKept : Prop := ∀ s t : State, LoopInv s → step s = .next t → LoopInv t

/-- The ten invariants hold right after reset. The state right after reset is that of a power-on (notes/assumptions/1.md). -/
def Obligations.InvariantsAtReset : Prop :=
  LinkInv State.reset ∧ OverrideInv State.reset ∧ PermitInv State.reset ∧ ProofInv State.reset ∧ OccupancyInv State.reset ∧ VacantInv State.reset
    ∧ PoolInv State.reset ∧ DoorInv State.reset ∧ ServiceInv State.reset ∧ LoopInv State.reset
end

