-- ==== Sys2Proof/Laws/State.lean ====
section
/-! SUPPORT. What each named update of the State does to each field: one lemma per field per update, so that no later proof
unfolds a record update; and what each reading of a record gives after a write. -/

namespace Sys2Proof.Machine


/-! ## setDoor -/

@[simp] theorem State.setDoor_phase (s : State) (d : DoorNo) (r : Door) : (s.setDoor d r).phase = s.phase := rfl
@[simp] theorem State.setDoor_supplyOk (s : State) (d : DoorNo) (r : Door) : (s.setDoor d r).supplyOk = s.supplyOk := rfl
@[simp] theorem State.setDoor_resetLine (s : State) (d : DoorNo) (r : Door) : (s.setDoor d r).resetLine = s.resetLine := rfl
@[simp] theorem State.setDoor_firePin (s : State) (d : DoorNo) (r : Door) : (s.setDoor d r).firePin = s.firePin := rfl
@[simp] theorem State.setDoor_ts (s : State) (d : DoorNo) (r : Door) : (s.setDoor d r).ts = s.ts := rfl
@[simp] theorem State.setDoor_lli (s : State) (d : DoorNo) (r : Door) : (s.setDoor d r).lli = s.lli := rfl
@[simp] theorem State.setDoor_berthA (s : State) (d : DoorNo) (r : Door) : (s.setDoor d r).berthA = s.berthA := rfl
@[simp] theorem State.setDoor_berthB (s : State) (d : DoorNo) (r : Door) : (s.setDoor d r).berthB = s.berthB := rfl
@[simp] theorem State.setDoor_drm (s : State) (d : DoorNo) (r : Door) : (s.setDoor d r).drm = s.drm := rfl
@[simp] theorem State.setDoor_doors (s : State) (d : DoorNo) (r : Door) : (s.setDoor d r).doors = s.doors.set d r := rfl
@[simp] theorem State.setDoor_zones (s : State) (d : DoorNo) (r : Door) : (s.setDoor d r).zones = s.zones := rfl
@[simp] theorem State.setDoor_ou (s : State) (d : DoorNo) (r : Door) : (s.setDoor d r).ou = s.ou := rfl
@[simp] theorem State.setDoor_loopFront (s : State) (d : DoorNo) (r : Door) : (s.setDoor d r).loopFront = s.loopFront := rfl
@[simp] theorem State.setDoor_loopRear (s : State) (d : DoorNo) (r : Door) : (s.setDoor d r).loopRear = s.loopRear := rfl
@[simp] theorem State.setDoor_er (s : State) (d : DoorNo) (r : Door) : (s.setDoor d r).er = s.er := rfl
@[simp] theorem State.setDoor_freeSeq (s : State) (d : DoorNo) (r : Door) : (s.setDoor d r).freeSeq = s.freeSeq := rfl
@[simp] theorem State.setDoor_pending (s : State) (d : DoorNo) (r : Door) : (s.setDoor d r).pending = s.pending := rfl

/-! ## setZones -/

@[simp] theorem State.setZones_phase (s : State) (d : DoorNo) (z : DoorZones) : (s.setZones d z).phase = s.phase := rfl
@[simp] theorem State.setZones_supplyOk (s : State) (d : DoorNo) (z : DoorZones) :
    (s.setZones d z).supplyOk = s.supplyOk := rfl
@[simp] theorem State.setZones_resetLine (s : State) (d : DoorNo) (z : DoorZones) :
    (s.setZones d z).resetLine = s.resetLine := rfl
@[simp] theorem State.setZones_firePin (s : State) (d : DoorNo) (z : DoorZones) : (s.setZones d z).firePin = s.firePin := rfl
@[simp] theorem State.setZones_ts (s : State) (d : DoorNo) (z : DoorZones) : (s.setZones d z).ts = s.ts := rfl
@[simp] theorem State.setZones_lli (s : State) (d : DoorNo) (z : DoorZones) : (s.setZones d z).lli = s.lli := rfl
@[simp] theorem State.setZones_berthA (s : State) (d : DoorNo) (z : DoorZones) : (s.setZones d z).berthA = s.berthA := rfl
@[simp] theorem State.setZones_berthB (s : State) (d : DoorNo) (z : DoorZones) : (s.setZones d z).berthB = s.berthB := rfl
@[simp] theorem State.setZones_drm (s : State) (d : DoorNo) (z : DoorZones) : (s.setZones d z).drm = s.drm := rfl
@[simp] theorem State.setZones_doors (s : State) (d : DoorNo) (z : DoorZones) : (s.setZones d z).doors = s.doors := rfl
@[simp] theorem State.setZones_zones (s : State) (d : DoorNo) (z : DoorZones) :
    (s.setZones d z).zones = s.zones.set d z := rfl
@[simp] theorem State.setZones_ou (s : State) (d : DoorNo) (z : DoorZones) : (s.setZones d z).ou = s.ou := rfl
@[simp] theorem State.setZones_loopFront (s : State) (d : DoorNo) (z : DoorZones) :
    (s.setZones d z).loopFront = s.loopFront := rfl
@[simp] theorem State.setZones_loopRear (s : State) (d : DoorNo) (z : DoorZones) :
    (s.setZones d z).loopRear = s.loopRear := rfl
@[simp] theorem State.setZones_er (s : State) (d : DoorNo) (z : DoorZones) : (s.setZones d z).er = s.er := rfl
@[simp] theorem State.setZones_freeSeq (s : State) (d : DoorNo) (z : DoorZones) : (s.setZones d z).freeSeq = s.freeSeq := rfl
@[simp] theorem State.setZones_pending (s : State) (d : DoorNo) (z : DoorZones) : (s.setZones d z).pending = s.pending := rfl

/-! ## setZone -/

@[simp] theorem State.setZone_phase (s : State) (d : DoorNo) (z : ZoneId) (r : Option ZoneRec) :
    (s.setZone d z r).phase = s.phase := rfl
@[simp] theorem State.setZone_supplyOk (s : State) (d : DoorNo) (z : ZoneId) (r : Option ZoneRec) :
    (s.setZone d z r).supplyOk = s.supplyOk := rfl
@[simp] theorem State.setZone_resetLine (s : State) (d : DoorNo) (z : ZoneId) (r : Option ZoneRec) :
    (s.setZone d z r).resetLine = s.resetLine := rfl
@[simp] theorem State.setZone_firePin (s : State) (d : DoorNo) (z : ZoneId) (r : Option ZoneRec) :
    (s.setZone d z r).firePin = s.firePin := rfl
@[simp] theorem State.setZone_ts (s : State) (d : DoorNo) (z : ZoneId) (r : Option ZoneRec) :
    (s.setZone d z r).ts = s.ts := rfl
@[simp] theorem State.setZone_lli (s : State) (d : DoorNo) (z : ZoneId) (r : Option ZoneRec) :
    (s.setZone d z r).lli = s.lli := rfl
@[simp] theorem State.setZone_berthA (s : State) (d : DoorNo) (z : ZoneId) (r : Option ZoneRec) :
    (s.setZone d z r).berthA = s.berthA := rfl
@[simp] theorem State.setZone_berthB (s : State) (d : DoorNo) (z : ZoneId) (r : Option ZoneRec) :
    (s.setZone d z r).berthB = s.berthB := rfl
@[simp] theorem State.setZone_drm (s : State) (d : DoorNo) (z : ZoneId) (r : Option ZoneRec) :
    (s.setZone d z r).drm = s.drm := rfl
@[simp] theorem State.setZone_doors (s : State) (d : DoorNo) (z : ZoneId) (r : Option ZoneRec) :
    (s.setZone d z r).doors = s.doors := rfl
@[simp] theorem State.setZone_zones (s : State) (d : DoorNo) (z : ZoneId) (r : Option ZoneRec) :
    (s.setZone d z r).zones = s.zones.set d ((s.zonesOf d).set z.idx r) := rfl
@[simp] theorem State.setZone_ou (s : State) (d : DoorNo) (z : ZoneId) (r : Option ZoneRec) :
    (s.setZone d z r).ou = s.ou := rfl
@[simp] theorem State.setZone_loopFront (s : State) (d : DoorNo) (z : ZoneId) (r : Option ZoneRec) :
    (s.setZone d z r).loopFront = s.loopFront := rfl
@[simp] theorem State.setZone_loopRear (s : State) (d : DoorNo) (z : ZoneId) (r : Option ZoneRec) :
    (s.setZone d z r).loopRear = s.loopRear := rfl
@[simp] theorem State.setZone_er (s : State) (d : DoorNo) (z : ZoneId) (r : Option ZoneRec) :
    (s.setZone d z r).er = s.er := rfl
@[simp] theorem State.setZone_freeSeq (s : State) (d : DoorNo) (z : ZoneId) (r : Option ZoneRec) :
    (s.setZone d z r).freeSeq = s.freeSeq := rfl
@[simp] theorem State.setZone_pending (s : State) (d : DoorNo) (z : ZoneId) (r : Option ZoneRec) :
    (s.setZone d z r).pending = s.pending := rfl

/-! ## setBerth -/

@[simp] theorem State.setBerth_phase (s : State) (b : BerthId) (r : Berth) :
    (s.setBerth b r).phase = s.phase := by cases b <;> rfl
@[simp] theorem State.setBerth_supplyOk (s : State) (b : BerthId) (r : Berth) :
    (s.setBerth b r).supplyOk = s.supplyOk := by cases b <;> rfl
@[simp] theorem State.setBerth_resetLine (s : State) (b : BerthId) (r : Berth) :
    (s.setBerth b r).resetLine = s.resetLine := by cases b <;> rfl
@[simp] theorem State.setBerth_firePin (s : State) (b : BerthId) (r : Berth) :
    (s.setBerth b r).firePin = s.firePin := by cases b <;> rfl
@[simp] theorem State.setBerth_ts (s : State) (b : BerthId) (r : Berth) : (s.setBerth b r).ts = s.ts := by cases b <;> rfl
@[simp] theorem State.setBerth_lli (s : State) (b : BerthId) (r : Berth) : (s.setBerth b r).lli = s.lli := by cases b <;> rfl
@[simp] theorem State.setBerth_drm (s : State) (b : BerthId) (r : Berth) : (s.setBerth b r).drm = s.drm := by cases b <;> rfl
@[simp] theorem State.setBerth_doors (s : State) (b : BerthId) (r : Berth) :
    (s.setBerth b r).doors = s.doors := by cases b <;> rfl
@[simp] theorem State.setBerth_zones (s : State) (b : BerthId) (r : Berth) :
    (s.setBerth b r).zones = s.zones := by cases b <;> rfl
@[simp] theorem State.setBerth_ou (s : State) (b : BerthId) (r : Berth) : (s.setBerth b r).ou = s.ou := by cases b <;> rfl
@[simp] theorem State.setBerth_loopFront (s : State) (b : BerthId) (r : Berth) :
    (s.setBerth b r).loopFront = s.loopFront := by cases b <;> rfl
@[simp] theorem State.setBerth_loopRear (s : State) (b : BerthId) (r : Berth) :
    (s.setBerth b r).loopRear = s.loopRear := by cases b <;> rfl
@[simp] theorem State.setBerth_er (s : State) (b : BerthId) (r : Berth) : (s.setBerth b r).er = s.er := by cases b <;> rfl
@[simp] theorem State.setBerth_freeSeq (s : State) (b : BerthId) (r : Berth) :
    (s.setBerth b r).freeSeq = s.freeSeq := by cases b <;> rfl
@[simp] theorem State.setBerth_pending (s : State) (b : BerthId) (r : Berth) :
    (s.setBerth b r).pending = s.pending := by cases b <;> rfl

/-! ## setLoop -/

@[simp] theorem State.setLoop_phase (s : State) (z : Zone) (v : Bool) : (s.setLoop z v).phase = s.phase := by cases z <;> rfl
@[simp] theorem State.setLoop_supplyOk (s : State) (z : Zone) (v : Bool) :
    (s.setLoop z v).supplyOk = s.supplyOk := by cases z <;> rfl
@[simp] theorem State.setLoop_resetLine (s : State) (z : Zone) (v : Bool) :
    (s.setLoop z v).resetLine = s.resetLine := by cases z <;> rfl
@[simp] theorem State.setLoop_firePin (s : State) (z : Zone) (v : Bool) :
    (s.setLoop z v).firePin = s.firePin := by cases z <;> rfl
@[simp] theorem State.setLoop_ts (s : State) (z : Zone) (v : Bool) : (s.setLoop z v).ts = s.ts := by cases z <;> rfl
@[simp] theorem State.setLoop_lli (s : State) (z : Zone) (v : Bool) : (s.setLoop z v).lli = s.lli := by cases z <;> rfl
@[simp] theorem State.setLoop_berthA (s : State) (z : Zone) (v : Bool) :
    (s.setLoop z v).berthA = s.berthA := by cases z <;> rfl
@[simp] theorem State.setLoop_berthB (s : State) (z : Zone) (v : Bool) :
    (s.setLoop z v).berthB = s.berthB := by cases z <;> rfl
@[simp] theorem State.setLoop_drm (s : State) (z : Zone) (v : Bool) : (s.setLoop z v).drm = s.drm := by cases z <;> rfl
@[simp] theorem State.setLoop_doors (s : State) (z : Zone) (v : Bool) : (s.setLoop z v).doors = s.doors := by cases z <;> rfl
@[simp] theorem State.setLoop_zones (s : State) (z : Zone) (v : Bool) : (s.setLoop z v).zones = s.zones := by cases z <;> rfl
@[simp] theorem State.setLoop_ou (s : State) (z : Zone) (v : Bool) : (s.setLoop z v).ou = s.ou := by cases z <;> rfl
@[simp] theorem State.setLoop_er (s : State) (z : Zone) (v : Bool) : (s.setLoop z v).er = s.er := by cases z <;> rfl
@[simp] theorem State.setLoop_freeSeq (s : State) (z : Zone) (v : Bool) :
    (s.setLoop z v).freeSeq = s.freeSeq := by cases z <;> rfl
@[simp] theorem State.setLoop_pending (s : State) (z : Zone) (v : Bool) :
    (s.setLoop z v).pending = s.pending := by cases z <;> rfl

/-! ## setPanel -/

@[simp] theorem State.setPanel_phase (s : State) (z : Zone) (p : Option Panel) :
    (s.setPanel z p).phase = s.phase := by cases z <;> rfl
@[simp] theorem State.setPanel_supplyOk (s : State) (z : Zone) (p : Option Panel) :
    (s.setPanel z p).supplyOk = s.supplyOk := by cases z <;> rfl
@[simp] theorem State.setPanel_resetLine (s : State) (z : Zone) (p : Option Panel) :
    (s.setPanel z p).resetLine = s.resetLine := by cases z <;> rfl
@[simp] theorem State.setPanel_firePin (s : State) (z : Zone) (p : Option Panel) :
    (s.setPanel z p).firePin = s.firePin := by cases z <;> rfl
@[simp] theorem State.setPanel_ts (s : State) (z : Zone) (p : Option Panel) :
    (s.setPanel z p).ts = s.ts := by cases z <;> rfl
@[simp] theorem State.setPanel_lli (s : State) (z : Zone) (p : Option Panel) :
    (s.setPanel z p).lli = s.lli := by cases z <;> rfl
@[simp] theorem State.setPanel_berthA (s : State) (z : Zone) (p : Option Panel) :
    (s.setPanel z p).berthA = s.berthA := by cases z <;> rfl
@[simp] theorem State.setPanel_berthB (s : State) (z : Zone) (p : Option Panel) :
    (s.setPanel z p).berthB = s.berthB := by cases z <;> rfl
@[simp] theorem State.setPanel_drm (s : State) (z : Zone) (p : Option Panel) :
    (s.setPanel z p).drm = s.drm := by cases z <;> rfl
@[simp] theorem State.setPanel_doors (s : State) (z : Zone) (p : Option Panel) :
    (s.setPanel z p).doors = s.doors := by cases z <;> rfl
@[simp] theorem State.setPanel_zones (s : State) (z : Zone) (p : Option Panel) :
    (s.setPanel z p).zones = s.zones := by cases z <;> rfl
@[simp] theorem State.setPanel_loopFront (s : State) (z : Zone) (p : Option Panel) :
    (s.setPanel z p).loopFront = s.loopFront := by cases z <;> rfl
@[simp] theorem State.setPanel_loopRear (s : State) (z : Zone) (p : Option Panel) :
    (s.setPanel z p).loopRear = s.loopRear := by cases z <;> rfl
@[simp] theorem State.setPanel_er (s : State) (z : Zone) (p : Option Panel) :
    (s.setPanel z p).er = s.er := by cases z <;> rfl
@[simp] theorem State.setPanel_freeSeq (s : State) (z : Zone) (p : Option Panel) :
    (s.setPanel z p).freeSeq = s.freeSeq := by cases z <;> rfl
@[simp] theorem State.setPanel_pending (s : State) (z : Zone) (p : Option Panel) :
    (s.setPanel z p).pending = s.pending := by cases z <;> rfl

/-! ## setKey -/

@[simp] theorem State.setKey_phase (s : State) (d : DoorNo) (k : KeyState) : (s.setKey d k).phase = s.phase := rfl
@[simp] theorem State.setKey_supplyOk (s : State) (d : DoorNo) (k : KeyState) : (s.setKey d k).supplyOk = s.supplyOk := rfl
@[simp] theorem State.setKey_resetLine (s : State) (d : DoorNo) (k : KeyState) :
    (s.setKey d k).resetLine = s.resetLine := rfl
@[simp] theorem State.setKey_firePin (s : State) (d : DoorNo) (k : KeyState) : (s.setKey d k).firePin = s.firePin := rfl
@[simp] theorem State.setKey_ts (s : State) (d : DoorNo) (k : KeyState) : (s.setKey d k).ts = s.ts := rfl
@[simp] theorem State.setKey_lli (s : State) (d : DoorNo) (k : KeyState) : (s.setKey d k).lli = s.lli := rfl
@[simp] theorem State.setKey_berthA (s : State) (d : DoorNo) (k : KeyState) : (s.setKey d k).berthA = s.berthA := rfl
@[simp] theorem State.setKey_berthB (s : State) (d : DoorNo) (k : KeyState) : (s.setKey d k).berthB = s.berthB := rfl
@[simp] theorem State.setKey_drm (s : State) (d : DoorNo) (k : KeyState) : (s.setKey d k).drm = s.drm := rfl
@[simp] theorem State.setKey_doors (s : State) (d : DoorNo) (k : KeyState) : (s.setKey d k).doors = s.doors := rfl
@[simp] theorem State.setKey_zones (s : State) (d : DoorNo) (k : KeyState) : (s.setKey d k).zones = s.zones := rfl
@[simp] theorem State.setKey_ou (s : State) (d : DoorNo) (k : KeyState) :
    (s.setKey d k).ou = { s.ou with keys := s.ou.keys.set d k } := rfl
@[simp] theorem State.setKey_loopFront (s : State) (d : DoorNo) (k : KeyState) :
    (s.setKey d k).loopFront = s.loopFront := rfl
@[simp] theorem State.setKey_loopRear (s : State) (d : DoorNo) (k : KeyState) : (s.setKey d k).loopRear = s.loopRear := rfl
@[simp] theorem State.setKey_er (s : State) (d : DoorNo) (k : KeyState) : (s.setKey d k).er = s.er := rfl
@[simp] theorem State.setKey_freeSeq (s : State) (d : DoorNo) (k : KeyState) : (s.setKey d k).freeSeq = s.freeSeq := rfl
@[simp] theorem State.setKey_pending (s : State) (d : DoorNo) (k : KeyState) : (s.setKey d k).pending = s.pending := rfl

/-! ## setTables -/

@[simp] theorem State.setTables_phase (s : State) (t : Tables) : (s.setTables t).phase = s.phase := rfl
@[simp] theorem State.setTables_supplyOk (s : State) (t : Tables) : (s.setTables t).supplyOk = s.supplyOk := rfl
@[simp] theorem State.setTables_resetLine (s : State) (t : Tables) : (s.setTables t).resetLine = s.resetLine := rfl
@[simp] theorem State.setTables_firePin (s : State) (t : Tables) : (s.setTables t).firePin = s.firePin := rfl
@[simp] theorem State.setTables_ts (s : State) (t : Tables) : (s.setTables t).ts = { s.ts with tables := t } := rfl
@[simp] theorem State.setTables_lli (s : State) (t : Tables) : (s.setTables t).lli = s.lli := rfl
@[simp] theorem State.setTables_berthA (s : State) (t : Tables) : (s.setTables t).berthA = s.berthA := rfl
@[simp] theorem State.setTables_berthB (s : State) (t : Tables) : (s.setTables t).berthB = s.berthB := rfl
@[simp] theorem State.setTables_drm (s : State) (t : Tables) : (s.setTables t).drm = s.drm := rfl
@[simp] theorem State.setTables_doors (s : State) (t : Tables) : (s.setTables t).doors = s.doors := rfl
@[simp] theorem State.setTables_zones (s : State) (t : Tables) : (s.setTables t).zones = s.zones := rfl
@[simp] theorem State.setTables_ou (s : State) (t : Tables) : (s.setTables t).ou = s.ou := rfl
@[simp] theorem State.setTables_loopFront (s : State) (t : Tables) : (s.setTables t).loopFront = s.loopFront := rfl
@[simp] theorem State.setTables_loopRear (s : State) (t : Tables) : (s.setTables t).loopRear = s.loopRear := rfl
@[simp] theorem State.setTables_er (s : State) (t : Tables) : (s.setTables t).er = s.er := rfl
@[simp] theorem State.setTables_freeSeq (s : State) (t : Tables) : (s.setTables t).freeSeq = s.freeSeq := rfl
@[simp] theorem State.setTables_pending (s : State) (t : Tables) : (s.setTables t).pending = s.pending := rfl

/-! ## setComm -/

@[simp] theorem State.setComm_phase (s : State) (i : SlotNo) (c : Option CommRec) : (s.setComm i c).phase = s.phase := rfl
@[simp] theorem State.setComm_supplyOk (s : State) (i : SlotNo) (c : Option CommRec) :
    (s.setComm i c).supplyOk = s.supplyOk := rfl
@[simp] theorem State.setComm_resetLine (s : State) (i : SlotNo) (c : Option CommRec) :
    (s.setComm i c).resetLine = s.resetLine := rfl
@[simp] theorem State.setComm_firePin (s : State) (i : SlotNo) (c : Option CommRec) :
    (s.setComm i c).firePin = s.firePin := rfl
@[simp] theorem State.setComm_ts (s : State) (i : SlotNo) (c : Option CommRec) : (s.setComm i c).ts = s.ts := rfl
@[simp] theorem State.setComm_lli (s : State) (i : SlotNo) (c : Option CommRec) : (s.setComm i c).lli = s.lli := rfl
@[simp] theorem State.setComm_berthA (s : State) (i : SlotNo) (c : Option CommRec) : (s.setComm i c).berthA = s.berthA := rfl
@[simp] theorem State.setComm_berthB (s : State) (i : SlotNo) (c : Option CommRec) : (s.setComm i c).berthB = s.berthB := rfl
@[simp] theorem State.setComm_drm (s : State) (i : SlotNo) (c : Option CommRec) :
    (s.setComm i c).drm = { s.drm with comm := s.drm.comm.set i c } := rfl
@[simp] theorem State.setComm_doors (s : State) (i : SlotNo) (c : Option CommRec) : (s.setComm i c).doors = s.doors := rfl
@[simp] theorem State.setComm_zones (s : State) (i : SlotNo) (c : Option CommRec) : (s.setComm i c).zones = s.zones := rfl
@[simp] theorem State.setComm_ou (s : State) (i : SlotNo) (c : Option CommRec) : (s.setComm i c).ou = s.ou := rfl
@[simp] theorem State.setComm_loopFront (s : State) (i : SlotNo) (c : Option CommRec) :
    (s.setComm i c).loopFront = s.loopFront := rfl
@[simp] theorem State.setComm_loopRear (s : State) (i : SlotNo) (c : Option CommRec) :
    (s.setComm i c).loopRear = s.loopRear := rfl
@[simp] theorem State.setComm_er (s : State) (i : SlotNo) (c : Option CommRec) : (s.setComm i c).er = s.er := rfl
@[simp] theorem State.setComm_freeSeq (s : State) (i : SlotNo) (c : Option CommRec) :
    (s.setComm i c).freeSeq = s.freeSeq := rfl
@[simp] theorem State.setComm_pending (s : State) (i : SlotNo) (c : Option CommRec) :
    (s.setComm i c).pending = s.pending := rfl

/-! ## setTest -/

@[simp] theorem State.setTest_phase (s : State) (t : RingTest) : (s.setTest t).phase = s.phase := rfl
@[simp] theorem State.setTest_supplyOk (s : State) (t : RingTest) : (s.setTest t).supplyOk = s.supplyOk := rfl
@[simp] theorem State.setTest_resetLine (s : State) (t : RingTest) : (s.setTest t).resetLine = s.resetLine := rfl
@[simp] theorem State.setTest_firePin (s : State) (t : RingTest) : (s.setTest t).firePin = s.firePin := rfl
@[simp] theorem State.setTest_ts (s : State) (t : RingTest) : (s.setTest t).ts = s.ts := rfl
@[simp] theorem State.setTest_lli (s : State) (t : RingTest) : (s.setTest t).lli = s.lli := rfl
@[simp] theorem State.setTest_berthA (s : State) (t : RingTest) : (s.setTest t).berthA = s.berthA := rfl
@[simp] theorem State.setTest_berthB (s : State) (t : RingTest) : (s.setTest t).berthB = s.berthB := rfl
@[simp] theorem State.setTest_drm (s : State) (t : RingTest) : (s.setTest t).drm = { s.drm with test := t } := rfl
@[simp] theorem State.setTest_doors (s : State) (t : RingTest) : (s.setTest t).doors = s.doors := rfl
@[simp] theorem State.setTest_zones (s : State) (t : RingTest) : (s.setTest t).zones = s.zones := rfl
@[simp] theorem State.setTest_ou (s : State) (t : RingTest) : (s.setTest t).ou = s.ou := rfl
@[simp] theorem State.setTest_loopFront (s : State) (t : RingTest) : (s.setTest t).loopFront = s.loopFront := rfl
@[simp] theorem State.setTest_loopRear (s : State) (t : RingTest) : (s.setTest t).loopRear = s.loopRear := rfl
@[simp] theorem State.setTest_er (s : State) (t : RingTest) : (s.setTest t).er = s.er := rfl
@[simp] theorem State.setTest_freeSeq (s : State) (t : RingTest) : (s.setTest t).freeSeq = s.freeSeq := rfl
@[simp] theorem State.setTest_pending (s : State) (t : RingTest) : (s.setTest t).pending = s.pending := rfl

/-! ## offer -/

@[simp] theorem State.offer_phase (s : State) (t : Telegram) : (s.offer t).phase = s.phase := rfl
@[simp] theorem State.offer_supplyOk (s : State) (t : Telegram) : (s.offer t).supplyOk = s.supplyOk := rfl
@[simp] theorem State.offer_resetLine (s : State) (t : Telegram) : (s.offer t).resetLine = s.resetLine := rfl
@[simp] theorem State.offer_firePin (s : State) (t : Telegram) : (s.offer t).firePin = s.firePin := rfl
@[simp] theorem State.offer_ts (s : State) (t : Telegram) : (s.offer t).ts = s.ts := rfl
@[simp] theorem State.offer_lli (s : State) (t : Telegram) : (s.offer t).lli = s.lli.offer t := rfl
@[simp] theorem State.offer_berthA (s : State) (t : Telegram) : (s.offer t).berthA = s.berthA := rfl
@[simp] theorem State.offer_berthB (s : State) (t : Telegram) : (s.offer t).berthB = s.berthB := rfl
@[simp] theorem State.offer_drm (s : State) (t : Telegram) : (s.offer t).drm = s.drm := rfl
@[simp] theorem State.offer_doors (s : State) (t : Telegram) : (s.offer t).doors = s.doors := rfl
@[simp] theorem State.offer_zones (s : State) (t : Telegram) : (s.offer t).zones = s.zones := rfl
@[simp] theorem State.offer_ou (s : State) (t : Telegram) : (s.offer t).ou = s.ou := rfl
@[simp] theorem State.offer_loopFront (s : State) (t : Telegram) : (s.offer t).loopFront = s.loopFront := rfl
@[simp] theorem State.offer_loopRear (s : State) (t : Telegram) : (s.offer t).loopRear = s.loopRear := rfl
@[simp] theorem State.offer_er (s : State) (t : Telegram) : (s.offer t).er = s.er := rfl
@[simp] theorem State.offer_freeSeq (s : State) (t : Telegram) : (s.offer t).freeSeq = s.freeSeq := rfl
@[simp] theorem State.offer_pending (s : State) (t : Telegram) : (s.offer t).pending = s.pending := rfl

/-! ## popRequest -/

@[simp] theorem State.popRequest_phase (s : State)  : (s.popRequest).phase = s.phase := rfl
@[simp] theorem State.popRequest_supplyOk (s : State)  : (s.popRequest).supplyOk = s.supplyOk := rfl
@[simp] theorem State.popRequest_resetLine (s : State)  : (s.popRequest).resetLine = s.resetLine := rfl
@[simp] theorem State.popRequest_firePin (s : State)  : (s.popRequest).firePin = s.firePin := rfl
@[simp] theorem State.popRequest_ts (s : State)  : (s.popRequest).ts = s.ts := rfl
@[simp] theorem State.popRequest_lli (s : State)  : (s.popRequest).lli = { s.lli with waiting := s.lli.waiting.tail } := rfl
@[simp] theorem State.popRequest_berthA (s : State)  : (s.popRequest).berthA = s.berthA := rfl
@[simp] theorem State.popRequest_berthB (s : State)  : (s.popRequest).berthB = s.berthB := rfl
@[simp] theorem State.popRequest_drm (s : State)  : (s.popRequest).drm = s.drm := rfl
@[simp] theorem State.popRequest_doors (s : State)  : (s.popRequest).doors = s.doors := rfl
@[simp] theorem State.popRequest_zones (s : State)  : (s.popRequest).zones = s.zones := rfl
@[simp] theorem State.popRequest_ou (s : State)  : (s.popRequest).ou = s.ou := rfl
@[simp] theorem State.popRequest_loopFront (s : State)  : (s.popRequest).loopFront = s.loopFront := rfl
@[simp] theorem State.popRequest_loopRear (s : State)  : (s.popRequest).loopRear = s.loopRear := rfl
@[simp] theorem State.popRequest_er (s : State)  : (s.popRequest).er = s.er := rfl
@[simp] theorem State.popRequest_freeSeq (s : State)  : (s.popRequest).freeSeq = s.freeSeq := rfl
@[simp] theorem State.popRequest_pending (s : State)  : (s.popRequest).pending = s.pending := rfl

/-! ## edgeStatusAdmitted -/

@[simp] theorem State.edgeStatusAdmitted_phase (s : State)  : (s.edgeStatusAdmitted).phase = s.phase := rfl
@[simp] theorem State.edgeStatusAdmitted_supplyOk (s : State)  : (s.edgeStatusAdmitted).supplyOk = s.supplyOk := rfl
@[simp] theorem State.edgeStatusAdmitted_resetLine (s : State)  : (s.edgeStatusAdmitted).resetLine = s.resetLine := rfl
@[simp] theorem State.edgeStatusAdmitted_firePin (s : State)  : (s.edgeStatusAdmitted).firePin = s.firePin := rfl
@[simp] theorem State.edgeStatusAdmitted_ts (s : State)  : (s.edgeStatusAdmitted).ts = s.ts := rfl
@[simp] theorem State.edgeStatusAdmitted_lli (s : State)  :
    (s.edgeStatusAdmitted).lli = { s.lli with degraded := false } := rfl
@[simp] theorem State.edgeStatusAdmitted_berthA (s : State)  : (s.edgeStatusAdmitted).berthA = s.berthA := rfl
@[simp] theorem State.edgeStatusAdmitted_berthB (s : State)  : (s.edgeStatusAdmitted).berthB = s.berthB := rfl
@[simp] theorem State.edgeStatusAdmitted_drm (s : State)  : (s.edgeStatusAdmitted).drm = s.drm := rfl
@[simp] theorem State.edgeStatusAdmitted_doors (s : State)  : (s.edgeStatusAdmitted).doors = s.doors := rfl
@[simp] theorem State.edgeStatusAdmitted_zones (s : State)  : (s.edgeStatusAdmitted).zones = s.zones := rfl
@[simp] theorem State.edgeStatusAdmitted_ou (s : State)  : (s.edgeStatusAdmitted).ou = s.ou := rfl
@[simp] theorem State.edgeStatusAdmitted_loopFront (s : State)  : (s.edgeStatusAdmitted).loopFront = s.loopFront := rfl
@[simp] theorem State.edgeStatusAdmitted_loopRear (s : State)  : (s.edgeStatusAdmitted).loopRear = s.loopRear := rfl
@[simp] theorem State.edgeStatusAdmitted_er (s : State)  :
    (s.edgeStatusAdmitted).er = { s.er with eventsLost := false } := rfl
@[simp] theorem State.edgeStatusAdmitted_freeSeq (s : State)  : (s.edgeStatusAdmitted).freeSeq = s.freeSeq := rfl
@[simp] theorem State.edgeStatusAdmitted_pending (s : State)  : (s.edgeStatusAdmitted).pending = s.pending := rfl

/-! ## raise -/

@[simp] theorem State.raise_phase (s : State) (e : EventKind) (n : Nat) (l : List Byte) :
    (s.raise e n l).phase = s.phase := by unfold State.raise; split <;> rfl
@[simp] theorem State.raise_supplyOk (s : State) (e : EventKind) (n : Nat) (l : List Byte) :
    (s.raise e n l).supplyOk = s.supplyOk := by unfold State.raise; split <;> rfl
@[simp] theorem State.raise_resetLine (s : State) (e : EventKind) (n : Nat) (l : List Byte) :
    (s.raise e n l).resetLine = s.resetLine := by unfold State.raise; split <;> rfl
@[simp] theorem State.raise_firePin (s : State) (e : EventKind) (n : Nat) (l : List Byte) :
    (s.raise e n l).firePin = s.firePin := by unfold State.raise; split <;> rfl
@[simp] theorem State.raise_ts (s : State) (e : EventKind) (n : Nat) (l : List Byte) :
    (s.raise e n l).ts = s.ts := by unfold State.raise; split <;> rfl
@[simp] theorem State.raise_berthA (s : State) (e : EventKind) (n : Nat) (l : List Byte) :
    (s.raise e n l).berthA = s.berthA := by unfold State.raise; split <;> rfl
@[simp] theorem State.raise_berthB (s : State) (e : EventKind) (n : Nat) (l : List Byte) :
    (s.raise e n l).berthB = s.berthB := by unfold State.raise; split <;> rfl
@[simp] theorem State.raise_drm (s : State) (e : EventKind) (n : Nat) (l : List Byte) :
    (s.raise e n l).drm = s.drm := by unfold State.raise; split <;> rfl
@[simp] theorem State.raise_doors (s : State) (e : EventKind) (n : Nat) (l : List Byte) :
    (s.raise e n l).doors = s.doors := by unfold State.raise; split <;> rfl
@[simp] theorem State.raise_zones (s : State) (e : EventKind) (n : Nat) (l : List Byte) :
    (s.raise e n l).zones = s.zones := by unfold State.raise; split <;> rfl
@[simp] theorem State.raise_ou (s : State) (e : EventKind) (n : Nat) (l : List Byte) :
    (s.raise e n l).ou = s.ou := by unfold State.raise; split <;> rfl
@[simp] theorem State.raise_loopFront (s : State) (e : EventKind) (n : Nat) (l : List Byte) :
    (s.raise e n l).loopFront = s.loopFront := by unfold State.raise; split <;> rfl
@[simp] theorem State.raise_loopRear (s : State) (e : EventKind) (n : Nat) (l : List Byte) :
    (s.raise e n l).loopRear = s.loopRear := by unfold State.raise; split <;> rfl
@[simp] theorem State.raise_freeSeq (s : State) (e : EventKind) (n : Nat) (l : List Byte) :
    (s.raise e n l).freeSeq = s.freeSeq := by unfold State.raise; split <;> rfl
@[simp] theorem State.raise_pending (s : State) (e : EventKind) (n : Nat) (l : List Byte) :
    (s.raise e n l).pending = s.pending := by unfold State.raise; split <;> rfl

/-! ## Reading after writing -/

@[simp] theorem State.door_setDoor_same (s : State) (d : DoorNo) (r : Door) : (s.setDoor d r).door d = r := by
  simp [State.door, State.setDoor]

theorem State.door_setDoor_ne (s : State) {d d' : DoorNo} (r : Door) (h : d' ≠ d) :
    (s.setDoor d r).door d' = s.door d' := by
  have : (d : Nat) ≠ d' := fun e => h (Fin.ext e.symm)
  simp [State.door, State.setDoor, Vector.getElem_set_ne, this]

@[simp] theorem State.berth_setBerth_same (s : State) (b : BerthId) (r : Berth) : (s.setBerth b r).berth b = r := by
  cases b <;> rfl

@[simp] theorem State.berth_setBerth_other (s : State) (b : BerthId) (r : Berth) :
    (s.setBerth b r).berth (otherBerth b) = s.berth (otherBerth b) := by
  cases b <;> rfl

@[simp] theorem State.loop_setLoop_same (s : State) (z : Zone) (v : Bool) : (s.setLoop z v).loop z = v := by
  cases z <;> rfl

@[simp] theorem State.panel_setPanel_same (s : State) (z : Zone) (p : Option Panel) : (s.setPanel z p).panel z = p := by
  cases z <;> rfl

@[simp] theorem State.key_setKey_same (s : State) (d : DoorNo) (k : KeyState) : (s.setKey d k).key d = k := by
  simp [State.key, State.setKey]

theorem State.key_setKey_ne (s : State) {d d' : DoorNo} (k : KeyState) (h : d' ≠ d) :
    (s.setKey d k).key d' = s.key d' := by
  have : (d : Nat) ≠ d' := fun e => h (Fin.ext e.symm)
  simp [State.key, State.setKey, Vector.getElem_set_ne, this]

@[simp] theorem State.zonesOf_setZones_same (s : State) (d : DoorNo) (z : DoorZones) : (s.setZones d z).zonesOf d = z := by
  simp [State.zonesOf, State.setZones]

theorem State.zonesOf_setZones_ne (s : State) {d d' : DoorNo} (z : DoorZones) (h : d' ≠ d) :
    (s.setZones d z).zonesOf d' = s.zonesOf d' := by
  have : (d : Nat) ≠ d' := fun e => h (Fin.ext e.symm)
  simp [State.zonesOf, State.setZones, Vector.getElem_set_ne, this]

theorem ZoneId.idx_injective {y z : ZoneId} (h : y.idx = z.idx) : y = z := by
  cases y <;> cases z <;> first | rfl | (exact absurd h (by decide))

@[simp] theorem State.zone_setZone_same (s : State) (d : DoorNo) (z : ZoneId) (r : Option ZoneRec) :
    (s.setZone d z r).zone d z = r := by
  simp [State.zone, State.setZone]

theorem State.zone_setZone_ne (s : State) (d : DoorNo) {y z : ZoneId} (r : Option ZoneRec) (h : y ≠ z) :
    (s.setZone d z r).zone d y = s.zone d y := by
  have : (z.idx : Nat) ≠ y.idx := fun e => h (ZoneId.idx_injective (Fin.ext e.symm))
  simp [State.zone, State.setZone, Vector.getElem_set_ne, this]

theorem State.zone_setZone_door (s : State) {d d' : DoorNo} (y z : ZoneId) (r : Option ZoneRec) (h : d' ≠ d) :
    (s.setZone d z r).zone d' y = s.zone d' y := by
  simp only [State.zone, State.setZone, State.zonesOf_setZones_ne _ _ h]

@[simp] theorem State.comm_setComm_same (s : State) (i : SlotNo) (c : Option CommRec) : (s.setComm i c).comm i = c := by
  simp [State.comm, State.setComm]

end Sys2Proof.Machine
end

