-- ==== Sys2Proof/Laws/Ops.lean ====
section
/-! SUPPORT. What each shared operation can do, said once: the transmit queue, events, and the taking of a request. -/

namespace Sys2Proof.Machine

/-! ## The transmit queue (R30, R31) -/

/-- The transmitter takes the oldest telegram when it is free and one waits; otherwise nothing changes. -/
theorem LineLink.pump_cases (l : LineLink) :
    (l.sending = none ∧ ∃ t rest, l.txQueue = t :: rest ∧ l.pump = { l with sending := some t.wire, txQueue := rest })
    ∨ ((l.sending ≠ none ∨ l.txQueue = []) ∧ l.pump = l) := by
  unfold LineLink.pump
  split
  next t rest hs hq => exact .inl ⟨hs, t, rest, hq, rfl⟩
  next h =>
    refine .inr ⟨?_, rfl⟩
    cases hs : l.sending with
    | some b => simp
    | none =>
      cases hq : l.txQueue with
      | nil => simp
      | cons t rest => exact absurd hq (by simpa [hs] using h t rest)

/-- An offered telegram is admitted and pumped, or counted in TX_DROPS, or dropped without trace (R31). -/
theorem LineLink.offer_cases (l : LineLink) (t : Telegram) :
    (l.link = .up ∧ l.txQueue.length < t.cls.places
        ∧ l.offer t = LineLink.pump { l with txQueue := l.txQueue ++ [t] })
    ∨ (l.link = .up ∧ t.cls.places ≤ l.txQueue.length ∧ t.cls ≠ .event
        ∧ l.offer t = { l with txDrops := satInc l.txDrops })
    ∨ ((l.link = .lost ∨ (t.cls.places ≤ l.txQueue.length ∧ t.cls = .event)) ∧ l.offer t = l) := by
  unfold LineLink.offer LineLink.admits
  by_cases hl : l.link = .up
  · by_cases h : l.txQueue.length < t.cls.places
    · exact .inl ⟨hl, h, by simp [hl, h]⟩
    · by_cases hc : t.cls = .event
      · have he : ¬ l.txQueue.length < TxClass.places .event := hc ▸ h
        exact .inr (.inr ⟨.inr ⟨by omega, hc⟩, by simp [hc, he]⟩)
      · exact .inr (.inl ⟨hl, by omega, hc, by simp [hl, h, hc]⟩)
  · have hlost : l.link = .lost := by cases hl' : l.link <;> simp_all
    exact .inr (.inr ⟨.inl hlost, by simp [hlost]⟩)

@[simp] theorem LineLink.pump_link (l : LineLink) : l.pump.link = l.link := by unfold LineLink.pump; split <;> rfl
@[simp] theorem LineLink.pump_waiting (l : LineLink) : l.pump.waiting = l.waiting := by
  unfold LineLink.pump; split <;> rfl
@[simp] theorem LineLink.pump_degraded (l : LineLink) : l.pump.degraded = l.degraded := by
  unfold LineLink.pump; split <;> rfl

@[simp] theorem LineLink.offer_link (l : LineLink) (t : Telegram) : (l.offer t).link = l.link := by
  unfold LineLink.offer; repeat' split
  all_goals simp
@[simp] theorem LineLink.offer_waiting (l : LineLink) (t : Telegram) : (l.offer t).waiting = l.waiting := by
  unfold LineLink.offer; repeat' split
  all_goals simp
@[simp] theorem LineLink.offer_degraded (l : LineLink) (t : Telegram) : (l.offer t).degraded = l.degraded := by
  unfold LineLink.offer; repeat' split
  all_goals simp

/-- An offer changes at most the queue, the transmitter and TX_DROPS. -/
theorem LineLink.offer_frame (l : LineLink) (t : Telegram) :
    l.offer t = { l with txQueue := (l.offer t).txQueue, sending := (l.offer t).sending, txDrops := (l.offer t).txDrops } := by
  unfold LineLink.offer LineLink.pump; repeat' split
  all_goals rfl

/-! ## Events (R206) -/

/-- A masked event does nothing; another is offered, and sets EVENTS_LOST when it is not admitted. -/
theorem State.raise_cases (s : State) (e : EventKind) (n : Nat) (items : List Byte) :
    (s.er.mask[e.idx] = true ∧ s.raise e n items = s)
    ∨ (s.er.mask[e.idx] = false ∧ s.raise e n items = { s with
        lli := s.lli.offer { cls := .event, kind := e.code, payload := enc1 n ++ items }
        er := { s.er with eventsLost := s.er.eventsLost || !s.lli.admits .event } }) := by
  unfold State.raise
  split
  next h => exact .inl ⟨h, rfl⟩
  next h => exact .inr ⟨by simpa using h, rfl⟩

/-- An event changes the Event Reporter in EVENTS_LOST alone. -/
theorem State.raise_er (s : State) (e : EventKind) (n : Nat) (items : List Byte) :
    (s.raise e n items).er = { s.er with eventsLost := (s.raise e n items).er.eventsLost } := by
  rcases s.raise_cases e n items with ⟨-, h⟩ | ⟨-, h⟩ <;> rw [h]

/-! ## Taking a request (R25, R27, R28) -/

/-- A request that does not stand first is not taken; one that stands first is refused by R25, or carried out by its owner,
whose answer is offered last. -/
theorem State.takeRequest_cases (s : State) (k : Kind) (src : Byte) (p : List Byte) (owner : State → State × Answer) :
    (s.nextRequest ≠ some { src := src, kind := k.code, payload := p } ∧ s.takeRequest k src p owner = s)
    ∨ (s.nextRequest = some { src := src, kind := k.code, payload := p } ∧ k.senders.permit src = false
        ∧ s.takeRequest k src p owner = s.popRequest.answer src k.code (.refused .notPermitted 0))
    ∨ (s.nextRequest = some { src := src, kind := k.code, payload := p } ∧ k.senders.permit src = true
        ∧ p.length ≠ payloadSize k p ∧ s.takeRequest k src p owner = s.popRequest.answer src k.code (.range 0))
    ∨ (s.nextRequest = some { src := src, kind := k.code, payload := p } ∧ k.senders.permit src = true
        ∧ p.length = payloadSize k p
        ∧ s.takeRequest k src p owner = (owner s.popRequest).1.answer src k.code (owner s.popRequest).2) := by
  unfold State.takeRequest accessRefusal
  by_cases hn : s.nextRequest = some { src := src, kind := k.code, payload := p }
  · by_cases hp : k.senders.permit src = true
    · by_cases hl : p.length = payloadSize k p
      · simp [hn, hp, hl]
      · simp [hn, hp, hl]
    · simp [hn, hp]
  · simp [hn]

/-! ## Encodings -/

@[simp] theorem enc2_length (n : Nat) : (enc2 n).length = 2 := rfl
@[simp] theorem encWord_length (w : Word16) : (encWord w).length = 2 := rfl

/-- A running timer has a duration. -/
theorem Timer.running_of_ne {t : Timer} (h : t ≠ .stopped) : ∃ ms, t = .running ms := by
  cases t with
  | stopped => exact absurd rfl h
  | running ms => exact ⟨ms, rfl⟩

end Sys2Proof.Machine
end

