-- ==== Sys2Proof/Laws/Doors.lean ====
section
/-! SUPPORT. What a hand-over of a door, an evaluation of the proof condition and a change of a reason set can do, said once
(R116, R119, R196, R198). -/

namespace Sys2Proof.Machine

/-- What the hand-overs of R116 may change: the loops, a berth's state, permit and proof timer, the transmit queue, the change
map and EVENTS_LOST. -/
structure Handed (s t : State) : Prop where
  frame : t = { s with loopFront := t.loopFront, loopRear := t.loopRear, berthA := t.berthA, berthB := t.berthB,
                       lli := t.lli, er := t.er }
  lli : QueueOnly s.lli t.lli
  waiting : t.lli.waiting = s.lli.waiting
  er : MapOnly s.er t.er
  berth : ∀ b : BerthId, t.berth b
    = { s.berth b with state := (t.berth b).state, permit := (t.berth b).permit, proofTimer := (t.berth b).proofTimer }

theorem Handed.refl (s : State) : Handed s s := ⟨rfl, rfl, rfl, rfl, fun _ => rfl⟩

theorem Handed.trans {s t u : State} (h : Handed s t) (k : Handed t u) : Handed s u := by
  refine ⟨?_, ?_, k.waiting.trans h.waiting, ?_, fun b => ?_⟩
  · rw [k.frame, h.frame]
  · rw [QueueOnly, k.lli, h.lli]
  · rw [MapOnly, k.er, h.er]
  · rw [k.berth b, h.berth b]

/-- A hand-over leaves every door record as it was, and the rest of the part beyond `Handed`. -/
theorem Handed.doors {s t : State} (h : Handed s t) : t.doors = s.doors := by rw [h.frame]
theorem Handed.door {s t : State} (h : Handed s t) (d : DoorNo) : t.door d = s.door d := by rw [State.door, h.doors]; rfl
theorem Handed.ts {s t : State} (h : Handed s t) : t.ts = s.ts := by rw [h.frame]
theorem Handed.zones {s t : State} (h : Handed s t) : t.zones = s.zones := by rw [h.frame]
theorem Handed.drm {s t : State} (h : Handed s t) : t.drm = s.drm := by rw [h.frame]
theorem Handed.ou {s t : State} (h : Handed s t) : t.ou = s.ou := by rw [h.frame]
theorem Handed.phase {s t : State} (h : Handed s t) : t.phase = s.phase := by rw [h.frame]
theorem Handed.span {s t : State} (h : Handed s t) (b : BerthId) : (t.berth b).span = (s.berth b).span := by rw [h.berth b]
theorem Handed.platformEnable {s t : State} (h : Handed s t) (b : BerthId) :
    (t.berth b).platformEnable = (s.berth b).platformEnable := by rw [h.berth b]

theorem State.offer_handed (s : State) (t : Telegram) : Handed s (s.offer t) := by
  refine ⟨rfl, ?_, LineLink.offer_waiting _ _, rfl, fun b => by cases b <;> rfl⟩
  show s.lli.offer t = _
  rw [LineLink.offer_frame]
  simp [State.offer]

theorem State.raise_handed (s : State) (e : EventKind) (n : Nat) (items : List Byte) : Handed s (s.raise e n items) := by
  rcases s.raise_cases e n items with ⟨-, h⟩ | ⟨-, h⟩
  · rw [h]; exact .refl s
  · rw [h]
    refine ⟨rfl, ?_, LineLink.offer_waiting _ _, rfl, fun b => by cases b <;> rfl⟩
    show s.lli.offer _ = _
    rw [LineLink.offer_frame]

theorem State.setLoop_handed (s : State) (z : Zone) (v : Bool) : Handed s (s.setLoop z v) := by
  cases z <;> exact ⟨rfl, rfl, rfl, rfl, fun b => by cases b <;> rfl⟩

/-- A berth written in its state, permit and proof timer alone. -/
theorem State.setBerth_handed (s : State) (b : BerthId) (st : BerthState) (p : Permit) (t : ProofTimer) :
    Handed s (s.setBerth b { s.berth b with state := st, permit := p, proofTimer := t }) := by
  cases b <;> exact ⟨rfl, rfl, rfl, rfl, fun c => by cases c <;> rfl⟩

theorem State.reportBerth_handed (s : State) (b : BerthId) (st : BerthState) (c : Option CloseCause) (n : Nat) :
    Handed s (s.reportBerth b st c n) := by
  refine .trans (t := { s with er := s.er.setBerthFlag b true }) ?_ (State.raise_handed _ _ _ _)
  cases b <;> exact ⟨rfl, rfl, rfl, rfl, fun c => by cases c <;> rfl⟩

theorem State.reportDoor_handed (s : State) (d : DoorNo) : Handed s (s.reportDoor d) :=
  .trans (t := { s with er := { s.er with doorFlags := s.er.doorFlags.set d true } })
    ⟨rfl, rfl, rfl, rfl, fun b => by cases b <;> rfl⟩ (State.raise_handed _ _ _ _)

/-- An evaluation gains the proof in PROVING where the condition holds, loses it in PROVEN where it does not, and otherwise
does nothing (R198). -/
theorem State.evaluateProof_cases (s : State) (b : BerthId) :
    ((s.berth b).state = .proving ∧ s.proofCondition b = true ∧ s.evaluateProof b = s.gainProof b)
    ∨ ((s.berth b).state = .proven ∧ s.proofCondition b = false ∧ s.evaluateProof b = s.loseProof b)
    ∨ s.evaluateProof b = s := by
  unfold State.evaluateProof
  split
  next h => exact .inl ⟨h.1, h.2, rfl⟩
  next h =>
    split
    next k => exact .inr (.inl ⟨k.1, k.2, rfl⟩)
    next k => exact .inr (.inr rfl)

theorem State.evaluateProof_handed (s : State) (b : BerthId) : Handed s (s.evaluateProof b) := by
  rcases s.evaluateProof_cases b with ⟨-, -, h⟩ | ⟨-, -, h⟩ | h
  · rw [h]; exact (s.setBerth_handed b _ _ _).trans (State.offer_handed _ _)
  · rw [h]; exact (s.setBerth_handed b _ _ _).trans (State.offer_handed _ _)
  · rw [h]; exact .refl s

theorem State.handProof_handed (s : State) (b : BerthId) : Handed s (s.handProof b) := by
  unfold State.handProof
  simp only
  split
  · exact s.evaluateProof_handed b
  · exact ((s.evaluateProof_handed b).trans (State.reportBerth_handed _ _ _ _ _)).trans (State.offer_handed _ _)

theorem State.handProofOfZone_handed (s : State) (z : Zone) : Handed s (s.handProofOfZone z) := by
  have one : ∀ (s : State) (b : BerthId),
      Handed s (if (((s.berth b).span.map (Span.has · z)).getD false) then s.handProof b else s) := by
    intro s b
    split
    · exact s.handProof_handed b
    · exact .refl s
  exact (one s .A).trans (one _ .B)

theorem State.judgeLoop_handed (s : State) (z : Zone) : Handed s (s.judgeLoop z) := by
  unfold State.judgeLoop
  split
  · exact .refl s
  · exact (s.setLoop_handed z _).trans (State.handProofOfZone_handed _ z)

/-- The hand-over of a changed door changes nothing beyond `Handed` (R116). -/
theorem State.handDoor_handed (s : State) (d : DoorNo) : Handed s (s.handDoor d) :=
  ((s.judgeLoop_handed _).trans (State.handProofOfZone_handed _ _)).trans (State.reportDoor_handed _ d)

/-- An event on a door record leaves what its act leaves, up to one hand-over (R116). -/
theorem State.doorEvent_handed (s : State) (d : DoorNo) (f : State → State) : Handed (f s) (s.doorEvent d f) := by
  unfold State.doorEvent
  split
  · exact .refl _
  · exact State.handDoor_handed _ d

/-- A change of one reason, beyond the hand-over, writes the door's record alone, as `withReasons` says (R119, R120). -/
theorem State.putReason_handed (s : State) (d : DoorNo) (v : Bool) (k : Reason) :
    Handed (s.setDoor d ((s.door d).withReasons (s.limits d) ((s.door d).reasons.put v k))) (s.putReason d v k) :=
  s.doorEvent_handed d fun s => s.setDoor d ((s.door d).withReasons (s.limits d) ((s.door d).reasons.put v k))

theorem State.putReason_door (s : State) (d : DoorNo) (v : Bool) (k : Reason) :
    (s.putReason d v k).door d = (s.door d).withReasons (s.limits d) ((s.door d).reasons.put v k) := by
  rw [(s.putReason_handed d v k).door]
  simp [State.door, State.setDoor]

theorem State.putReason_other (s : State) (d d' : DoorNo) (v : Bool) (k : Reason) (h : d' ≠ d) :
    (s.putReason d v k).door d' = s.door d' := by
  have hv : d.val ≠ d'.val := fun e => h (Fin.ext e.symm)
  rw [(s.putReason_handed d v k).door]
  simp [State.door, State.setDoor, hv]

end Sys2Proof.Machine
end

