-- ==== Sys2Proof/Laws/Telegrams.lean ====
section
/-! SUPPORT. What a command offers, as a list of telegrams: how the link interface follows it, and what each operation that tells
the station adds to it. -/

namespace Sys2Proof.Machine

@[simp] theorem LineLink.offers_nil (l : LineLink) : l.offers [] = l := rfl
@[simp] theorem LineLink.offers_cons (l : LineLink) (t : Telegram) (ts : List Telegram) :
    l.offers (t :: ts) = (l.offer t).offers ts := rfl
theorem LineLink.offers_append (l : LineLink) (ts us : List Telegram) : l.offers (ts ++ us) = (l.offers ts).offers us :=
  List.foldl_append

/-- Offering touches nothing but the queue, the transmitter and TX_DROPS. -/
theorem LineLink.offer_queueOnly (l : LineLink) (t : Telegram) : QueueOnly l (l.offer t) := by
  unfold LineLink.offer LineLink.pump
  split
  · split <;> rfl
  · split <;> rfl
theorem LineLink.offers_queueOnly (l : LineLink) (ts : List Telegram) : QueueOnly l (l.offers ts) := by
  induction ts generalizing l with
  | nil => rfl
  | cons t ts ih =>
    have h := ih (l.offer t)
    have h' := l.offer_queueOnly t
    unfold QueueOnly at *
    rw [LineLink.offers_cons, h, h']

/-- The events a state would offer depend on its mask alone. -/
theorem State.eventOf_congr {s t : State} (h : s.er.mask = t.er.mask) (e : EventKind) (n : Nat) (items : List Byte) :
    s.eventOf e n items = t.eventOf e n items := by
  unfold State.eventOf; rw [h]

theorem State.offer_lli_offers (s : State) (t : Telegram) : (s.offer t).lli = s.lli.offers [t] := rfl
/-- An event handed to the Event Reporter offers its telegram, or none where its kind is masked (R206). -/
theorem State.raise_lli (s : State) (e : EventKind) (n : Nat) (items : List Byte) :
    (s.raise e n items).lli = s.lli.offers (s.eventOf e n items) := by
  unfold State.raise State.eventOf
  split <;> rfl
theorem State.reportDoor_lli (s : State) (d : DoorNo) : (s.reportDoor d).lli = s.lli.offers (s.doorChange d) :=
  State.raise_lli ..
theorem State.reportBerthNow_lli (s : State) (b : BerthId) : (s.reportBerthNow b).lli = s.lli.offers (s.berthChange b) := by
  cases b <;> exact State.raise_lli ..
theorem State.offerBerthStatus_lli (s : State) (b : BerthId) :
    (s.offerBerthStatus b).lli = s.lli.offers [berthStatusReport b (s.berth b)] := rfl

end Sys2Proof.Machine
end

