-- ==== Sys2Proof/WellFormed.lean ====
section
/-! DEFINITION. Which commands the outside world can present: the checks on a command's operands. -/

namespace Sys2Proof

/-- A telegram's payload holds at most 240 bytes (R36). -/
def payloadFits (p : List Byte) : Bool := decide (p.length ≤ 240)

/-- The operands of a command are ones that can occur: a run or a copy holds at least one byte (R23, R90), a payload fits a
telegram (R36), an unknown kind is none of the request kinds (R25), and a cycle close hands each slot on once (R95). -/
def Instr.wf : Instr → Bool
  | .lineRunReceived run => !run.isEmpty
  | .linkTimeout => true
  | .transmitComplete => true
  | .unknownKindRequest _ kind p => payloadFits p && !Machine.isRequestKind kind
  | .arrival _ p => payloadFits p
  | .stopReport _ p => payloadFits p
  | .release _ p => payloadFits p
  | .close _ p => payloadFits p
  | .cancel _ p => payloadFits p
  | .departed _ p => payloadFits p
  | .evacuate _ p => payloadFits p
  | .berthQuery _ p => payloadFits p
  | .alignDetail _ p => payloadFits p
  | .doorQuery _ p => payloadFits p
  | .edgeQuery _ p => payloadFits p
  | .ident _ p => payloadFits p
  | .tableWrite _ p => payloadFits p
  | .tableRead _ p => payloadFits p
  | .profileBegin _ p => payloadFits p
  | .profileCar _ p => payloadFits p
  | .profileDelete _ p => payloadFits p
  | .storeSave _ p => payloadFits p
  | .storeSaveComplete _ => true
  | .storeSaveTimeout => true
  | .modeEnter _ p => payloadFits p
  | .modeExit _ p => payloadFits p
  | .doorCommand _ p => payloadFits p
  | .resetLatch _ p => payloadFits p
  | .ringTestStart _ p => payloadFits p
  | .ringTestStop _ p => payloadFits p
  | .ringTestInsert _ p => payloadFits p
  | .ringTestResult _ p => payloadFits p
  | .eventAck _ p => payloadFits p
  | .eventMask _ p => payloadFits p
  | .changeMap _ p => payloadFits p
  | .snapshot _ p => payloadFits p
  | .counterRead _ p => payloadFits p
  | .partReset _ p => payloadFits p
  | .powerOn => true
  | .supplyDip => true
  | .resetLineAsserted => true
  | .resetLineReleased => true
  | .startingEnd => true
  | .fireChange _ => true
  | .ringCopyReceived _ copy => !copy.isEmpty
  | .cycleClose order => decide order.Nodup
  | .motionTimeout _ => true
  | .lockProofTimeout _ => true
  | .recloseTimeout _ => true
  | .proofTimeout _ => true
  | .autoSnapshotTimeout => true
  | .supplyFall => true

end Sys2Proof
end

