-- ==== Sys2Proof/Tests/Slice0.lean ====
section
/-! SUPPORT. Tests on small states, their expected values taken from the manual, and a witness for the hypotheses of each
statement, clause by clause. Every test is one step. -/

namespace Sys2Proof.Tests
-- One theorem at a time: each evaluates a whole state.
set_option Elab.async false
open Sys2Proof.Machine

/-! ## Well-formed commands -/

theorem test_empty_run_refused : (Instr.lineRunReceived []).wf = false := by decide
theorem test_empty_copy_refused : (Instr.ringCopyReceived .A []).wf = false := by decide
theorem test_long_payload_refused : (Instr.ident 0x02 (List.replicate 241 0)).wf = false := by decide +kernel
theorem test_longest_payload_admitted : (Instr.ident 0x02 (List.replicate 240 0)).wf = true := by decide +kernel
theorem test_known_kind_is_not_unknown : (Instr.unknownKindRequest 0x02 0x20 []).wf = false := by decide
theorem test_slot_handed_on_twice_refused : (Instr.cycleClose [7, 7]).wf = false := by decide

/-! ## Checks and test words, from the definitions of their polynomials (R36, R40, R103) -/

/-- The published check value of this CRC-16 over the digits 1 to 9. -/
theorem test_crc16_check_value : crc16 [0x31, 0x32, 0x33, 0x34, 0x35, 0x36, 0x37, 0x38, 0x39] = 0x29B1#16 := by decide +kernel
/-- The published check value of this CRC-8 over the digits 1 to 9. -/
theorem test_crc8_check_value : crc8 [0x31, 0x32, 0x33, 0x34, 0x35, 0x36, 0x37, 0x38, 0x39] = 0xF4#8 := by decide +kernel
/-- The first three words from the register at all ones, by hand from R103. -/
theorem test_first_test_words :
    (genWord (BitVec.allOnes 15)).2 = 0x0002#16 ∧ (genWord (genWord (BitVec.allOnes 15)).1).2 = 0x000C#16
      ∧ (genWord (genWord (genWord (BitVec.allOnes 15)).1).1).2 = 0x0028#16 := by decide +kernel

/-! ## Small states -/

/-- The state after a command; the state before where it has none. -/
def after (c : Instr) (s : State) : State := match exec c s with | .next t => t | _ => s

/-- A running part with its link UP and a telegram being sent, so that what it offers stays in the queue. -/
def up : State :=
  { State.reset with phase := .running, lli := { State.reset.lli with link := .up, degraded := false, sending := some [] } }

/-- The state with one request waiting. -/
def ask (s : State) (k : Kind) (src : Byte) (p : List Byte) : State :=
  { s with lli := { s.lli with waiting := [{ src := src, kind := k.code, payload := p }] } }

/-- The payloads of the telegrams of a kind that wait to be sent. -/
def queued (kind : Byte) (s : State) : List (List Byte) := (s.lli.txQueue.filter fun t => t.kind == kind).map Telegram.payload

/-- The answer to a request, run as the oldest one waiting. -/
def answerTo (s : State) (k : Kind) (src : Byte) (p : List Byte) : List (List Byte) :=
  queued k.code (after (requestCmd k src p) (ask s k src p))

/-- The state after a request that stood first. -/
def run (s : State) (k : Kind) (src : Byte) (p : List Byte) : State := after (requestCmd k src p) (ask s k src p)

def entryAt (centre : Nat) : PdtEntry :=
  { inService := true, zone := .front, centre := centre, width := 2000, driveClass := 0, profile := 0,
    fitted := Vector.replicate 6 true }

def smallTables : Tables :=
  { Tables.empty with
    pdt := (Tables.empty.pdt.set 0 (entryAt 10000)).set 47 (entryAt 20000)
    classes := Tables.empty.classes.set 0 (some { iNom := 50, iHard := 100, k := 10, startBlank := 2 })
    profiles := Tables.empty.profiles.set 0
      (some { n := 8, kOn := 4, kOff := 2, stuckLimit := 100, gapResponse := .holdDeparture, intrusionReport := true })
    stock := Tables.empty.stock.set 0
      { state := .valid, allowance := 0
        cars := [some { length := 25000, side1 := [{ offset := 10000, width := 1400 }, { offset := 20000, width := 1400 }]
                        side2 := [] }] } }

def closedUnit : UnitStatus := { leaf := .closed, lock := true, faultCode := 0, manual := false }

def closedDoor : Door := { Door.resetRec with state := .closed, order := .close, lastStatus := some closedUnit, isoKey := some false }

def live : CommRec := { state := .live, miss := 0, run := 0, held := none }

/-- Two doors, 0 and 47, both CLOSED, in the FRONT platform zone; every other entry out of service. -/
def edge : State :=
  { up with
    ts := { up.ts with tables := smallTables, config := .configured, freeCars := 95, freeDoors := 318 }
    doors := ((Vector.replicate 48 { Door.resetRec with state := .outOfService }).set 0 closedDoor).set 47 closedDoor
    zones := (up.zones.set 0 (Vector.replicate 6 (some .fresh))).set 47 (Vector.replicate 6 (some .fresh))
    drm := { up.drm with comm := (up.drm.comm.set 0 (some live)).set 47 (some live), period := 10 }
    loopFront := true, loopRear := true }

def withDoor0 (r : Door) : State := { edge with doors := edge.doors.set 0 r, loopFront := r.state == .closed }
def withZone0 (z : ZoneId) (r : ZoneRec) (s : State) : State := s.setZone 0 z (some r)
def withList (l : List OverrideKind) (s : State) : State :=
  { s with ou := { s.ou with list := l, fireTaken := decide (OverrideKind.fire ∈ l) } }
def saving (s : State) : State := { s with ts := { s.ts with saveState := .saving, imageState := .invalid } }

def train : Berth :=
  { Berth.vacantRec with state := .announced, span := some .front, trainNumber := some 0x0137
                         consist := [{ profile := 0, orientation := .forward }] }
def stopped (st : BerthState) : Berth :=
  { train with
    state := st, lastReport := some 0, standstill := true, eUsed := some 0, verdict := some .good, nEligible := 2, nAligned := 2
    platformEnable := (train.platformEnable.set 0 true).set 47 true, trainEnable := (train.trainEnable.set 0 true).set 1 true
    permit := if st = .proven then .granted else .withdrawn
    proofTimer := if st = .proving then .running 15000 else .stopped }
def berthed : State := { edge with berthA := stopped .berthed }
def released : State := { edge with berthA := stopped .released }
def proven : State := { edge with berthA := stopped .proven }
def proving : State := { edge with berthA := stopped .proving }
/-- Berth A RELEASED, door 0 OPEN by RELEASE. -/
def doorOpen : Door :=
  { closedDoor with state := .opened, order := .opn, reasons := { Reasons.empty with release := true } }
def openAtA : State := { released with doors := released.doors.set 0 doorOpen, loopFront := false }
def heldDoor : Door := { closedDoor with state := .held, heldCause := some .obstructed, order := .opn }
def faultDoor (c : FaultCause) : Door := { closedDoor with state := .fault, faultCause := some c, order := .stop }
def closingDoor : Door := { closedDoor with state := .closing, motion := .running 5000, lockProof := .running 500 }
def reopeningDoor : Door := { closedDoor with state := .reopening, order := .opn, reclose := .running 2000, reopenCount := 1 }
def occupied : ZoneRec := { window := [true, true, true, true], count := 4, state := .occupied, run := 3, forced := false }
def stuckZone (n : Nat) : ZoneRec :=
  { window := List.replicate n true, count := n, state := .stuck, run := 0, forced := false }

/-- A reply of a door unit found closed and locked, at a slot's address. -/
def closedReply (slot : Byte) : List Byte :=
  let b := [slot, 0x08, 0x05, 0x00, 0x00, 0x00, 0x00]
  b ++ [crc8 b]
/-- A ring copy of the cycle in progress with the replies of slots 0 and 47. -/
def copy (kind cycle : Byte) (slots : List Nat) : List Byte :=
  [kind, cycle] ++ List.replicate 250 0x00
    ++ (List.range 50).flatMap fun i => if i ∈ slots then closedReply (BitVec.ofNat 8 i) else List.replicate 8 0xFF

/-- A running test of slot 0 with one inversion sent, and perhaps a second one asked for since the last test cycle close. -/
def testing (pending : Bool) : RingTest :=
  { status := .run, gen := 1, cyclesDone := 5
    slots := [{ slot := 0, word := some 2, errors := 0, inserted := if pending then 2 else 1, reached := 1, pending := pending
                verdict := none }] }
def inTest (pending : Bool) : State :=
  let s := withList [.maint, .test] edge
  { s with drm := { s.drm with test := testing pending } }

/-! ## The line link -/

/-- A run that does not start with the sync bytes counts in LENGTH_ERRORS (R23, check 1). -/
theorem test_run_without_sync : (after (.lineRunReceived [0xC3]) up).lli.lengthErrors = 1 := by decide +kernel
/-- One flipped bit of the check counts in CRC_ERRORS (R23, check 5). -/
theorem test_run_with_bad_check :
    (after (.lineRunReceived ((telegramOf 0x01 0x02 0x0C []).set 7 0xFF)) up).lli.crcErrors = 1 := by decide +kernel
theorem test_link_timeout_loses_link : (after .linkTimeout { up with lli := { up.lli with linkTimer := .running 300 } }).lli.link
    = .lost := by decide +kernel
theorem test_transmit_complete_frees : (after .transmitComplete up).lli.sending = none := by decide +kernel
/-- Kind 0x21 is not one of the REQUEST codes (R38): UNKNOWN_KIND is 0x0D (R37). -/
theorem test_unknown_kind_answer :
    queued 0x21 (after (.unknownKindRequest 0x02 0x21 [])
      { up with lli := { up.lli with waiting := [{ src := 0x02, kind := 0x21, payload := [] }] } })
      = [[0x21, 0x02, 0x01, 0x0D, 0x00]] := by decide +kernel
/-- IDENT is 0x0C, and SIGNALLING may send it; vendor, part 6240 and revision as R214 gives them, framed by R36. -/
theorem test_ident_frame :
    (after (.ident 0x01 []) (ask { up with lli := { up.lli with sending := none } } .ident 0x01 [])).lli.sending
      = some (telegramOf 0x02 0x03 0x0C [0x0C, 0x01, 0x00, 0x00, 0x00, 0x45, 0x46, 0x18, 0x60, 0x01, 0x00]) := by
  decide +kernel
/-- SIGNALLING may not send TABLE_READ (R26): NOT_PERMITTED is 0x03. -/
theorem test_signalling_may_not_read_tables :
    answerTo up .tableRead 0x01 [0x03, 0x00, 0x00] = [[0x0E, 0x01, 0x01, 0x03, 0x00]] := by decide +kernel

/-! ## Berths -/

/-- Berth A, span FULL, train 0x0137, one unit of profile 0 forward (R46). -/
def arrivalFull : List Byte := [0x00, 0x02, 0x01, 0x37, 0x01, 0x00, 0x00]

theorem test_arrival_announces : (run edge .arrival 0x01 arrivalFull).berthA.trainNumber = some 311 := by decide +kernel
/-- FULL overlaps a REAR span at the other berth (R43, R46, check 8): OVERLAP is 0x06. -/
theorem test_arrival_overlap :
    answerTo { edge with berthB := { train with span := some .rear } } .arrival 0x01 arrivalFull
      = [[0x01, 0x01, 0x01, 0x06, 0x00]] := by decide +kernel
/-- A train that stops at its mark stands with both doors aligned. -/
theorem test_standstill_aligns :
    (run { edge with berthA := train } .stopReport 0x01 [0x00, 0x00, 0x00, 0x01]).berthA.verdict = some .good := by
  decide +kernel
/-- -32 768 mm saturates to -3 000 mm (R49). -/
theorem test_report_saturates :
    (run { edge with berthA := train } .stopReport 0x01 [0x00, 0x80, 0x00, 0x00]).berthA.lastReport = some (-3000) := by
  decide +kernel
theorem test_release_opens_enabled : ((run berthed .release 0x01 [0x00, 0x00]).door 47).state = .opening := by decide +kernel
/-- A PARTIAL verdict needs the partial flag (R56, check 5): RANGE, field 2. -/
theorem test_release_needs_partial_flag :
    answerTo { edge with berthA := { stopped .berthed with verdict := some .partly } } .release 0x01 [0x00, 0x00]
      = [[0x03, 0x01, 0x01, 0x02, 0x02]] := by decide +kernel
theorem test_close_shuts_open_door : ((run openAtA .close 0x01 [0x00]).door 0).state = .closing := by decide +kernel
theorem test_close_with_all_closed_proves : (run released .close 0x01 [0x00]).berthA.state = .proven := by decide +kernel
theorem test_cancel_vacates : (run berthed .cancel 0x01 [0x00]).berthA.state = .vacant := by decide +kernel
theorem test_cancel_released_refused : answerTo released .cancel 0x01 [0x00] = [[0x05, 0x01, 0x01, 0x01, 0x00]] := by
  decide +kernel
/-- The withdrawal for a departure carries cause DEPARTED and no close cause (R66, R202). -/
theorem test_departed_withdraws :
    queued 0x41 (run proven .departed 0x01 [0x00]) = [[0x00, 0x01, 0x01, 0x37, 0x00, 0x02, 0xFF]] := by decide +kernel
theorem test_departed_needs_proven : answerTo released .departed 0x01 [0x00] = [[0x06, 0x01, 0x01, 0x01, 0x00]] := by
  decide +kernel
/-- A VACANT berth B: no span, train 0, no verdict, no offset, no cause, two empty enable maps (R67). -/
theorem test_berth_query_vacant :
    answerTo up .berthQuery 0x02 [0x01]
      = [[0x08, 0x02, 0x00, 0x00, 0x00, 0x01, 0x00, 0xFF, 0x00, 0x00, 0xFF, 0x80, 0x00, 0x00, 0xFF, 0x00, 0x00]
          ++ List.replicate 18 0x00] := by decide +kernel
theorem test_align_detail_count_zero : answerTo up .alignDetail 0x01 [0x00, 0x00, 0x00] = [[0x09, 0x01, 0x01, 0x02, 0x03]] := by
  decide +kernel
theorem test_proof_timeout_expires : (after (.proofTimeout .A) proving).berthA.proofTimer = .expired := by decide +kernel

/-! ## Overrides -/

theorem test_evacuate_opens_enabled :
    ((run berthed .evacuate 0x01 [0x01]).door 0).reasons.evac = true := by decide +kernel
/-- EVACUATE is a signalling order (R26). -/
theorem test_supervisor_may_not_evacuate : answerTo berthed .evacuate 0x02 [0x01] = [[0x07, 0x02, 0x01, 0x03, 0x00]] := by
  decide +kernel
theorem test_mode_enter_test_needs_maint : answerTo edge .modeEnter 0x02 [0x01] = [[0x13, 0x02, 0x01, 0x01, 0x00]] := by
  decide +kernel
theorem test_mode_enter_pushes : (run edge .modeEnter 0x02 [0x00]).ou.list = [.maint] := by decide +kernel
theorem test_mode_exit_maint_takes_test : (run (inTest false) .modeExit 0x02 [0x00]).ou.list = [] := by decide +kernel
theorem test_mode_exit_aborts_test : (run (inTest false) .modeExit 0x02 [0x01]).drm.test.status = .abort := by decide +kernel
/-- With FIRE_SCOPE ALIGNED_ONLY and no train aligned, FIRE opens nothing (R181). -/
theorem test_fire_aligned_only : ((after (.fireChange true) edge).door 0).state = .closed := by decide +kernel
theorem test_fire_opens_aligned : ((after (.fireChange true) berthed).door 0).state = .opening := by decide +kernel

/-! ## Doors -/

theorem test_door_query_of_48 : answerTo edge .doorQuery 0x01 [0x30] = [[0x0A, 0x01, 0x01, 0x02, 0x01]] := by decide +kernel
/-- An out-of-service entry: a zone it fits is CLEAR, one it does not fit reads not fitted (R139, R153); the berth is absent. -/
theorem test_door_query_zones_out_of_service :
    ((doorQueryData { edge with ts := { edge.ts with tables := { smallTables with
        pdt := smallTables.pdt.set 1 { PdtEntry.empty with fitted := Vector.ofFn fun z => decide (z.val = 5) } } } } 1).reverse.take 7)
      = [0xFF, 0x01, 0x00, 0x00, 0x00, 0x00, 0x00] := by decide +kernel
theorem test_door_command_opens : ((run (withList [.maint] edge) .doorCommand 0x02 [0x2F, 0x00]).door 47).order = .opn := by
  decide +kernel
theorem test_door_command_needs_maint : answerTo edge .doorCommand 0x02 [0x00, 0x00] = [[0x15, 0x02, 0x01, 0x04, 0x00]] := by
  decide +kernel
theorem test_reset_latch_closes_held : ((run (withDoor0 heldDoor) .resetLatch 0x02 [0x00]).door 0).state = .closing := by
  decide +kernel
theorem test_reset_latch_leaves_comm_lost :
    ((run (withDoor0 (faultDoor .commLost)) .resetLatch 0x02 [0x00]).door 0).state = .fault := by decide +kernel
theorem test_motion_timeout_faults : ((after (.motionTimeout 0) (withDoor0 closingDoor)).door 0).faultCause = some .motionTimeout := by
  decide +kernel
theorem test_lock_proof_timeout_faults :
    ((after (.lockProofTimeout 0) (withDoor0 closingDoor)).door 0).faultCause = some .lockNotProven := by decide +kernel
theorem test_reclose_closes : ((after (.recloseTimeout 0) (withDoor0 reopeningDoor)).door 0).state = .closing := by decide +kernel
theorem test_reclose_waits_for_free_doorway :
    ((after (.recloseTimeout 0) (withZone0 .th occupied (withDoor0 reopeningDoor))).door 0).state = .reopening := by decide +kernel

/-! ## The door ring -/

theorem test_ring_copy_taken : (after (.ringCopyReceived .B (copy 0x00 0x00 [0, 47])) edge).drm.copyB.isSome = true := by
  decide +kernel
theorem test_ring_copy_of_old_cycle_discarded :
    (after (.ringCopyReceived .B (copy 0x00 0xFF [0, 47])) edge).drm.copyB = none := by decide +kernel
/-- Slot 0 answers on A alone and slot 47 on B alone: a single break, at the first slot missing on A (R96). -/
theorem test_cycle_close_finds_break :
    (after (.cycleClose []) { edge with drm := { edge.drm with copyA := some (copy 0 0 [0]), copyB := some (copy 0 0 [47]) } }).drm.breakPos
      = some 47 := by decide +kernel
theorem test_cycle_close_holds_missing : ((after (.cycleClose []) edge).comm 0).map CommRec.state = some .holding := by
  decide +kernel
theorem test_ring_test_start : (run (withList [.maint, .test] edge) .ringTestStart 0x02 []).drm.test.slots.map TestSlot.slot
    = [0, 47] := by decide +kernel
theorem test_ring_test_stop_reports :
    queued 0x43 (run (inTest true) .ringTestStop 0x02 []) = [[0x03, 0x05, 0x01, 0x00, 0x00, 0x00, 0x00, 0xFF]] := by decide +kernel
theorem test_ring_test_insert : (run (inTest false) .ringTestInsert 0x02 [0x00]).drm.test.slots.map TestSlot.inserted = [2] := by
  decide +kernel
/-- Status RUN, 5 cycles, one slot, none failed (4 bytes: R107 gives no range, R39), one entry, no more: slot 0, 0 errors, 1 inserted, no verdict (R111). -/
theorem test_ring_test_result :
    answerTo (inTest false) .ringTestResult 0x02 [0x00, 0x28]
      = [[0x1A, 0x02, 0x00, 0x00, 0x00, 0x01, 0x05, 0x01, 0x00, 0x00, 0x00, 0x00, 0x01, 0x00, 0x00, 0x00, 0x01, 0xFF]] := by decide +kernel
/-- An inversion asked for since the last test cycle close is not shown yet: the counts are those reached at it (R111). -/
theorem test_ring_test_result_at_last_close :
    answerTo (inTest true) .ringTestResult 0x02 [0x00, 0x28] = answerTo (inTest false) .ringTestResult 0x02 [0x00, 0x28] := by
  decide +kernel

/-! ## The Table Store -/

theorem test_table_write_class :
    (run (withList [.maint] edge) .tableWrite 0x02 [0x01, 0x03, 40, 90, 7, 1]).ts.tables.classes[3]
      = some { iNom := 40, iHard := 90, k := 7, startBlank := 1 } := by decide +kernel
/-- I_HARD not above I_NOM fails the cross-check of field 4 (R6). -/
theorem test_table_write_class_cross_check :
    answerTo (withList [.maint] edge) .tableWrite 0x02 [0x01, 0x03, 90, 90, 7, 1] = [[0x0D, 0x02, 0x01, 0x02, 0x04]] := by
  decide +kernel
theorem test_table_read_class :
    answerTo edge .tableRead 0x02 [0x01, 0x00, 0x00] = [[0x0E, 0x02, 0x00, 0x00, 0x00, 0x01, 0x00, 0x01, 50, 100, 10, 2]] := by
  decide +kernel
theorem test_profile_begin_takes_cars : (run edge .profileBegin 0x02 [0x0F, 0x0A, 0x00, 0x00]).ts.freeCars = 85 := by
  decide +kernel
/-- One car of 25 m with one door on side 1 completes a profile of one car (R17). -/
def building : State :=
  { edge with ts := { edge.ts with
      freeCars := 94
      tables := { smallTables with stock := smallTables.stock.set 1 { state := .building, cars := [none], allowance := 0 } } } }
def oneCar : List Byte := [0x01, 0x01, 0x61, 0xA8, 0x01, 0x27, 0x10, 0x05, 0x78, 0x00]
theorem test_profile_car_completes : ((run building .profileCar 0x02 oneCar).stock 1).state = .valid := by decide +kernel
theorem test_profile_delete_in_use : answerTo berthed .profileDelete 0x02 [0x00] = [[0x11, 0x02, 0x01, 0x07, 0x00]] := by
  decide +kernel
theorem test_profile_delete_frees : (run edge .profileDelete 0x02 [0x00]).ts.freeDoors = 320 := by decide +kernel
theorem test_store_save_needs_maint : answerTo edge .storeSave 0x02 [] = [[0x12, 0x02, 0x01, 0x04, 0x00]] := by decide +kernel
theorem test_store_save_complete :
    queued 0x12 (after (.storeSaveComplete true) (saving edge)) = [[0x12, 0x02, 0x00, 0x00, 0x00, 0x00]] := by decide +kernel
theorem test_store_save_timeout :
    queued 0x12 (after .storeSaveTimeout (saving edge)) = [[0x12, 0x02, 0x00, 0x00, 0x00, 0x01]] := by decide +kernel

/-! ## Events, counters, resets -/

/-- UNCONFIGURED, STEADY, no override, NORMAL, both loops open, INTACT, no break, EVENTS_LOST, POWER_ON, sequence 0 (R210). -/
theorem test_edge_query :
    answerTo up .edgeQuery 0x01 [] = [[0x0B, 0x01, 0x00, 0x00, 0x00, 0x01, 0x01, 0x00, 0x04, 0x01, 0x01, 0x00, 0xFF, 0x01, 0x00,
      0x00]] := by decide +kernel
theorem test_event_ack_clears_listed :
    (run { edge with er := { edge.er with doorFlags := edge.er.doorFlags.set 47 true } } .eventAck 0x02
      [0x00, 0x01, 0x2F, 0x00]).er.doorFlags[47] = false := by decide +kernel
theorem test_event_ack_bad_berth : answerTo edge .eventAck 0x02 [0x00, 0x00, 0x01, 0x02] = [[0x1B, 0x02, 0x01, 0x02, 0x03]] := by
  decide +kernel
theorem test_event_mask_bit_8_is_kind_68 : (run edge .eventMask 0x02 [0x00, 0x01]).er.mask[8] = true := by decide +kernel
theorem test_change_map :
    answerTo up .changeMap 0x02 [] = [[0x1D, 0x02, 0x00, 0x00, 0x00, 0x00, 0x00, 0x00, 0x00, 0x00, 0x00, 0x00, 0x01]] := by
  decide +kernel
theorem test_snapshot_sequence : answerTo { up with er := { up.er with seq := 0xFF } } .snapshot 0x02 []
    = [[0x1E, 0x02, 0x00, 0x00, 0x00, 0x00]] := by decide +kernel
theorem test_counter_read_last_door :
    answerTo up .counterRead 0x02 [0x2F, 0x0E]
      = [[0x1F, 0x02, 0x00, 0x00, 0x00, 0x00, 0x00, 0x00, 0x00, 0x00, 0x00, 0x00, 0x01, 0x00, 0x2F] ++ List.replicate 14 0x00] := by
  decide +kernel
theorem test_auto_snapshot : (after .autoSnapshotTimeout { up with er := { up.er with autoTimer := .running 60000 } }).er.seq = 1 := by
  decide +kernel
theorem test_part_reset_cause : (run edge .partReset 0x02 []).er.cause = .linkReset := by decide +kernel
theorem test_power_on_starts : (after .powerOn { up with phase := .inReset, supplyOk := false }).phase = .starting := by
  decide +kernel
theorem test_supply_dip_cause : (after .supplyDip up).er.cause = .supplyDip := by decide +kernel
theorem test_reset_line_opens_loops : (after .resetLineAsserted edge).loopRear = false := by decide +kernel
theorem test_reset_line_released_cause :
    (after .resetLineReleased { State.reset with phase := .inReset, resetLine := true }).er.cause = .resetLine := by decide +kernel
theorem test_supply_fall_holds : (after .supplyFall edge).phase = .inReset := by decide +kernel
/-- A part with a blank store starts UNCONFIGURED, with every door OUT_OF_SERVICE (R22, R217). -/
theorem test_starting_end_blank :
    (after .startingEnd State.reset).ts.config = .unconfigured ∧ ((after .startingEnd State.reset).door 47).state = .outOfService := by
  decide +kernel

/-! ## Witnesses: states and operands that meet the hypotheses of the statements -/

/-- A request that is taken where it is asked. -/
abbrev Takes (s : State) (k : Kind) (src : Byte) (p : List Byte) : Prop := Taken (ask s k src p) k src p

theorem witness_ResetKindsReset :
    State.reset.resetLine = false ∧ { State.reset with resetLine := true }.resetLine = true
      ∧ { State.reset with resetLine := true }.supplyOk = true := by decide
theorem witness_PartResetRestarts :
    Takes edge .partReset 0x02 [] ∧ (ask edge .partReset 0x02 []).supplyOk = true
      ∧ (ask edge .partReset 0x02 []).resetLine = false := by decide +kernel

theorem vacantRec_afterReset : Berth.vacantRec.afterReset := by unfold Berth.afterReset; decide +kernel
theorem resetRec_afterReset : Door.resetRec.afterReset := by unfold Door.afterReset; decide
theorem reset_door (d : DoorNo) : State.reset.door d = Door.resetRec := by simp [State.reset, State.door]
/-- The reset record of the Event Reporter is one a reset leaves, whatever the cause. -/
theorem reporter_afterReset : State.reset.er.afterReset := by unfold EventReporter.afterReset; decide +kernel
/-- A part right after reset with an image in its nonvolatile store. -/
def holding (i : Image) : State := { State.reset with ts := { State.reset.ts with image := i } }
theorem holding_afterReset (i : Image) : AfterReset (holding i) (holding i) := by
  refine ⟨vacantRec_afterReset, vacantRec_afterReset, fun d => (reset_door d).symm ▸ resetRec_afterReset, ?_,
    reporter_afterReset, rfl, rfl, fun d => ?_, by
      simp [holding, State.reset, RingMaster.reset, TableStore.reset, State.zone, State.zonesOf, State.comm]
      rintro ⟨⟩ <;> rfl⟩
  · unfold LineLink.afterReset; exact ⟨rfl, rfl, rfl, rfl, rfl, rfl, rfl, rfl, rfl, rfl⟩
  · simp [holding, State.reset, OverrideUnit.reset, State.key]
def goodImage : Image := { validMark := true, contents := smallTables, check := crc16 (Config.imageBytes smallTables) }
theorem witness_StartingEnds_good :
    (holding goodImage).phase = .starting ∧ AfterReset (holding goodImage) (holding goodImage)
      ∧ (holding goodImage).ts.image.good = true := by
  refine ⟨rfl, holding_afterReset _, ?_⟩
  simp only [holding, goodImage, Image.good, beq_self_eq_true, Bool.true_and]
  decide +kernel
theorem witness_StartingEnds_blank :
    State.reset.phase = .starting ∧ AfterReset State.reset State.reset ∧ State.reset.ts.image.good = false :=
  ⟨rfl, holding_afterReset State.reset.ts.image, rfl⟩

/-- Runs of 7 bytes, with a length of 241, and one byte longer than their length says; and one whose check alone is wrong. -/
theorem witness_LineRunDiscarded :
    State.reset.phase ≠ .running ∧ up.phase = .running
      ∧ ([0x3C, 0xC3] : List Byte).take 2 ≠ [0xC3, 0x3C]
      ∧ ([0xC3, 0x3C, 0x01, 0x02, 0x0C, 0x00, 0x00] : List Byte).length < 8
      ∧ 240 < u8 [0xC3, 0x3C, 0x01, 0x02, 0x0C, 0xF1, 0x00, 0x00] 5
      ∧ ([0xC3, 0x3C, 0x01, 0x02, 0x0C, 0x00, 0x00, 0x00, 0x00] : List Byte).length
          ≠ 8 + u8 [0xC3, 0x3C, 0x01, 0x02, 0x0C, 0x00, 0x00, 0x00, 0x00] 5
      ∧ ∃ r : List Byte, r.take 2 = [0xC3, 0x3C] ∧ r.length = 8 + u8 r 5 ∧ u8 r 5 ≤ 240
          ∧ r.drop (6 + u8 r 5) ≠ encWord (crc16 ((r.take (6 + u8 r 5)).drop 2)) := by
  refine ⟨by decide, by decide, by decide, by decide, by decide, by decide,
    [0xC3, 0x3C, 0x01, 0x02, 0x0C, 0x00, 0x00, 0x00], by decide +kernel⟩
theorem witness_ValidTelegramWaits :
    up.phase = .running ∧ up.lli.link = .up ∧ (List.replicate 240 (0 : Byte)).length ≤ 240 := by decide +kernel
/-- A LOST link whose valid-run count is n. -/
def lost (n : Nat) : State := { up with lli := { State.reset.lli with validRun := n, linkTimer := .running 300 } }
theorem witness_LinkRecovers :
    (lost 1).phase = .running ∧ (lost 1).lli.link = .lost ∧ (lost 1).lli.validRun < 2
      ∧ (lost 2).lli.link = .lost ∧ (lost 2).lli.validRun = 2 ∧ (lost 2).lli.txQueue = [] ∧ (lost 2).lli.waiting = [] := by
  decide
theorem witness_LinkTimeoutLosesLink :
    (lost 1).lli.linkTimer ≠ .stopped ∧ (lost 1).lli.link = .lost ∧ up.lli.linkTimer = .stopped
      ∧ { up.lli with linkTimer := .running 300 }.linkTimer ≠ .stopped
      ∧ { up.lli with linkTimer := .running 300 }.link = .up := by decide
theorem witness_TransmitCompleteTakesOldest :
    up.lli.sending ≠ none ∧ up.lli.txQueue = []
      ∧ (run edge .ident 0x02 []).lli.sending ≠ none
      ∧ ∃ t rest, (run edge .ident 0x02 []).lli.txQueue = t :: rest :=
  ⟨by decide, by decide, by decide +kernel, _, _, rfl⟩
/-- 12 telegrams wait: an event is dropped, an answer is not; with none waiting, an event is admitted. -/
def waiting (n : Nat) : LineLink := { up.lli with txQueue := List.replicate n (berthStatusReport .A .vacantRec) }
theorem witness_TransmitCompleteTakesOldest_offers :
    (waiting 11).link = .up ∧ (waiting 11).txQueue.length < 12 ∧ (waiting 11).sending ≠ none
      ∧ ¬ (waiting 12).txQueue.length < 12 ∧ (waiting 12).txQueue.length < 16 ∧ ¬ (waiting 16).txQueue.length < 16
      ∧ (lost 0).lli.link = .lost ∧ { up.lli with sending := none }.sending = none ∧ { up.lli with sending := none }.txQueue = []
      ∧ (berthStatusReport .A .vacantRec).cls ≠ .event ∧ up.er.mask[EventKind.creep.idx] = false
      ∧ { up.er with mask := Vector.replicate 16 true }.mask[EventKind.creep.idx] = true := by decide +kernel
/-- An event that finds 12 telegrams waiting sets EVENTS_LOST, one that finds 11 does not (R31). -/
theorem test_event_dropped_at_12 :
    ({ edge with er := { edge.er with eventsLost := false }, lli := waiting 12 }.raise .creep 0 []).er.eventsLost = true
      ∧ ({ edge with er := { edge.er with eventsLost := false }, lli := waiting 11 }.raise .creep 0 []).er.eventsLost = false := by
  decide +kernel
theorem witness_AccessChecksRefuse :
    Stands { up with lli := { up.lli with waiting := [{ src := 0x02, kind := 0x00, payload := [] }] } } 0x00 0x02 []
      ∧ Stands { up with lli := { up.lli with waiting := [{ src := 0x02, kind := 0x21, payload := [] }] } } 0x21 0x02 []
      ∧ 0x20 < (0x21 : Byte).toNat
      ∧ Stands (ask up .evacuate 0x02 [0x01]) Kind.evacuate.code 0x02 [0x01] ∧ Kind.evacuate.senders.permit 0x02 = false
      ∧ Stands (ask up .ident 0x03 []) Kind.ident.code 0x03 [] ∧ Kind.ident.senders.permit 0x03 = false
      ∧ Stands (ask up .evacuate 0x01 []) Kind.evacuate.code 0x01 [] ∧ Kind.evacuate.senders.permit 0x01 = true
      ∧ ([] : List Byte).length ≠ payloadSize .evacuate [] := by decide +kernel

theorem witness_ArrivalAnnounces :
    Takes edge .arrival 0x01 arrivalFull ∧ arrivalRefusal (ask edge .arrival 0x01 arrivalFull) arrivalFull = none := by
  decide +kernel
theorem witness_BerthOrdersRefused :
    Takes up .arrival 0x01 arrivalFull
      ∧ arrivalRefusal (ask up .arrival 0x01 arrivalFull) arrivalFull = some (.notConfigured, 0)
      ∧ Takes edge .stopReport 0x01 [2, 0, 0, 1]
      ∧ stopReportRefusal (ask edge .stopReport 0x01 [2, 0, 0, 1]) [2, 0, 0, 1] = some (.range, 1)
      ∧ Takes edge .release 0x01 [0, 0]
      ∧ releaseRefusal (ask edge .release 0x01 [0, 0]) [0, 0] = some (.wrongState, 0)
      ∧ Takes berthed .close 0x01 [0] ∧ closeRefusal (ask berthed .close 0x01 [0]) [0] = some (.wrongState, 0) := by
  decide +kernel
/-- PROVEN, but the train has crept off by CREEP_TOL and 1 mm. -/
def crept : State := { edge with berthA := { stopped .proven with lastReport := some 151 } }
theorem witness_BerthOrdersRefused_moved :
    Takes crept .release 0x01 [0, 0] ∧ releaseRefusal (ask crept .release 0x01 [0, 0]) [0, 0] = none
      ∧ ((ask crept .release 0x01 [0, 0]).berth (berthNamed [0, 0])).state = .proven
      ∧ ((ask crept .release 0x01 [0, 0]).berth (berthNamed [0, 0])).movedOff 150 := by
  refine ⟨by decide +kernel, by decide +kernel, by decide +kernel, .inr ?_⟩
  rintro e u ⟨⟩ ⟨⟩
  decide
/-- 150 mm is CREEP_TOL itself: within. -/
def within : List Byte := [0x00, 0x00, 0x96, 0x01]
theorem witness_StopReportStores :
    Takes proving .stopReport 0x01 within ∧ stopReportRefusal (ask proving .stopReport 0x01 within) within = none
      ∧ ((ask proving .stopReport 0x01 within).berth (berthNamed within)).state = .proving
      ∧ Takes released .stopReport 0x01 within ∧ stopReportRefusal (ask released .stopReport 0x01 within) within = none
      ∧ ((ask released .stopReport 0x01 within).berth (berthNamed within)).state = .released ∧ u8 within 3 = 1
      ∧ ((ask released .stopReport 0x01 within).berth (berthNamed within)).eUsed = some 0
      ∧ |reportedOffset within - 0| ≤ ((ask released .stopReport 0x01 within).settings.creepTol : Int)
      ∧ Takes berthed .stopReport 0x01 [0, 0, 0, 0] ∧ stopReportRefusal (ask berthed .stopReport 0x01 [0, 0, 0, 0]) [0, 0, 0, 0] = none
      ∧ ((ask berthed .stopReport 0x01 [0, 0, 0, 0]).berth (berthNamed [0, 0, 0, 0])).state = .berthed
      ∧ u8 [0, 0, 0, 0] 3 = 0 := by decide +kernel
/-- A train at its mark beside a platform with FIRE and EVAC present. -/
def burning : State := withList [.evac, .fire] { edge with berthA := train }
theorem witness_StandstillComputes :
    Takes burning .stopReport 0x01 within ∧ stopReportRefusal (ask burning .stopReport 0x01 within) within = none
      ∧ ((ask burning .stopReport 0x01 within).berth (berthNamed within)).state = .announced ∧ u8 within 3 = 1
      ∧ ((run burning .stopReport 0x01 within).berth (berthNamed within)).platformEnable[0] = true
      ∧ ((run burning .stopReport 0x01 within).berth (berthNamed within)).platformEnable[1] = false
      ∧ ((ask burning .stopReport 0x01 within).door 0).state ≠ .outOfService := by decide +kernel
/-- 151 mm is beyond CREEP_TOL by 1 mm. -/
def beyond : List Byte := [0x00, 0x00, 0x97, 0x01]
theorem witness_ProtectiveClose :
    Takes openAtA .stopReport 0x01 beyond ∧ stopReportRefusal (ask openAtA .stopReport 0x01 beyond) beyond = none
      ∧ ((ask openAtA .stopReport 0x01 beyond).berth (berthNamed beyond)).state = .released
      ∧ u8 beyond 3 = 1 ∧ ((ask openAtA .stopReport 0x01 beyond).berth (berthNamed beyond)).eUsed = some 0
      ∧ ((ask openAtA .stopReport 0x01 beyond).settings.creepTol : Int) < |reportedOffset beyond - 0|
      ∧ Takes openAtA .stopReport 0x01 [0, 0, 0, 0]
      ∧ stopReportRefusal (ask openAtA .stopReport 0x01 [0, 0, 0, 0]) [0, 0, 0, 0] = none
      ∧ ((ask openAtA .stopReport 0x01 [0, 0, 0, 0]).berth (berthNamed [0, 0, 0, 0])).state = .released
      ∧ u8 [0, 0, 0, 0] 3 = 0 ∧ ((ask openAtA .stopReport 0x01 beyond).door 0).state ≠ .outOfService := by decide +kernel
/-- Door 0 lies in the span of berth A; with the entry of door 1 in the REAR platform zone, door 1 does not. -/
theorem witness_InSpan :
    InSpan openAtA .A 0
      ∧ ¬ InSpan { openAtA with ts := { openAtA.ts with tables := { smallTables with
          pdt := smallTables.pdt.set 1 { PdtEntry.empty with zone := .rear } } } } .A 1 := by
  refine ⟨⟨.front, by decide +kernel⟩, ?_⟩
  rintro ⟨sp, ⟨⟩, h⟩
  revert h
  decide +kernel
/-- Door 0 of the span is OPEN on RELEASE alone, and neither FIRE nor EVAC is present. -/
theorem witness_ProtectiveClose_doors :
    (openAtA.door 0).state = .opened ∧ (openAtA.door 0).reasons = { Reasons.empty with release := true }
      ∧ OverrideKind.fire ∉ openAtA.ou.list ∧ OverrideKind.evac ∉ openAtA.ou.list := by decide +kernel
theorem witness_ReleaseOpens :
    Takes proven .release 0x01 [0, 0] ∧ releaseRefusal (ask proven .release 0x01 [0, 0]) [0, 0] = none
      ∧ ¬ ((ask proven .release 0x01 [0, 0]).berth (berthNamed [0, 0])).movedOff 150
      ∧ ((ask proven .release 0x01 [0, 0]).berth (berthNamed [0, 0])).platformEnable[47] = true
      ∧ ((ask proven .release 0x01 [0, 0]).door 47).state = .closed
      ∧ ((ask proven .release 0x01 [0, 0]).door 47).reasons = .empty
      ∧ ((ask proven .release 0x01 [0, 0]).berth (berthNamed [0, 0])).platformEnable[1] = false := by
  refine ⟨by decide +kernel, by decide +kernel, ?_, by decide +kernel⟩
  rintro (h | h)
  · revert h; decide +kernel
  · exact absurd (h 0 0 rfl rfl) (by decide)
theorem witness_CloseShuts :
    Takes openAtA .close 0x01 [0] ∧ closeRefusal (ask openAtA .close 0x01 [0]) [0] = none
      ∧ ((ask openAtA .close 0x01 [0]).door 0).state ≠ .outOfService := by decide +kernel
/-- Door 0 HELD on RELEASE alone, and HELD on KEY. -/
theorem witness_CloseShuts_doors :
    (openAtA.door 0).state = .opened
      ∧ { (openAtA.door 0).reasons with release := false, fire := false, evac := false } = Reasons.empty
      ∧ { heldDoor with reasons := doorOpen.reasons }.state = .held
      ∧ ({ Reasons.empty with key := true } : Reasons) ≠ .empty ∧ doorOpen.state ≠ .held := by decide +kernel
theorem witness_CancelVacates :
    Takes berthed .cancel 0x01 [2] ∧ 1 < u8 [2] 0
      ∧ Takes berthed .cancel 0x01 [0] ∧ ((ask berthed .cancel 0x01 [0]).berth (berthNamed [0])).state = .berthed
      ∧ Takes berthed .cancel 0x01 [1] ∧ ((ask berthed .cancel 0x01 [1]).berth (berthNamed [1])).state = .vacant := by
  decide +kernel
theorem witness_DepartedVacates :
    Takes proven .departed 0x01 [2] ∧ 1 < u8 [2] 0
      ∧ Takes proven .departed 0x01 [0] ∧ ((ask proven .departed 0x01 [0]).berth (berthNamed [0])).state = .proven
      ∧ Takes proven .departed 0x01 [1] ∧ ((ask proven .departed 0x01 [1]).berth (berthNamed [1])).state ≠ .proven := by
  decide +kernel
theorem witness_BerthQueryReads : Takes up .berthQuery 0x01 [2] ∧ Takes up .berthQuery 0x02 [1] := by decide +kernel
theorem witness_ProofTimeoutExpires :
    (proving.berth .A).state = .proving ∧ (proving.berth .A).proofTimer = .running 15000
      ∧ ({ stopped .proving with proofTimer := .expired }).proofTimer = .expired ∧ (proving.berth .B).proofTimer = .stopped := by
  decide +kernel
/-- The proof condition of a train with both its doors CLOSED, every zone CLEAR and the loop of its zone closed. -/
theorem holds_of_clear (s : State) (hs : (s.berth .A).span = some .front) (hl : s.loop .front = true)
    (hz : ∀ d : DoorNo, ∀ z : ZoneId, s.zoneState d z = .clear) : ProofHolds s .A :=
  ⟨⟨.front, hs, fun z => by cases z with | front => exact fun _ => hl | rear => exact fun h => absurd h (by decide)⟩,
    fun d z _ _ _ => hz d z⟩
theorem edge_zones_clear : ∀ d : DoorNo, ∀ z : ZoneId, edge.zoneState d z = .clear := by
  intro d z
  revert d
  cases z <;> decide +kernel
theorem witness_ProofTimeoutExpires_gains : (proving.berth .A).state = .proving ∧ ProofHolds proving .A :=
  ⟨by decide, holds_of_clear proving rfl rfl edge_zones_clear⟩
/-- PROVEN with the loop of its zone open, and PROVEN with gap zone G1 of an in-service door OCCUPIED. -/
theorem witness_ProofTimeoutExpires_loses :
    ({ proven with loopFront := false }.berth .A).state = .proven ∧ ¬ ProofHolds { proven with loopFront := false } .A
      ∧ ¬ ProofHolds (withZone0 .g1 occupied proven) .A := by
  refine ⟨by decide, ?_, ?_⟩
  · rintro ⟨⟨sp, ⟨⟩, h⟩, _⟩
    exact absurd (h .front (by decide)) (by decide)
  · rintro ⟨_, h⟩
    exact absurd (h 0 .g1 ⟨.front, by decide +kernel⟩ (by decide +kernel) (by decide)) (by decide +kernel)
/-- An OCCUPIED gap zone withdraws the permit of a PROVEN berth, and starts its proof timer (R200). -/
theorem test_gap_withdraws_permit :
    ((withZone0 .g1 occupied proven).handProof .A).berthA.permit = .withdrawn
      ∧ ((withZone0 .g1 occupied proven).handProof .A).berthA.proofTimer = .running 15000 := by decide +kernel
/-- A CLOSED leaf that ends the closing of the last door of a span proves its berth (R196, R199). -/
theorem test_last_door_proves :
    ((({ withDoor0 closingDoor with berthA := stopped .proving }).applyStatus 0 closedUnit false).berthA).permit = .granted := by
  decide +kernel
theorem witness_AlignmentSound :
    (berthed.computed .A).matchList.map MatchRec.p = [0, 47] ∧ (berthed.berth .A).saturated = false
      ∧ { stopped .berthed with saturated := true }.saturated = true := by
  decide +kernel
/-- Door 0 claims train door 0 of a train standing at its mark: 2 000 mm and 1 400 mm openings with one centre, so 1 400 mm. -/
theorem witness_AlignmentSound_claim :
    ∃ x : TrainDoor, (berthed.trainDoors .A)[0]? = some x ∧ x.eligible = true ∧ pairOverlap (berthed.pdt 0) x = 1400
      ∧ InSpan berthed .A 0 := by
  refine ⟨(berthed.trainDoors .A)[0]'(by decide +kernel), by decide +kernel, by decide +kernel, by decide +kernel, .front, ?_⟩
  decide +kernel
theorem witness_TrainDoorsLaidOut : (berthed.berth .A).span = some .front ∧ (berthed.berth .A).eUsed = some 0 := by decide
theorem witness_IndexedReads :
    Takes up .alignDetail 0x01 [2, 0, 1] ∧ Takes up .alignDetail 0x01 [1, 48, 1] ∧ Takes up .alignDetail 0x01 [1, 47, 25]
      ∧ Takes up .alignDetail 0x01 [1, 47, 24] ∧ Takes up .ringTestResult 0x02 [50, 1] ∧ Takes up .ringTestResult 0x02 [49, 41]
      ∧ Takes up .ringTestResult 0x02 [49, 40] ∧ Takes up .counterRead 0x02 [48, 1] ∧ Takes up .counterRead 0x02 [47, 15]
      ∧ Takes up .counterRead 0x02 [47, 14] := by decide +kernel

theorem witness_RingCopyTaken :
    edge.phase = .running ∧ (copy 0 0 [0]).length = 652 ∧ (copy 0 0 [0]).take 2 = [edge.drm.kind.code, edge.drm.cycleNo]
      ∧ edge.drm.copyA = none ∧ edge.drm.copyB = none
      ∧ { edge.drm with copyA := some [], copyB := some [] }.copyA ≠ none
      ∧ { edge.drm with copyA := some [], copyB := some [] }.copyB ≠ none
      ∧ (copy 0 1 []).take 2 ≠ [edge.drm.kind.code, edge.drm.cycleNo] := by decide +kernel
/-- A part with its FRONT panel fitted. -/
def panelled (n : Panel) : State := edge.setPanel .front (some n)
theorem witness_CycleCloseMovesComm :
    edge.phase = .running ∧ edge.configured 0 = true ∧ edge.configured 49 = false ∧ (edge.pdt 47).inService = true
      ∧ (edge.pdt 1).inService = false ∧ edge.panel .rear = none ∧ (panelled .fresh).panel .front ≠ none := by
  decide +kernel
/-- A cycle whose copies bring the replies of slots 0, 47 and of both panels. -/
def replied (s : State) : State := { s with drm := { s.drm with copyA := some (copy 0 0 [0, 47, 48, 49]) } }
/-- Slot 0 is LOST, two replies into its recovery or fewer. -/
def recovering (run : Nat) : State := edge.setComm 0 (some { state := .lost, miss := 4, run := run, held := none })
theorem quiet_edge (z : Zone) : QuietPanel (replied edge) z := by
  intro n y hn
  have h : (replied edge).panel z = none := by cases z <;> rfl
  exact absurd (h ▸ hn) nofun
theorem witness_CycleCloseMovesComm_handed :
    (∀ z : Zone, QuietPanel (replied edge) z)
      ∧ ((replied edge).heard (slotOfDoor 0)).isSome = true ∧ ((replied edge).commOf (slotOfDoor 0)).state ≠ .lost
      ∧ ((replied (recovering 2)).heard (slotOfDoor 0)).isSome = true
      ∧ ((recovering 2).commOf (slotOfDoor 0)).state = .lost ∧ ((recovering 2).commOf (slotOfDoor 0)).run + 1 = 3
      ∧ (edge.pdt 1).inService = false
      ∧ (({ edge with drm := { edge.drm with copyA := some (copy 0 0 [1]) } }).heard (slotOfDoor 1)).isSome = true := by
  refine ⟨quiet_edge, ?_⟩
  decide +kernel
theorem witness_CycleCloseMovesComm_nothing :
    HandsNothing edge (slotOfDoor 0) ∧ HandsNothing (recovering 2) (slotOfDoor 0)
      ∧ HandsNothing (replied (recovering 1)) (slotOfDoor 0) ∧ HandsNothing edge (slotOfDoor 1) := by
  have live : edge.commOf (slotOfDoor 0) = live ∧ edge.heard (slotOfDoor 0) = none ∧ edge.configured (slotOfDoor 0) = true := by
    decide +kernel
  have two : ((recovering 2).commOf (slotOfDoor 0)).state = .lost ∧ (recovering 2).heard (slotOfDoor 0) = none
      ∧ (recovering 2).configured (slotOfDoor 0) = true := by decide +kernel
  have one : ((replied (recovering 1)).commOf (slotOfDoor 0)).state = .lost ∧ ((replied (recovering 1)).commOf (slotOfDoor 0)).run = 1
      ∧ (replied (recovering 1)).configured (slotOfDoor 0) = true := by decide +kernel
  obtain ⟨y, hy⟩ := Option.isSome_iff_exists.1 (show ((replied (recovering 1)).heard (slotOfDoor 0)).isSome = true by decide +kernel)
  refine ⟨?_, ?_, ?_, ?_⟩
  · simp only [HandsNothing, live, if_true, Tests.live]; decide
  · simp only [HandsNothing, two, if_true]
  · simp only [HandsNothing, one, hy, if_true]; decide
  · rw [HandsNothing, if_neg (by decide +kernel)]; decide +kernel
/-- The FRONT panel fitted, seen and heard, its CLOSE pressed with the key on; and the same panel when its slot misses a reply. -/
def fitted : State :=
  { panelled { Panel.fresh with seen := true } with
    ts := { edge.ts with tables := { smallTables with settings := { smallTables.settings with panelsFitted := .front } } } }
theorem witness_CycleCloseMovesComm_panel :
    fitted.settings.panelsFitted.fits .front = true ∧ fitted.panel .front ≠ none
      ∧ ((replied fitted).heard (slotOfPanel .front)).isSome = true ∧ ((replied fitted).commOf (slotOfPanel .front)).state ≠ .lost
      ∧ fitted.heard (slotOfPanel .front) = none ∧ (fitted.commOf (slotOfPanel .front)).state ≠ .lost := by decide +kernel
theorem witness_CycleCloseMovesComm_panel_comm :
    HandsNothing fitted (slotOfPanel .front)
      ∧ ¬ HandsNothing (fitted.setComm (slotOfPanel .front) (some { state := .holding, miss := 3, run := 0, held := none }))
          (slotOfPanel .front) := by
  have fresh : (fitted.commOf (slotOfPanel .front)).state = .noReply ∧ (fitted.commOf (slotOfPanel .front)).miss = 0
      ∧ fitted.heard (slotOfPanel .front) = none ∧ fitted.configured (slotOfPanel .front) = true := by decide +kernel
  let late := fitted.setComm (slotOfPanel .front) (some { state := .holding, miss := 3, run := 0, held := none })
  have missed : (late.commOf (slotOfPanel .front)).state = .holding ∧ (late.commOf (slotOfPanel .front)).miss = 3
      ∧ late.heard (slotOfPanel .front) = none ∧ late.configured (slotOfPanel .front) = true := by decide +kernel
  constructor
  · simp only [HandsNothing, fresh]; decide
  · change ¬ HandsNothing late _
    simp only [HandsNothing, missed]; decide
/-- The reply of a LIVE slot reaches its door, its zones and its key: door 0 was seen locked, and its unit now shows a fault. -/
theorem test_cycle_close_hands_on :
    ((after (.cycleClose []) (replied (withDoor0 { closedDoor with lastStatus := none }))).door 0).lastStatus = some closedUnit
      ∧ (after (.cycleClose []) (replied edge)).key 0 = .off
      ∧ ((after (.cycleClose []) (replied edge)).zone 0 .ed).map ZoneRec.window = some [false] := by decide +kernel
/-- The copies of one cycle: slot 0 answers on A alone, slot 47 on both. -/
def broken : State := { edge with drm := { edge.drm with copyA := some (copy 0 0 [0, 47]), copyB := some (copy 0 0 [47]) } }
def whole : State := { edge with drm := { edge.drm with copyA := some (copy 0 0 [0, 47]), copyB := some (copy 0 0 [0, 47]) } }
theorem witness_RingStateJudged :
    (∀ i : SlotNo, whole.configured i = true → whole.replyA i ≠ none ∧ whole.replyB i ≠ none)
      ∧ broken.configured 0 = true ∧ broken.replyA 0 ≠ none ∧ broken.replyB 0 = none
      ∧ (∀ i : SlotNo, broken.configured i = true → broken.replyA i ≠ none)
      ∧ edge.configured 0 = true ∧ edge.replyA 0 = none ∧ edge.replyB 0 = none
      ∧ ∀ i : SlotNo, edge.configured i = true → edge.replyA i = none ∧ edge.replyB i = none := by decide +kernel
/-- Slot 0 has missed HOLD_CYCLES replies, in HOLDING or still in NO_REPLY. -/
def missing (c : CommState) : CommRec := { state := c, miss := 3, run := 0, held := none }
def losing (c : CommState) : State := edge.setComm 0 (some (missing c))
theorem witness_CommLossFaultsDoor :
    (losing .holding).phase = .running ∧ ((losing .holding).pdt 0).inService = true
      ∧ (losing .holding).comm (slotOfDoor 0) = some (missing .holding)
      ∧ (losing .noReply).comm (slotOfDoor 0) = some (missing .noReply)
      ∧ (losing .holding).settings.holdCycles < min 255 ((missing .holding).miss + 1)
      ∧ (losing .holding).replyA (slotOfDoor 0) = none ∧ (losing .holding).replyB (slotOfDoor 0) = none
      ∧ ((losing .holding).door 0).state ≠ .outOfService ∧ ((losing .holding).door 0).isoKey ≠ some true
      ∧ (losing .holding).zone 0 .ed = some .fresh := by decide +kernel
theorem witness_RingTestRequests :
    Takes edge .ringTestStart 0x02 [] ∧ edge.ou.list.getLast? ≠ some .test
      ∧ Takes (withList [.maint, .test] edge) .ringTestStart 0x02 []
      ∧ (ask (withList [.maint, .test] edge) .ringTestStart 0x02 []).ou.list.getLast? = some .test
      ∧ (ask (withList [.maint, .test] edge) .ringTestStart 0x02 []).drm.test.status ≠ .run
      ∧ Takes edge .ringTestStop 0x02 [] ∧ edge.drm.test.status ≠ .run
      ∧ Takes (inTest true) .ringTestStop 0x02 [] ∧ (inTest true).drm.test.status = .run
      ∧ Takes edge .ringTestInsert 0x02 [48] ∧ Takes edge .ringTestInsert 0x02 [47]
      ∧ Takes (inTest false) .ringTestInsert 0x02 [47] ∧ (∀ x ∈ (inTest false).drm.test.slots, x.slot.val ≠ 47)
      ∧ Takes (inTest false) .ringTestInsert 0x02 [0] ∧ (∃ x ∈ (inTest false).drm.test.slots, x.slot.val = 0) := by
  decide +kernel

/-- The close of a test cycle, the fifth and the last, of a test with an inversion pending. -/
def judging (done : Nat) : State :=
  let s := inTest true
  { s with drm := { s.drm with judged := true, kind := .test, test := { testing true with cyclesDone := done } } }
theorem witness_RingTestRequests_close :
    (judging 5).phase = .running ∧ (judging 5).drm.test.status = .run ∧ (judging 5).drm.judged = true
      ∧ (judging 5).drm.test.cyclesDone + 1 ≠ 128 ∧ (judging 127).drm.test.cyclesDone + 1 = 128
      ∧ (inTest true).drm.test.status = .run ∧ (inTest true).drm.judged = false ∧ edge.drm.test.status ≠ .run
      ∧ ((judging 5).drm.test.slots.map TestSlot.slot).Nodup ∧ ∀ x ∈ (judging 5).drm.test.slots, x.slot ≠ 1 := by decide +kernel
/-- At the last close, slot 0 does not answer: one error, so it passes; the inversion that was not sent is taken back. -/
theorem test_ring_test_ends :
    (after (.cycleClose []) (judging 127)).drm.test.slots.map (fun x => (x.errors, x.inserted, x.verdict)) = [(1, 1, some true)] := by
  decide +kernel

theorem witness_DoorCommandActs :
    Takes edge .doorCommand 0x02 [48, 0] ∧ doorCommandRefusal (ask edge .doorCommand 0x02 [48, 0]) [48, 0] = some (.range, 1)
      ∧ Takes (withList [.maint] edge) .doorCommand 0x02 [47, 0]
      ∧ doorCommandRefusal (ask (withList [.maint] edge) .doorCommand 0x02 [47, 0]) [47, 0] = none
      ∧ (edge.door 47).reasons = .empty ∧ (edge.door 47).state = .closed
      ∧ doorCommandRefusal (ask (withList [.maint] (withDoor0 heldDoor)) .doorCommand 0x02 [0, 1]) [0, 1] = none
      ∧ Takes (withList [.maint] (withDoor0 heldDoor)) .doorCommand 0x02 [0, 1]
      ∧ doorCommandRefusal (ask (withList [.maint] (withDoor0 (faultDoor .unitFault))) .doorCommand 0x02 [0, 0]) [0, 0] = none
      ∧ Takes (withList [.maint] (withDoor0 (faultDoor .unitFault))) .doorCommand 0x02 [0, 0] := by decide +kernel
/-- Door 0 OPEN on MAINT alone, OPEN on MAINT and KEY, and HELD with KEY left. -/
theorem witness_DoorCommandActs_close :
    let r : Door := { doorOpen with reasons := { Reasons.empty with maint := true } }
    Takes (withList [.maint] (withDoor0 r)) .doorCommand 0x02 [0, 1]
      ∧ doorCommandRefusal (ask (withList [.maint] (withDoor0 r)) .doorCommand 0x02 [0, 1]) [0, 1] = none
      ∧ r.state = .opened ∧ { r.reasons with maint := false } = Reasons.empty ∧ r.reasons ≠ .empty
      ∧ ({ Reasons.empty with key := true } : Reasons) ≠ .empty ∧ heldDoor.state = .held ∧ r.state ≠ .held := by decide +kernel
theorem witness_ResetLatchActs :
    Takes edge .resetLatch 0x02 [48] ∧ Takes (withDoor0 heldDoor) .resetLatch 0x02 [0]
      ∧ heldDoor.state = .held ∧ heldDoor.reasons = .empty
      ∧ { heldDoor with reasons := { Reasons.empty with fire := true } }.reasons ≠ .empty
      ∧ Takes (withDoor0 (faultDoor .commLost)) .resetLatch 0x02 [0]
      ∧ (faultDoor .commLost).faultCause = some .commLost
      ∧ Takes (withDoor0 (faultDoor .lockLost)) .resetLatch 0x02 [0] ∧ (faultDoor .lockLost).state = .fault
      ∧ (faultDoor .lockLost).faultCause ≠ some .commLost ∧ (faultDoor .lockLost).returning = false
      ∧ (faultDoor .lockLost).lastStatus = some closedUnit ∧ (faultDoor .lockLost).isoKey ≠ some true
      ∧ ((withDoor0 (faultDoor .lockLost)).pdt 0).inService = true
      ∧ { faultDoor .lockLost with lastStatus := none }.lastStatus = none
      ∧ ¬ ({ faultDoor .lockLost with isoKey := some true }.isoKey ≠ some true ∧ (edge.pdt 0).inService = true) := by
  decide +kernel
/-- Units found in each way that R117 tells apart. -/
theorem witness_Readopted :
    { closedUnit with faultCode := 1 }.faultCode ≠ 0 ∧ { closedUnit with manual := true }.manual = true
      ∧ closedUnit.faultCode = 0 ∧ closedUnit.manual = false ∧ closedUnit.leaf = .closed ∧ closedUnit.lock = true
      ∧ { closedUnit with lock := false }.lock = false ∧ closedDoor.reasons = .empty ∧ doorOpen.reasons ≠ .empty := by decide
/-- A STUCK zone with a count of K_OFF, and one with a count one above it. -/
theorem witness_ResetLatchActs_stuck :
    Takes (withZone0 .g4 (stuckZone 2) edge) .resetLatch 0x02 [0]
      ∧ ((withZone0 .g4 (stuckZone 2) edge).door 0).state ≠ .fault
      ∧ ((withZone0 .g4 (stuckZone 2) edge).zone 0 .g3).map ZoneRec.state ≠ some .stuck
      ∧ (withZone0 .g4 (stuckZone 2) edge).zone 0 .g4 = some (stuckZone 2)
      ∧ (stuckZone 2).state = .stuck ∧ (stuckZone 3).state = .stuck
      ∧ ((withZone0 .g4 (stuckZone 2) edge).sensing 0).map SensingProfile.kOff = some 2 := by decide +kernel
theorem witness_DoorQueryReads : Takes edge .doorQuery 0x01 [48] ∧ Takes edge .doorQuery 0x02 [47] := by decide +kernel
theorem witness_DoorTimersExpire :
    ((withDoor0 closingDoor).door 0).motion ≠ .stopped ∧ ((withDoor0 closingDoor).door 0).lockProof ≠ .stopped
      ∧ ((withDoor0 reopeningDoor).door 0).reclose ≠ .stopped ∧ FreeDoorway (withDoor0 reopeningDoor) 0
      ∧ ¬ FreeDoorway (withZone0 .th occupied (withDoor0 reopeningDoor)) 0 := by
  refine ⟨by decide +kernel, by decide +kernel, by decide +kernel, ⟨by decide +kernel, by decide +kernel, ?_⟩, ?_⟩
  · exact fun h => absurd h (by decide +kernel)
  · exact fun h => absurd h.1 (by decide +kernel)
theorem witness_DoorTimersExpire_told : closingDoor.state ≠ .fault ∧ reopeningDoor.state ≠ .closing := by decide
theorem witness_ReasonsDriveDoor :
    { closedDoor with state := .outOfService }.state = .outOfService ∧ (edge.door 0).reasons = .empty
      ∧ (edge.door 0).state = .closed ∧ reopeningDoor.reasons = .empty ∧ reopeningDoor.state = .reopening
      ∧ (faultDoor .lockLost).reasons = .empty ∧ (faultDoor .lockLost).state = .fault
      ∧ doorOpen.reasons ≠ .empty ∧ doorOpen.reasons.put false .release = .empty ∧ doorOpen.state = .opened
      ∧ { heldDoor with reasons := doorOpen.reasons }.state = .held
      ∧ doorOpen.reasons.put true .key ≠ .empty := by decide +kernel
/-- A closed door, and what its unit can show. -/
theorem witness_ClosedDoorStatus :
    (edge.door 0).state = .closed ∧ ((edge.door 0).lastStatus.map UnitStatus.manual).getD false = false
      ∧ { closedUnit with faultCode := 1 }.faultCode ≠ 0 ∧ { closedUnit with manual := true }.manual = true
      ∧ closedUnit.faultCode = 0 ∧ closedUnit.manual = false ∧ closedUnit.leaf = .closed ∧ closedUnit.lock = true
      ∧ { closedUnit with lock := false }.lock = false := by decide +kernel
/-- Door 0 in the enable set of berth A with a match record that names train door 0, and its key on and granted. -/
def matched : State :=
  { (berthed.setBerth .A { stopped .berthed with matchList := [{ p := 0, t := 0, overlap := 1400, residual := 0 }] }) with
    ou := { edge.ou with keys := edge.ou.keys.set 0 .onGranted } }
theorem witness_ClosedDoorStatus_leaves :
    (matched.door 0).state ≠ .outOfService ∧ (matched.berth .A).platformEnable[0] = true
      ∧ (matched.berth .B).platformEnable[0] = false ∧ (matched.pdt 0).inService = true ∧ matched.key 0 = .onGranted
      ∧ (∃ m ∈ (matched.berth .A).matchList, m.p = 0 ∧ m.t = 0) := by decide +kernel
/-- The isolation key of door 0 takes it out of both enable sets, clears its zones and keeps its staff key (R84, R164, R186). -/
theorem test_isolation_leaves_service :
    (matched.applyStatus 0 closedUnit true).berthA.platformEnable[0] = false
      ∧ (matched.applyStatus 0 closedUnit true).berthA.trainEnable[0] = false
      ∧ (matched.applyStatus 0 closedUnit true).berthA.matchList = [] ∧ (matched.applyStatus 0 closedUnit true).key 0 = .onNotGranted := by
  decide +kernel
/-- Doors in the other states, with the limit of reopens at 3. -/
theorem witness_ClosedDoorStatus_states :
    { doorOpen with state := .opening, motion := .running 4000 }.state = .opening ∧ { closedUnit with leaf := .opened }.leaf = .opened
      ∧ closedUnit.leaf ≠ .opened ∧ { closingDoor with lockProof := .stopped }.lockProof = .stopped
      ∧ closingDoor.state = .closing ∧ closingDoor.lockProof ≠ .stopped
      ∧ { reopeningDoor with reclose := .stopped }.reclose = .stopped ∧ reopeningDoor.state = .reopening
      ∧ doorOpen.state = .opened ∧ heldDoor.state = .held ∧ (faultDoor .unitFault).state = .fault
      ∧ (edge.door 1).state = .outOfService ∧ (edge.pdt 1).inService = false
      ∧ closingDoor.reopenCount < edge.settings.reopenLimit ∧ edge.settings.reopenLimit ≤ { closingDoor with reopenCount := 3 }.reopenCount := by
  decide +kernel
/-- A door released by hand whose release was last seen on, without and with a reason. -/
def manualDoor (r : Reasons) : Door :=
  { closedDoor with state := .releasedManual, order := .none, reasons := r, lastStatus := some { closedUnit with manual := true } }
theorem witness_ClosedDoorStatus_manual :
    (manualDoor .empty).state = .releasedManual ∧ ((manualDoor .empty).lastStatus.map UnitStatus.manual).getD false = true
      ∧ (manualDoor .empty).reasons = .empty ∧ (manualDoor doorOpen.reasons).reasons ≠ .empty
      ∧ (({ manualDoor .empty with lastStatus := some closedUnit }).lastStatus.map UnitStatus.manual).getD false = false := by decide
/-- A door that a PDT write has returned to service, one isolated until now, and FIRE present with ALL_IN_SERVICE. -/
def returned : Door := { Door.resetRec with returning := true }
def fireAll : State :=
  let s := withList [.fire] (withDoor0 returned)
  { s with ts := { s.ts with tables := { s.ts.tables with settings := { s.settings with fireScope := .allInService } } } }
theorem witness_ClosedDoorStatus_returns :
    (fireAll.pdt 0).inService = true ∧ (fireAll.door 0).state = .unknown ∧ (fireAll.door 0).returning = true
      ∧ OverrideKind.fire ∈ fireAll.ou.list ∧ fireAll.settings.fireScope = .allInService ∧ (fireAll.door 0).reasons = .empty
      ∧ OverrideKind.fire ∉ edge.ou.list ∧ Door.resetRec.state = .unknown ∧ Door.resetRec.returning = false := by decide +kernel
/-- The third reply of a recovery run, with its key on and TH occupied, at a door in FAULT(COMM_LOST). -/
def third : Reply := { status := 0x08, current := 0x32, sensors := 0x10, keys := 0x02, echo := 0 }
theorem witness_ClosedDoorStatus_recovery :
    ((withDoor0 (faultDoor .commLost)).door 0).state = .fault ∧ (faultDoor .commLost).returning = false ∧ third.isoKey = false
      ∧ ((withDoor0 (faultDoor .commLost)).pdt 0).inService = true ∧ (withDoor0 (faultDoor .commLost)).key 0 = .unseen
      ∧ (withDoor0 (faultDoor .commLost)).driveClass 0 = some { iNom := 50, iHard := 100, k := 10, startBlank := 2 }
      ∧ third.current.toNat ≤ 50 ∧ third.sensor .th = true ∧ third.sensor .ed = false
      ∧ ((withDoor0 (faultDoor .commLost)).sensing 0).map (fun q => decide (1 ≤ q.n ∧ q.stuckLimit ≠ 1)) = some true := by
  decide +kernel
/-- Class 0: I_NOM 50, I_HARD 100, K 10, so L is 25 000. -/
theorem witness_EffortSample :
    edge.driveClass 0 = some { iNom := 50, iHard := 100, k := 10, startBlank := 2 }
      ∧ DriveClass.limit { iNom := 50, iHard := 100, k := 10, startBlank := 2 } = 25000
      ∧ (edge.door 0).state = .closed ∧ (edge.door 0).blank = 0 ∧ 0 < { closedDoor with blank := 1 }.blank
      ∧ (25000 : Nat) ≤ 17699 + 99 ^ 2 - 50 ^ 2 ∧ 17698 + 99 ^ 2 - 50 ^ 2 < 25000
      ∧ closingDoor.blank = 0 ∧ closingDoor.state = .closing ∧ closingDoor.reopenCount < edge.settings.reopenLimit
      ∧ edge.settings.reopenLimit ≤ { closingDoor with reopenCount := 3 }.reopenCount ∧ reopeningDoor.blank = 0
      ∧ reopeningDoor.state = .reopening ∧ (faultDoor .unitFault).state = .fault ∧ (faultDoor .unitFault).blank = 0 := by
  decide +kernel
theorem witness_ZoneSample :
    (withZone0 .th occupied edge).zone 0 .th = some occupied ∧ (edge.sensing 0).isSome = true
      ∧ (edge.door 0).state ≠ .outOfService ∧ occupied.forced = false ∧ occupied.state ≠ .stuck
      ∧ edge.held 0 = false ∧ 100 ≤ min 65535 (99 + 1) := by decide +kernel

/-- Gap zone G1, one sample short of K_ON, turns OCCUPIED; under REOPEN it is a trigger. -/
def nearly : ZoneRec := { window := [true, true, true], count := 3, state := .clear, run := 0, forced := false }
def reopenTables : Tables :=
  let q : SensingProfile := { n := 8, kOn := 4, kOff := 2, stuckLimit := 100, gapResponse := .reopen, intrusionReport := true }
  { smallTables with profiles := smallTables.profiles.set 0 (some q) }
def reopens : State :=
  { withZone0 .g1 nearly (withDoor0 closingDoor) with ts := { edge.ts with tables := reopenTables } }
theorem witness_ZoneSample_gap :
    (withZone0 .g1 nearly proving).zone 0 .g1 = some nearly ∧ nearly.state = .clear ∧ (nearly.window ++ [true]).count true = 4
      ∧ ZoneId.g1.isGap = true ∧ (edge.sensing 0).map SensingProfile.gapResponse = some .holdDeparture
      ∧ (reopens.sensing 0).map SensingProfile.gapResponse = some .reopen ∧ (proving.berth .A).state = .proving
      ∧ InSpan proving .A 0 := by
  refine ⟨by decide +kernel, by decide, by decide, by decide, by decide +kernel, by decide +kernel, by decide, .front, ?_⟩
  decide +kernel
theorem test_gap_reopens : ((reopens.sampleZone 0 true .g1).door 0).state = .reopening := by decide +kernel
/-- A gap zone that turns OCCUPIED at its sample takes the proof from a PROVEN berth (R168, R200). -/
theorem test_gap_sample_loses_proof : ((withZone0 .g1 nearly proven).sampleZone 0 true .g1).berthA.state = .proving := by
  decide +kernel
theorem witness_ModeEnterPushes :
    Takes edge .modeEnter 0x02 [2] ∧ modeEnterRefusal (ask edge .modeEnter 0x02 [2]) [2] = some (.range, 1)
      ∧ Takes berthed .modeEnter 0x02 [0]
      ∧ modeEnterRefusal (ask berthed .modeEnter 0x02 [0]) [0] = some (.berthOccupied, 0)
      ∧ Takes edge .modeEnter 0x02 [0] ∧ modeEnterRefusal (ask edge .modeEnter 0x02 [0]) [0] = none := by decide +kernel
theorem witness_ModeExitRemoves :
    Takes edge .modeExit 0x02 [2] ∧ Takes edge .modeExit 0x02 [0] ∧ OverrideKind.maint ∉ edge.ou.list
      ∧ Takes edge .modeExit 0x02 [1] ∧ OverrideKind.test ∉ edge.ou.list
      ∧ Takes (inTest true) .modeExit 0x02 [1] ∧ OverrideKind.test ∈ (inTest true).ou.list
      ∧ Takes (inTest true) .modeExit 0x02 [0] ∧ OverrideKind.maint ∈ (inTest true).ou.list := by decide +kernel
theorem witness_ModeExitRemoves_doors :
    let r : Door := { doorOpen with reasons := { Reasons.empty with maint := true } }
    let s := withList [.maint] (withDoor0 r)
    Takes s .modeExit 0x02 [0] ∧ OverrideKind.maint ∈ s.ou.list ∧ (s.door 0).state = .opened
      ∧ (s.door 0).reasons = { Reasons.empty with maint := true } ∧ (s.door 47).reasons.maint = false
      ∧ (withDoor0 heldDoor).door 0 = heldDoor ∧ heldDoor.state = .held := by decide +kernel
theorem witness_EvacuateActs :
    Takes edge .evacuate 0x01 [2] ∧ Takes (withList [.evac] edge) .evacuate 0x01 [1]
      ∧ Takes (withList [.fire] edge) .evacuate 0x01 [1] ∧ Takes berthed .evacuate 0x01 [1]
      ∧ (ask berthed .evacuate 0x01 [1]).berthA.platformEnable[47] = true
      ∧ ((ask berthed .evacuate 0x01 [1]).door 47).state ≠ .outOfService
      ∧ Takes edge .evacuate 0x01 [0] ∧ OverrideKind.evac ∉ edge.ou.list
      ∧ Takes (withList [.evac] edge) .evacuate 0x01 [0] ∧ OverrideKind.evac ∈ (withList [.evac] edge).ou.list := by
  decide +kernel
theorem witness_EvacuateActs_doors :
    (berthed.door 47).reasons = .empty ∧ (berthed.door 47).state = .closed ∧ closingDoor.reasons = .empty
      ∧ closingDoor.state = .closing := by decide +kernel
theorem witness_FireChangeActs :
    State.reset.phase ≠ .running ∧ edge.phase = .running ∧ false = edge.ou.fireTaken
      ∧ OverrideKind.fire ∉ edge.ou.list ∧ (withList [.fire] edge).ou.fireTaken = true
      ∧ OverrideKind.fire ∈ (withList [.fire] edge).ou.list ∧ berthed.berthA.platformEnable[0] = true := by decide +kernel

/-- A key that turns on at a door in a berth's enable set, at a door of no berth, and in each of its states. -/
def keyed (k : KeyState) (s : State) : State := s.setKey 0 k
theorem witness_KeysAndPanelsTaken :
    edge.key 0 = .unseen ∧ (keyed .off berthed).key 0 = .off ∧ ((keyed .off berthed).door 0).state ≠ .outOfService
      ∧ (keyed .off berthed).berthA.platformEnable[0] = true ∧ (keyed .off edge).key 0 = .off
      ∧ (keyed .off edge).berthA.platformEnable[0] = false ∧ (keyed .off edge).berthB.platformEnable[0] = false
      ∧ OverrideKind.maint ∉ (keyed .off edge).ou.list ∧ (keyed .onGranted edge).key 0 = .onGranted
      ∧ (keyed .onNotGranted edge).key 0 = .onNotGranted := by decide +kernel
/-- A panel seen before with every button released, and replies with its key and one, two or three buttons. -/
def seenPanel : Panel := { Panel.fresh with seen := true }
def pressing (keys : Byte) : Reply := { status := 0, current := 0, sensors := 0, keys := keys, echo := 0 }
theorem witness_KeysAndPanelsTaken_presses :
    (panelled seenPanel).panel .front = some seenPanel ∧ seenPanel.seen = true ∧ Panel.fresh.seen = false
      ∧ (pressing 0x10).panelKey = false ∧ (pressing 0x72).panelKey = true ∧ (pressing 0x72).openButton = true
      ∧ (pressing 0x72).closeButton = true ∧ (pressing 0x72).resetButton = true ∧ (pressing 0x12).openButton = true
      ∧ (pressing 0x12).closeButton = false ∧ (pressing 0x12).resetButton = false ∧ (pressing 0x22).closeButton = true
      ∧ (pressing 0x22).resetButton = false ∧ (pressing 0x42).resetButton = true ∧ (pressing 0x42).closeButton = false
      ∧ (pressing 0x52).openButton = true ∧ (pressing 0x52).resetButton = true ∧ edge.panel .front = none := by decide +kernel
/-- OPEN pressed beside CLOSE does not act (R189): the RELEASED berth is closed by the panel and stays so. -/
theorem test_panel_open_beside_close :
    (((panelled seenPanel).setBerth .A (stopped .released)).panelReply .front (pressing 0x32)).berthA.closeCause = some .panel := by
  decide +kernel
theorem witness_KeysAndPanelsTaken_acts :
    OverrideKind.fire ∈ (withList [.fire] edge).ou.list ∧ OverrideKind.fire ∉ released.ou.list ∧ OverrideKind.evac ∉ released.ou.list
      ∧ (released.berth .A).state = .released ∧ (released.berth .A).span = some .front ∧ Span.front.has .front = true
      ∧ (released.door 0).state ≠ .outOfService ∧ (edge.pdt 0).zone = .front ∧ edge.berthA.state = .vacant
      ∧ OverrideKind.maint ∈ (withList [.maint] edge).ou.list ∧ OverrideKind.maint ∉ berthed.ou.list
      ∧ (berthed.berth .A).state = .berthed ∧ (berthed.berth .A).verdict = some .good := by decide +kernel
theorem witness_KeysAndPanelsTaken_occupancy : OccupancyInv released ∧ OccupancyInv berthed := by
  constructor <;> exact ⟨by decide +kernel, fun b => by cases b <;> decide +kernel, fun x y _ hb => absurd rfl hb⟩

theorem witness_EventAckClears :
    Takes edge .eventAck 0x02 [2, 0, 0] ∧ Takes edge .eventAck 0x02 [0, 1, 48, 0] ∧ ¬ u8 [0, 1, 48, 0] (2 + 0) ≤ 47
      ∧ Takes edge .eventAck 0x02 [0, 1, 47, 1, 2] ∧ u8 [0, 1, 47, 1, 2] (2 + 0) ≤ 47 ∧ ¬ u8 [0, 1, 47, 1, 2] (3 + 1 + 0) ≤ 1
      ∧ Takes edge .eventAck 0x02 [0, 1, 47, 1, 1] ∧ u8 [0, 1, 47, 1, 1] (3 + 1 + 0) ≤ 1
      ∧ Takes edge .eventAck 0x02 [1, 0, 0] := by decide +kernel
theorem witness_SupervisorReads :
    Takes edge .eventMask 0x02 [0xFF, 0x80] ∧ Takes edge .changeMap 0x02 []
      ∧ Stands (ask edge .ident 0x01 []) 0x0C 0x01 [] ∧ Stands (ask edge .ident 0x02 []) 0x0C 0x02 []
      ∧ Takes edge .edgeQuery 0x02 [] ∧ edge.lli.txQueue.length < 16 ∧ Takes edge .snapshot 0x02 []
      ∧ { edge.er with autoTimer := .running 60000 }.autoTimer ≠ .stopped ∧ edge.er.autoTimer = .stopped := by decide +kernel
/-- 16 telegrams wait. -/
def full : State := { edge with lli := { edge.lli with txQueue := List.replicate 16 (berthStatusReport .A .vacantRec) } }
theorem witness_EdgeQueryReads_full : Takes full .edgeQuery 0x02 [] ∧ 16 ≤ (ask full .edgeQuery 0x02 []).lli.txQueue.length := by
  decide +kernel

/-- Door 1: in service, REAR platform zone, centre 70 000, width 1 500, class 0, profile 0, every zone fitted. -/
def pdtWrite (zone class_ : Byte) : List Byte :=
  [0x00, 0x01, 0x01, zone, 0x00, 0x01, 0x11, 0x70, 0x05, 0xDC, class_, 0x00, 0x3F]
def maintained : State := withList [.maint] edge
/-- Door 0's entry as it stands, and out of service. -/
def pdtOfDoor0 (inService : Byte) : List Byte :=
  [0x00, 0x00, inService, 0x00, 0x00, 0x00, 0x27, 0x10, 0x07, 0xD0, 0x00, 0x00, 0x3F]
theorem witness_TableWriteReplaces_vacant : VacantInv (ask maintained .tableWrite 0x02 (pdtOfDoor0 0)) := by
  intro b _
  cases b <;> exact vacantRec_afterReset
theorem witness_TableWriteReplaces_door0 :
    Takes maintained .tableWrite 0x02 (pdtOfDoor0 1) ∧ Takes maintained .tableWrite 0x02 (pdtOfDoor0 0)
      ∧ (rawPdtAt (pdtOfDoor0 1)).badField = none ∧ (rawPdtAt (pdtOfDoor0 1)).entry = maintained.pdt 0
      ∧ maintained.ts.tables.pdtBadCross 0 (rawPdtAt (pdtOfDoor0 1)).entry = none
      ∧ (rawPdtAt (pdtOfDoor0 0)).badField = none ∧ (rawPdtAt (pdtOfDoor0 0)).entry ≠ maintained.pdt 0
      ∧ maintained.ts.tables.pdtBadCross 0 (rawPdtAt (pdtOfDoor0 0)).entry = none := by decide +kernel
theorem witness_TableWriteReplaces :
    Takes edge .tableWrite 0x02 (pdtWrite 1 0)
      ∧ tableWriteRefusal (ask edge .tableWrite 0x02 (pdtWrite 1 0)) (pdtWrite 1 0) = some (.overridden, 0)
      ∧ Takes maintained .tableWrite 0x02 (pdtWrite 1 0)
      ∧ tableWriteRefusal (ask maintained .tableWrite 0x02 (pdtWrite 1 0)) (pdtWrite 1 0) = none
      ∧ (rawPdtAt (pdtWrite 1 0)).badField = none
      ∧ maintained.ts.tables.pdtBadCross (Fin.ofNat 48 (u8 (pdtWrite 1 0) 1)) (rawPdtAt (pdtWrite 1 0)).entry = none
      ∧ (rawPdtAt (pdtWrite 2 0)).badField = some 4
      ∧ (rawPdtAt (pdtWrite 1 3)).badField = none
      ∧ maintained.ts.tables.pdtBadCross (Fin.ofNat 48 (u8 (pdtWrite 1 3) 1)) (rawPdtAt (pdtWrite 1 3)).entry = some 7 := by
  decide +kernel
theorem witness_TableWriteReplaces_classes_profiles :
    Takes maintained .tableWrite 0x02 [1, 3, 90, 100, 10, 2]
      ∧ tableWriteRefusal (ask maintained .tableWrite 0x02 [1, 3, 90, 100, 10, 2]) [1, 3, 90, 100, 10, 2] = none
      ∧ (driveClassAt [1, 3, 90, 100, 10, 2]).badField = none
      ∧ (driveClassAt [1, 3, 90, 100, 10, 2]).iNom < (driveClassAt [1, 3, 90, 100, 10, 2]).iHard
      ∧ (driveClassAt [1, 3, 0, 100, 10, 2]).badField = some 3
      ∧ (driveClassAt [1, 3, 100, 100, 10, 2]).iHard ≤ (driveClassAt [1, 3, 100, 100, 10, 2]).iNom
      ∧ Takes maintained .tableWrite 0x02 [2, 7, 8, 4, 2, 0, 100, 0, 1]
      ∧ tableWriteRefusal (ask maintained .tableWrite 0x02 [2, 7, 8, 4, 2, 0, 100, 0, 1]) [2, 7, 8, 4, 2, 0, 100, 0, 1] = none
      ∧ (rawSensingAt [2, 7, 8, 4, 2, 0, 100, 0, 1]).badField = none ∧ (rawSensingAt [2, 7, 8, 4, 2, 0, 100, 0, 1]).badCross = none
      ∧ (rawSensingAt [2, 7, 8, 4, 2, 0, 100, 2, 1]).badField = some 7
      ∧ (rawSensingAt [2, 7, 8, 9, 2, 0, 100, 0, 1]).badCross = some 4 := by decide +kernel
/-- The default settings block, and one whose ZSPLIT is 150 m beyond the doors of the FRONT platform zone. -/
def settingsWrite (c : Settings) : List Byte := [0x03, 0x00] ++ settingsData c
theorem witness_TableWriteReplaces_settings :
    Takes maintained .tableWrite 0x02 (settingsWrite .default)
      ∧ tableWriteRefusal (ask maintained .tableWrite 0x02 (settingsWrite .default)) (settingsWrite .default) = none
      ∧ (rawSettingsAt (settingsWrite .default)).badField = none
      ∧ maintained.ts.tables.fitsExtents (rawSettingsAt (settingsWrite .default)).block = true
      ∧ (rawSettingsAt (settingsWrite { Settings.default with platformSide := 3 })).badField = some 3
      ∧ (rawSettingsAt (settingsWrite { Settings.default with zsplit := 15000 })).badField = none
      ∧ maintained.ts.tables.fitsExtents (rawSettingsAt (settingsWrite { Settings.default with zsplit := 15000 })).block = false := by
  decide +kernel
theorem witness_TableReadReads :
    Takes edge .tableRead 0x02 [6, 0, 0] ∧ Takes edge .tableRead 0x02 [0, 48, 0] ∧ Takes edge .tableRead 0x02 [0, 47, 0]
      ∧ Takes edge .tableRead 0x02 [4, 15, 0] ∧ Takes edge .tableRead 0x02 [4, 0, 2] ∧ (edge.stock 0).cars.length < 2
      ∧ Takes edge .tableRead 0x02 [4, 0, 1]
      ∧ ((edge.stock 0).cars[1 - 1]?).isSome = true := by decide +kernel
theorem witness_ProfileRequests :
    Takes edge .profileBegin 0x02 [15, 10, 0x07, 0xD0]
      ∧ profileBeginRefusal (ask edge .profileBegin 0x02 [15, 10, 0x07, 0xD0]) [15, 10, 0x07, 0xD0] = none
      ∧ Takes building .profileCar 0x02 oneCar ∧ profileCarRefusal (ask building .profileCar 0x02 oneCar) oneCar = none
      ∧ Takes edge .profileDelete 0x02 [0] ∧ profileDeleteRefusal (ask edge .profileDelete 0x02 [0]) [0] = none := by decide +kernel
/-- The free pools of a part, as few as asked. -/
def poor (s : State) : State := { s with ts := { s.ts with freeCars := 9, freeDoors := 0 } }
theorem witness_ProfileRequests_refused :
    profileBeginRefusal (saving edge) [15, 10, 0, 0] = some (.busy, 0)
      ∧ profileBeginRefusal edge [16, 10, 0, 0] = some (.range, 1) ∧ profileBeginRefusal edge [15, 11, 0, 0] = some (.range, 2)
      ∧ profileBeginRefusal edge [15, 10, 0x07, 0xD1] = some (.range, 3) ∧ profileBeginRefusal berthed [0, 1, 0, 0] = some (.inUse, 0)
      ∧ profileBeginRefusal (poor edge) [15, 10, 0, 0] = some (.noSpace, 0)
      ∧ profileCarRefusal edge oneCar = some (.wrongState, 0) ∧ profileCarRefusal (poor building) oneCar = some (.noSpace, 0)
      ∧ profileCarRefusal building (oneCar.set 1 2) = some (.range, 2) ∧ profileCarRefusal building (oneCar.set 2 0) = some (.range, 3)
      ∧ profileDeleteRefusal berthed [0] = some (.inUse, 0) ∧ profileDeleteRefusal edge [16] = some (.range, 1) := by decide +kernel
theorem witness_StoreSaves :
    Takes edge .storeSave 0x02 [] ∧ OverrideKind.maint ∉ edge.ou.list
      ∧ Takes (saving maintained) .storeSave 0x02 [] ∧ (saving maintained).ts.saveState = .saving
      ∧ Takes maintained .storeSave 0x02 [] ∧ OverrideKind.maint ∈ maintained.ou.list ∧ maintained.ts.saveState = .idle
      ∧ (saving edge).ts.config = .configured := by decide +kernel

/-! The invariants hold of a busy part, and its next step is a next state. -/

/-- Berth A RELEASED with door 0 open, and a CLOSE about to be carried out. -/
def busy : State := { ask openAtA .close 0x01 [0x00] with pending := [.close 0x01 [0x00]] }
theorem witness_busy_steps : ∃ t : State, step busy = .next t := ⟨_, rfl⟩
theorem witness_LinkInvKept : LinkInv busy := by unfold LinkInv; decide +kernel
theorem witness_OverrideInvKept : OverrideInv (withList [.maint, .test, .fire] edge) := by unfold OverrideInv; decide +kernel
theorem witness_PermitInvKept : PermitInv busy := by
  intro b
  cases b <;> decide +kernel
/-- PROVING with gap zone G1 OCCUPIED, and a train not yet stopped beside it. -/
theorem witness_ProofInvKept : ProofInv proven ∧ ProofInv (withZone0 .g1 occupied proving) := by
  have hB : ∀ s : State, s.phase = .running → s.berthB.state = .vacant → (s.berth .B).state ≠ .proven ∧ (s.berth .B).state ≠ .proving :=
    fun s _ h => by simp [State.berth, h]
  refine ⟨fun b => ?_, fun b => ?_⟩ <;> refine ⟨fun hr => ?_, fun h => absurd rfl h⟩ <;> cases b
  · exact ⟨fun _ => holds_of_clear proven rfl rfl edge_zones_clear, fun h => absurd h (by decide)⟩
  · exact ⟨fun h => absurd h (hB _ hr rfl).1, fun h => absurd h (hB _ hr rfl).2⟩
  · refine ⟨fun h => absurd h (by decide +kernel), fun _ h => ?_⟩
    exact absurd (h.2 0 .g1 ⟨.front, by decide +kernel⟩ (by decide +kernel) (by decide)) (by decide +kernel)
  · exact ⟨fun h => absurd h (hB _ hr rfl).1, fun h => absurd h (hB _ hr rfl).2⟩
theorem witness_OccupancyInvKept : OccupancyInv busy := by
  refine ⟨by decide +kernel, fun b => ?_, fun x y _ hb => absurd rfl hb⟩
  cases b <;> decide +kernel
theorem witness_VacantInvKept : VacantInv edge := by
  intro b _
  cases b <;> exact vacantRec_afterReset
theorem witness_ServiceInvKept : ServiceInv busy := by unfold ServiceInv; decide +kernel
theorem witness_PoolInvKept : PoolInv busy := by unfold PoolInv; decide +kernel
theorem witness_DoorInvKept : DoorInv busy := by unfold DoorInv Door.good; decide +kernel
theorem witness_LoopInvKept : LoopInv busy := by
  refine ⟨fun _ z => ?_, by decide +kernel⟩
  cases z <;> decide +kernel

end Sys2Proof.Tests
end

namespace Sys2Proof.Machine

/-! # What the working part leaves as it was

Only a reset, the load, a request to the Table Store and the outside world change the phase, the levels of the inputs, the Table
Store and the queue of commands. Every other operation keeps them, which is said once for each, in the order of the
model's definitions. -/

/-- The records of the part that no block but the Table Store changes while the part works. -/
structure Ground where
  phase : Phase
  supplyOk : Bool
  resetLine : Bool
  firePin : Bool
  ts : TableStore
  pending : List Instr

def State.ground (s : State) : Ground :=
  { phase := s.phase, supplyOk := s.supplyOk, resetLine := s.resetLine, firePin := s.firePin, ts := s.ts, pending := s.pending }

theorem State.ts_of_ground {s t : State} (h : t.ground = s.ground) : t.ts = s.ts := congrArg Ground.ts h

/-! ## Acts repeated over a list -/

/-- What one act of a fold keeps, the fold keeps. -/
theorem foldl_keeps {α β σ : Type} (f : σ → β) (act : σ → α → σ) (h : ∀ s x, f (act s x) = f s) (l : List α) (s : σ) :
    f (l.foldl act s) = f s := by
  induction l generalizing s with
  | nil => rfl
  | cons x l ih => rw [List.foldl_cons, ih, h]

/-- What the act on one door keeps, the acts on a list of doors keep. -/
theorem forDoors_keeps {β : Type} (f : State → β) (act : DoorNo → State → State) (h : ∀ d s, f (act d s) = f s)
    (ds : List DoorNo) (s : State) : f (forDoors ds act s) = f s :=
  foldl_keeps f (fun s d => act d s) (fun s d => h d s) ds s

/-! ## Writing one record, and telling the station -/

@[simp] theorem State.setDoor_ground (s : State) (d : DoorNo) (r : Door) : (s.setDoor d r).ground = s.ground := rfl
@[simp] theorem State.setZones_ground (s : State) (d : DoorNo) (z : DoorZones) : (s.setZones d z).ground = s.ground := rfl
@[simp] theorem State.setZone_ground (s : State) (d : DoorNo) (z : ZoneId) (r : Option ZoneRec) :
    (s.setZone d z r).ground = s.ground := rfl
@[simp] theorem State.setBerth_ground (s : State) (b : BerthId) (r : Berth) : (s.setBerth b r).ground = s.ground := by
  cases b <;> rfl
@[simp] theorem State.setPanel_ground (s : State) (z : Zone) (p : Option Panel) : (s.setPanel z p).ground = s.ground := by
  cases z <;> rfl
@[simp] theorem State.setKey_ground (s : State) (d : DoorNo) (k : KeyState) : (s.setKey d k).ground = s.ground := rfl
@[simp] theorem State.setTest_ground (s : State) (t : RingTest) : (s.setTest t).ground = s.ground := rfl
@[simp] theorem State.offer_ground (s : State) (t : Telegram) : (s.offer t).ground = s.ground := rfl
@[simp] theorem State.popRequest_ground (s : State) : s.popRequest.ground = s.ground := rfl
@[simp] theorem State.countDoor_ground (s : State) (d : DoorNo) (f : DoorCounters → DoorCounters) :
    (s.countDoor d f).ground = s.ground := rfl

/-- A hand-over keeps the ground (R116). -/
theorem Handed.ground {s t : State} (h : Handed s t) : t.ground = s.ground := by rw [h.frame]; rfl

@[simp] theorem State.raise_ground (s : State) (e : EventKind) (n : Nat) (items : List Byte) :
    (s.raise e n items).ground = s.ground := (s.raise_handed e n items).ground
@[simp] theorem State.answer_ground (s : State) (src kind : Byte) (a : Answer) : (s.answer src kind a).ground = s.ground := by
  cases a <;> rfl

/-! ## Flags and departure proof -/

@[simp] theorem State.setLamps_ground (s : State) (z : Zone) : (s.setLamps z).ground = s.ground := s.setPanel_ground z _
@[simp] theorem State.reportBerth_ground (s : State) (b : BerthId) (st : BerthState) (c : Option CloseCause) (n : Nat) :
    (s.reportBerth b st c n).ground = s.ground := (s.reportBerth_handed b st c n).ground
@[simp] theorem State.reportBerthNow_ground (s : State) (b : BerthId) : (s.reportBerthNow b).ground = s.ground :=
  s.reportBerth_ground b _ _ _
@[simp] theorem State.offerBerthStatus_ground (s : State) (b : BerthId) : (s.offerBerthStatus b).ground = s.ground := rfl
@[simp] theorem State.evaluateProof_ground (s : State) (b : BerthId) : (s.evaluateProof b).ground = s.ground :=
  (s.evaluateProof_handed b).ground
@[simp] theorem State.handProofOfZone_ground (s : State) (z : Zone) : (s.handProofOfZone z).ground = s.ground :=
  (s.handProofOfZone_handed z).ground

theorem State.judgeLoops_handed (s : State) : Handed s s.judgeLoops := (s.judgeLoop_handed _).trans (State.judgeLoop_handed _ _)
@[simp] theorem State.judgeLoops_ground (s : State) : s.judgeLoops.ground = s.ground := s.judgeLoops_handed.ground

@[simp] theorem State.enterProving_ground (s : State) (b : BerthId) (c : CloseCause) : (s.enterProving b c).ground = s.ground :=
  s.setBerth_ground b _
@[simp] theorem State.finishProving_ground (s : State) (b : BerthId) : (s.finishProving b).ground = s.ground := by
  unfold State.finishProving
  simp only [State.offerBerthStatus_ground]
  split <;> simp

/-! ## Doors -/

/-- An event on a door record keeps the ground where its act does (R116). -/
theorem State.doorEvent_ground {s : State} {d : DoorNo} {f : State → State} (h : (f s).ground = s.ground) :
    (s.doorEvent d f).ground = s.ground := (s.doorEvent_handed d f).ground.trans h

@[simp] theorem State.putReason_ground (s : State) (d : DoorNo) (v : Bool) (k : Reason) :
    (s.putReason d v k).ground = s.ground := (s.putReason_handed d v k).ground
@[simp] theorem State.addReason_ground (s : State) (d : DoorNo) (k : Reason) : (s.addReason d k).ground = s.ground :=
  s.putReason_ground d true k
@[simp] theorem State.removeReasons_ground (s : State) (d : DoorNo) (ks : List Reason) :
    (s.removeReasons d ks).ground = s.ground :=
  foldl_keeps _ _ (fun s k => s.putReason_ground d false k) ks s

@[simp] theorem State.faultDoor_ground (s : State) (d : DoorNo) (c : FaultCause) : (s.faultDoor d c).ground = s.ground := by
  unfold State.faultDoor
  dsimp only
  split <;> simp
@[simp] theorem State.reopenOrHold_ground (s : State) (d : DoorNo) : (s.reopenOrHold d).ground = s.ground := by
  unfold State.reopenOrHold
  dsimp only
  repeat' split
  all_goals simp
@[simp] theorem State.reopenTrigger_ground (s : State) (d : DoorNo) : (s.reopenTrigger d).ground = s.ground :=
  doorEvent_ground (s.reopenOrHold_ground d)
@[simp] theorem State.latchReset_ground (s : State) (d : DoorNo) : (s.latchReset d).ground = s.ground := by
  refine doorEvent_ground ?_
  dsimp only
  repeat' split
  all_goals simp

@[simp] theorem State.dropFromBerths_ground (s : State) (d : DoorNo) : (s.dropFromBerths d).ground = s.ground := by
  refine foldl_keeps _ _ (fun s b => ?_) _ s
  split <;> simp
@[simp] theorem State.leaveZones_ground (s : State) (d : DoorNo) : (s.leaveZones d).ground = s.ground := s.setZones_ground d _
@[simp] theorem State.leaveKey_ground (s : State) (d : DoorNo) : (s.leaveKey d).ground = s.ground := s.setKey_ground d _
@[simp] theorem State.leaveService_ground (s : State) (d : DoorNo) : (s.leaveService d).ground = s.ground := by
  simp [State.leaveService]

@[simp] theorem State.readopt_ground (s : State) (d : DoorNo) (u : UnitStatus) (iso recovered : Bool) :
    (s.readopt d u iso recovered).ground = s.ground := by
  unfold State.readopt
  dsimp only
  repeat' split
  all_goals simp
@[simp] theorem State.fireOnReturn_ground (s : State) (d : DoorNo) : (s.fireOnReturn d).ground = s.ground := by
  unfold State.fireOnReturn
  split <;> simp
@[simp] theorem State.readoptEvent_ground (s : State) (d : DoorNo) (u : UnitStatus) (iso recovered : Bool) :
    (s.readoptEvent d u iso recovered).ground = s.ground := by
  have event : (s.doorEvent d fun s => s.readopt d u iso recovered).ground = s.ground :=
    doorEvent_ground (s.readopt_ground d u iso recovered)
  unfold State.readoptEvent
  dsimp only
  split
  · rw [State.fireOnReturn_ground, event]
  · exact event
@[simp] theorem State.faultClear_ground (s : State) (d : DoorNo) : (s.faultClear d).ground = s.ground := by
  unfold State.faultClear
  dsimp only
  repeat' split
  all_goals simp

@[simp] theorem State.applyLeaf_ground (s : State) (d : DoorNo) (u : UnitStatus) : (s.applyLeaf d u).ground = s.ground := by
  unfold State.applyLeaf
  dsimp only
  repeat' split
  all_goals simp
@[simp] theorem State.applyRules_ground (s : State) (d : DoorNo) (u : UnitStatus) (wasManual : Bool) :
    (s.applyRules d u wasManual).ground = s.ground := by
  unfold State.applyRules
  dsimp only
  repeat' split
  all_goals simp
@[simp] theorem State.applyStatus_ground (s : State) (d : DoorNo) (u : UnitStatus) (iso : Bool) :
    (s.applyStatus d u iso).ground = s.ground := by
  unfold State.applyStatus
  dsimp only
  split
  · simp
  · split
    · simp
    · refine doorEvent_ground ?_
      split <;> simp
@[simp] theorem State.commLostNotice_ground (s : State) (d : DoorNo) : (s.commLostNotice d).ground = s.ground := by
  refine doorEvent_ground ?_
  dsimp only
  split <;> simp

@[simp] theorem State.pdtOut_ground (s : State) (d : DoorNo) : (s.pdtOut d).ground = s.ground :=
  doorEvent_ground (s.leaveService_ground d)
@[simp] theorem State.pdtIn_ground (s : State) (d : DoorNo) : (s.pdtIn d).ground = s.ground := by
  refine doorEvent_ground ?_
  split <;> simp

@[simp] theorem State.motionExpiry_ground (s : State) (d : DoorNo) : (s.motionExpiry d).ground = s.ground := by
  unfold State.motionExpiry
  split
  · rfl
  · exact doorEvent_ground (s.faultDoor_ground d _)
@[simp] theorem State.lockProofExpiry_ground (s : State) (d : DoorNo) : (s.lockProofExpiry d).ground = s.ground := by
  unfold State.lockProofExpiry
  split
  · rfl
  · exact doorEvent_ground (s.faultDoor_ground d _)
@[simp] theorem State.recloseExpiry_ground (s : State) (d : DoorNo) : (s.recloseExpiry d).ground = s.ground := by
  unfold State.recloseExpiry
  split
  · rfl
  · refine doorEvent_ground ?_
    dsimp only
    split <;> simp

/-! ## Sensing and effort -/

@[simp] theorem State.handSensed_ground (s : State) (d : DoorNo) (z : ZoneId) (p : SensingProfile) (occupied : Bool) :
    (s.handSensed d z p occupied).ground = s.ground := by
  unfold State.handSensed
  dsimp only
  repeat' split
  all_goals simp
@[simp] theorem State.handGap_ground (s : State) (d : DoorNo) (z : ZoneId) : (s.handGap d z).ground = s.ground := by
  unfold State.handGap
  split <;> simp
@[simp] theorem State.sampleZone_ground (s : State) (d : DoorNo) (bit : Bool) (z : ZoneId) :
    (s.sampleZone d bit z).ground = s.ground := by
  unfold State.sampleZone
  dsimp only
  repeat' split
  all_goals simp
@[simp] theorem State.takeSensors_ground (s : State) (d : DoorNo) (r : Reply) : (s.takeSensors d r).ground = s.ground :=
  foldl_keeps _ _ (fun s z => s.sampleZone_ground d _ z) _ s
@[simp] theorem State.forceZones_ground (s : State) (d : DoorNo) : (s.forceZones d).ground = s.ground := by
  refine foldl_keeps _ _ (fun s z => ?_) _ s
  dsimp only
  repeat' split
  all_goals simp
@[simp] theorem State.recoverZones_ground (s : State) (d : DoorNo) : (s.recoverZones d).ground = s.ground := by
  refine foldl_keeps _ _ (fun s z => ?_) _ s
  dsimp only
  repeat' split
  all_goals simp
@[simp] theorem State.stuckClear_ground (s : State) (d : DoorNo) : (s.stuckClear d).ground = s.ground := by
  refine foldl_keeps _ _ (fun s z => ?_) _ s
  repeat' split
  all_goals simp
@[simp] theorem State.applyProfile_ground (s : State) (d : DoorNo) : (s.applyProfile d).ground = s.ground := by
  unfold State.applyProfile
  split <;> simp
@[simp] theorem State.refitZones_ground (s : State) (d : DoorNo) : (s.refitZones d).ground = s.ground := by
  refine foldl_keeps _ _ (fun s z => ?_) _ s
  repeat' split
  all_goals simp

@[simp] theorem State.tripDoor_ground (s : State) (d : DoorNo) : (s.tripDoor d).ground = s.ground := by
  unfold State.tripDoor
  split <;> simp
@[simp] theorem State.trip_ground (s : State) (d : DoorNo) (c : DriveClass) (cause : TripCause) (i : Nat) :
    (s.trip d c cause i).ground = s.ground := doorEvent_ground (by simp)
@[simp] theorem State.takeCurrent_ground (s : State) (d : DoorNo) (i : Nat) : (s.takeCurrent d i).ground = s.ground := by
  unfold State.takeCurrent
  dsimp only
  repeat' split
  all_goals simp
@[simp] theorem State.clampEffort_ground (s : State) (d : DoorNo) : (s.clampEffort d).ground = s.ground := by
  unfold State.clampEffort
  split <;> simp

/-! ## Berths -/

@[simp] theorem State.computeAlignment_ground (s : State) (b : BerthId) : (s.computeAlignment b).ground = s.ground := by
  refine (forDoors_keeps _ _ (fun d s => ?_) _ _).trans (s.setBerth_ground b _)
  dsimp only
  repeat' split
  all_goals simp
@[simp] theorem State.shutDoors_ground (s : State) (ds : List DoorNo) (ks : List Reason) :
    (s.shutDoors ds ks).ground = s.ground :=
  (forDoors_keeps _ _ (fun d s => s.latchReset_ground d) ds _).trans
    (forDoors_keeps _ _ (fun d s => s.removeReasons_ground d ks) ds s)
@[simp] theorem State.withdrawForRelease_ground (s : State) (b : BerthId) : (s.withdrawForRelease b).ground = s.ground := by
  unfold State.withdrawForRelease
  split <;> simp
@[simp] theorem State.releaseBerth_ground (s : State) (b : BerthId) : (s.releaseBerth b).ground = s.ground := by
  unfold State.releaseBerth
  dsimp only
  simp [forDoors_keeps State.ground]
@[simp] theorem State.announce_ground (s : State) (b : BerthId) (sp : Span) (train : Nat) (consist : List TrainUnit) :
    (s.announce b sp train consist).ground = s.ground := by simp [State.announce]
@[simp] theorem State.computeAt_ground (s : State) (b : BerthId) (e : Int) : (s.computeAt b e).ground = s.ground := by
  simp [State.computeAt]
@[simp] theorem State.creepStep_ground (s : State) (b : BerthId) (e : Int) : (s.creepStep b e).ground = s.ground := by
  simp [State.creepStep]
@[simp] theorem State.movingStep_ground (s : State) (b : BerthId) : (s.movingStep b).ground = s.ground := s.setBerth_ground b _
theorem State.protectiveClose_ground (s : State) (b : BerthId) (c : CloseCause) {step : State → State}
    (h : ∀ s, (step s).ground = s.ground) : (s.protectiveClose b c step).ground = s.ground := by
  simp [State.protectiveClose, h, forDoors_keeps State.ground]
@[simp] theorem State.actOnReport_ground (s : State) (b : BerthId) (e : Int) (standstill : Bool) :
    (s.actOnReport b e standstill).ground = s.ground := by
  unfold State.actOnReport
  dsimp only
  repeat' split
  all_goals simp [State.protectiveClose_ground]
@[simp] theorem State.vacate_ground (s : State) (b : BerthId) : (s.vacate b).ground = s.ground := by simp [State.vacate]

/-! ## Ring test and overrides -/

@[simp] theorem State.judgeTest_ground (s : State) (sel : SlotNo → Option Reply) : (s.judgeTest sel).ground = s.ground := by
  unfold State.judgeTest
  dsimp only
  repeat' split
  all_goals simp
@[simp] theorem State.abortTest_ground (s : State) : s.abortTest.ground = s.ground := by
  unfold State.abortTest
  dsimp only
  split <;> rfl
@[simp] theorem State.enterMode_ground (s : State) (k : OverrideKind) : (s.enterMode k).ground = s.ground := by
  have raised : (({ s with ou := { s.ou with list := s.ou.list ++ [k] } } : State).raiseMode k 0).ground = s.ground :=
    State.raise_ground _ _ _ _
  unfold State.enterMode
  dsimp only
  split <;> simp [raised]
@[simp] theorem State.leaveMode_ground (s : State) (k : OverrideKind) : (s.leaveMode k).ground = s.ground := by
  have raised : (({ s with ou := { s.ou with list := s.ou.list.filter (· != k) } } : State).raiseMode k 1).ground = s.ground :=
    State.raise_ground _ _ _ _
  unfold State.leaveMode
  dsimp only
  split <;> simp [raised]
@[simp] theorem State.leaveMaint_ground (s : State) : s.leaveMaint.ground = s.ground := by
  unfold State.leaveMaint
  dsimp only
  split <;> simp [forDoors_keeps State.ground]
@[simp] theorem State.enterEvac_ground (s : State) : s.enterEvac.ground = s.ground := by
  simp [State.enterEvac, forDoors_keeps State.ground]
@[simp] theorem State.enterFire_ground (s : State) : s.enterFire.ground = s.ground := by
  unfold State.enterFire
  split <;> simp [forDoors_keeps State.ground]
@[simp] theorem State.leaveFire_ground (s : State) : s.leaveFire.ground = s.ground := by
  unfold State.leaveFire
  split <;> simp
@[simp] theorem State.takeFire_ground (s : State) : s.takeFire.ground = s.ground := by
  unfold State.takeFire
  dsimp only
  repeat' split
  all_goals simp
  all_goals rfl
@[simp] theorem State.takeKey_ground (s : State) (d : DoorNo) (on : Bool) : (s.takeKey d on).ground = s.ground := by
  unfold State.takeKey
  repeat' split
  all_goals simp
@[simp] theorem State.loseKey_ground (s : State) (d : DoorNo) : (s.loseKey d).ground = s.ground := by simp [State.loseKey]

@[simp] theorem State.panelClose_ground (s : State) (z : Zone) : (s.panelClose z).ground = s.ground := by
  unfold State.panelClose
  dsimp only
  repeat' split
  all_goals simp
@[simp] theorem State.resetDoor_ground (s : State) (d : DoorNo) : (s.resetDoor d).ground = s.ground := by
  unfold State.resetDoor
  dsimp only
  split <;> simp
@[simp] theorem State.panelReset_ground (s : State) (z : Zone) : (s.panelReset z).ground = s.ground :=
  forDoors_keeps _ _ (fun d s => s.resetDoor_ground d) _ s
@[simp] theorem State.panelOpen_ground (s : State) (z : Zone) : (s.panelOpen z).ground = s.ground := by
  unfold State.panelOpen
  split
  · refine forDoors_keeps _ _ (fun d s => ?_) _ s
    split <;> simp
  · repeat' split
    all_goals simp
@[simp] theorem State.panelReply_ground (s : State) (z : Zone) (r : Reply) : (s.panelReply z r).ground = s.ground := by
  unfold State.panelReply
  dsimp only
  repeat' split
  all_goals simp
@[simp] theorem State.losePanel_ground (s : State) (z : Zone) : (s.losePanel z).ground = s.ground := s.setPanel_ground z _
@[simp] theorem State.refitPanel_ground (s : State) (z : Zone) : (s.refitPanel z).ground = s.ground := by
  unfold State.refitPanel
  repeat' split
  all_goals simp

/-! ## The ring cycle -/

@[simp] theorem State.takeConfigured_ground (s : State) : s.takeConfigured.ground = s.ground := by
  simp [State.takeConfigured, State.ground]
@[simp] theorem State.countRing_ground (s : State) : s.countRing.ground = s.ground := by
  simp [State.countRing, State.ground]
@[simp] theorem State.moveComm_ground (s : State) : s.moveComm.ground = s.ground := by
  simp [State.moveComm, State.ground]
@[simp] theorem State.judgeRing_ground (s : State) : s.judgeRing.ground = s.ground := by
  unfold State.judgeRing
  dsimp only
  split
  · rfl
  · rw [State.raise_ground]; rfl
@[simp] theorem State.handReply_ground (s : State) (d : DoorNo) (r : Reply) : (s.handReply d r).ground = s.ground := by
  simp [State.handReply]
@[simp] theorem State.handLoss_ground (s : State) (d : DoorNo) : (s.handLoss d).ground = s.ground := by simp [State.handLoss]
@[simp] theorem State.handRecovery_ground (s : State) (d : DoorNo) (r : Reply) : (s.handRecovery d r).ground = s.ground := by
  simp [State.handRecovery]
@[simp] theorem State.handDoorSlot_ground (s : State) (d : DoorNo) (h : Handing) : (s.handDoorSlot d h).ground = s.ground := by
  cases h <;> simp [State.handDoorSlot]
@[simp] theorem State.handKeyAlone_ground (s : State) (d : DoorNo) (r : Option Reply) : (s.handKeyAlone d r).ground = s.ground := by
  cases r <;> simp [State.handKeyAlone]
@[simp] theorem State.handPanelSlot_ground (s : State) (z : Zone) (h : Handing) : (s.handPanelSlot z h).ground = s.ground := by
  cases h <;> simp [State.handPanelSlot]
@[simp] theorem State.handSlot_ground (s : State) (i : SlotNo) (h : Option Handing) (sel : Option Reply) :
    (s.handSlot i h sel).ground = s.ground := by
  unfold State.handSlot
  split <;> simp
@[simp] theorem State.startCycle_ground (s : State) (n : BitVec 8) : (s.startCycle n).ground = s.ground :=
  ((s.setLamps .front).setLamps_ground .rear).trans (s.setLamps_ground .front)
@[simp] theorem State.closeSelections_ground (s : State) : s.closeSelections.ground = s.ground := by
  simp [State.closeSelections]
@[simp] theorem State.closeHanding_ground (s : State) (order : List SlotNo) : (s.closeHanding order).ground = s.ground :=
  (foldl_keeps _ _ (fun t i => t.handSlot_ground i _ _) _ _).trans s.closeSelections_ground
@[simp] theorem State.closeCycle_ground (s : State) (order : List SlotNo) : (s.closeCycle order).ground = s.ground := by
  simp [State.closeCycle]

/-! ## The link and the Event Reporter -/

@[simp] theorem State.offerEdgeStatus_ground (s : State) : s.offerEdgeStatus.ground = s.ground := by
  unfold State.offerEdgeStatus
  split <;> rfl
@[simp] theorem State.recoverLink_ground (s : State) : s.recoverLink.ground = s.ground := by
  simp only [State.recoverLink, State.offerBerthStatus_ground, State.offerEdgeStatus_ground]
  rfl
@[simp] theorem State.superviseLink_ground (s : State) : s.superviseLink.ground = s.ground := by
  unfold State.superviseLink
  dsimp only
  repeat' split
  · rfl
  · rfl
  · rw [State.recoverLink_ground]; rfl
@[simp] theorem State.takeRun_ground (s : State) (run : List Byte) : (s.takeRun run).ground = s.ground := by
  unfold State.takeRun
  split
  · rfl
  · rfl
  · dsimp only
    split <;> exact s.superviseLink_ground
@[simp] theorem State.expireLink_ground (s : State) : s.expireLink.ground = s.ground := by
  unfold State.expireLink
  split <;> rfl
@[simp] theorem State.takeSnapshot_ground (s : State) : s.takeSnapshot.ground = s.ground := rfl

end Sys2Proof.Machine

namespace Sys2Proof.Machine

/-! # Requests

A request keeps what its owner keeps. The owners are taken in the order of the request kinds (R26). -/

@[simp] theorem refuse_fst (s : State) (c : Code) (f : Nat) : (refuse s c f).1 = s := rfl

/-- What the answers and the owner of a request keep, the taking of the request keeps. -/
theorem State.takeRequest_keeps {P : State → Prop} {s : State} (k : Kind) (src : Byte) (p : List Byte)
    {owner : State → State × Answer} (answered : ∀ (t : State) (a : Answer), P t → P (t.answer src k.code a))
    (popped : P s → P s.popRequest) (owned : P s.popRequest → P (owner s.popRequest).1) (h : P s) :
    P (s.takeRequest k src p owner) := by
  rcases s.takeRequest_cases k src p owner with ⟨-, e⟩ | ⟨-, -, e⟩ | ⟨-, -, -, e⟩ | ⟨-, -, -, e⟩ <;> rw [e]
  · exact h
  · exact answered _ _ (popped h)
  · exact answered _ _ (popped h)
  · exact answered _ _ (owned (popped h))

@[simp] theorem State.arrival_ground (s : State) (p : List Byte) : (s.arrival p).1.ground = s.ground := by
  unfold State.arrival
  repeat' split
  all_goals simp
@[simp] theorem State.stopReport_ground (s : State) (p : List Byte) : (s.stopReport p).1.ground = s.ground := by
  unfold State.stopReport
  repeat' split
  all_goals simp
@[simp] theorem State.release_ground (s : State) (p : List Byte) : (s.release p).1.ground = s.ground := by
  unfold State.release
  dsimp only
  repeat' split
  all_goals simp
@[simp] theorem State.close_ground (s : State) (p : List Byte) : (s.close p).1.ground = s.ground := by
  unfold State.close
  repeat' split
  all_goals simp
@[simp] theorem State.cancel_ground (s : State) (p : List Byte) : (s.cancel p).1.ground = s.ground := by
  unfold State.cancel
  repeat' split
  all_goals simp
@[simp] theorem State.departed_ground (s : State) (p : List Byte) : (s.departed p).1.ground = s.ground := by
  unfold State.departed
  repeat' split
  all_goals simp
@[simp] theorem State.evacuate_ground (s : State) (p : List Byte) : (s.evacuate p).1.ground = s.ground := by
  unfold State.evacuate
  repeat' split
  all_goals simp
@[simp] theorem State.berthQuery_ground (s : State) (p : List Byte) : (s.berthQuery p).1.ground = s.ground := by
  unfold State.berthQuery
  split <;> rfl
@[simp] theorem State.alignDetail_ground (s : State) (p : List Byte) : (s.alignDetail p).1.ground = s.ground := by
  unfold State.alignDetail
  repeat' split
  all_goals rfl
@[simp] theorem State.doorQuery_ground (s : State) (p : List Byte) : (s.doorQuery p).1.ground = s.ground := by
  unfold State.doorQuery
  split <;> rfl
@[simp] theorem State.edgeQuery_ground (s : State) : s.edgeQuery.1.ground = s.ground := by
  unfold State.edgeQuery
  dsimp only
  split <;> rfl
@[simp] theorem State.tableRead_fst (s : State) (p : List Byte) : (s.tableRead p).1 = s := by
  unfold State.tableRead
  dsimp only
  repeat' split
  all_goals rfl
@[simp] theorem State.modeEnter_ground (s : State) (p : List Byte) : (s.modeEnter p).1.ground = s.ground := by
  unfold State.modeEnter
  repeat' split
  all_goals simp
@[simp] theorem State.modeExit_ground (s : State) (p : List Byte) : (s.modeExit p).1.ground = s.ground := by
  unfold State.modeExit
  repeat' split
  all_goals simp
@[simp] theorem State.doorCommand_ground (s : State) (p : List Byte) : (s.doorCommand p).1.ground = s.ground := by
  unfold State.doorCommand
  repeat' split
  all_goals simp
@[simp] theorem State.resetLatch_ground (s : State) (p : List Byte) : (s.resetLatch p).1.ground = s.ground := by
  unfold State.resetLatch
  split <;> simp
@[simp] theorem State.ringTestStart_ground (s : State) : s.ringTestStart.1.ground = s.ground := by
  unfold State.ringTestStart
  split <;> rfl
@[simp] theorem State.ringTestStop_ground (s : State) : s.ringTestStop.1.ground = s.ground := by
  unfold State.ringTestStop
  split <;> simp
@[simp] theorem State.ringTestInsert_ground (s : State) (p : List Byte) : (s.ringTestInsert p).1.ground = s.ground := by
  unfold State.ringTestInsert
  dsimp only
  repeat' split
  all_goals simp
@[simp] theorem State.ringTestResult_fst (s : State) (p : List Byte) : (s.ringTestResult p).1 = s := by
  unfold State.ringTestResult
  repeat' split
  all_goals rfl
@[simp] theorem State.eventAck_ground (s : State) (p : List Byte) : (s.eventAck p).1.ground = s.ground := by
  unfold State.eventAck
  split <;> rfl
@[simp] theorem State.eventMask_ground (s : State) (p : List Byte) : (s.eventMask p).1.ground = s.ground := rfl
@[simp] theorem State.snapshot_ground (s : State) : s.snapshot.1.ground = s.ground := rfl
@[simp] theorem State.counterRead_fst (s : State) (p : List Byte) : (s.counterRead p).1 = s := by
  unfold State.counterRead
  repeat' split
  all_goals rfl

/-! # The Table Store -/

/-! ## What a table write does to the ground (R12): the one entry, and nothing else -/

theorem State.writePdt_ground (s : State) (d : DoorNo) (e : PdtEntry) :
    (s.writePdt d e).ground = (s.setTables { s.ts.tables with pdt := s.ts.tables.pdt.set d e }).ground := by
  unfold State.writePdt
  dsimp only
  split
  next same =>
    rw [show s.ts.tables.pdt.set d e = s.ts.tables.pdt by rw [same]; exact Vector.set_getElem_self _]
    rfl
  · rw [State.handProofOfZone_ground, State.judgeLoops_ground]
    repeat' split
    all_goals simp

theorem State.writeClass_ground (s : State) (i : Fin 4) (c : DriveClass) :
    (s.writeClass i c).ground = (s.setTables { s.ts.tables with classes := s.ts.tables.classes.set i (some c) }).ground := by
  unfold State.writeClass
  dsimp only
  split
  · exact forDoors_keeps _ _ (fun d s => s.clampEffort_ground d) _ _
  · rfl

theorem State.writeSensing_ground (s : State) (i : Fin 8) (p : SensingProfile) :
    (s.writeSensing i p).ground
      = (s.setTables { s.ts.tables with profiles := s.ts.tables.profiles.set i (some p) }).ground :=
  forDoors_keeps _ _ (fun d s => s.applyProfile_ground d) _ _

theorem State.writeSettings_ground (s : State) (c : Settings) :
    (s.writeSettings c).ground = (s.setTables { s.ts.tables with settings := c }).ground := by
  unfold State.writeSettings
  dsimp only
  simp only [State.judgeLoops_ground, State.refitPanel_ground]
  split <;> rfl

theorem State.writePdt_ts (s : State) (d : DoorNo) (e : PdtEntry) :
    (s.writePdt d e).ts = { s.ts with tables := { s.ts.tables with pdt := s.ts.tables.pdt.set d e } } :=
  ts_of_ground (s.writePdt_ground d e)
theorem State.writeClass_ts (s : State) (i : Fin 4) (c : DriveClass) :
    (s.writeClass i c).ts = { s.ts with tables := { s.ts.tables with classes := s.ts.tables.classes.set i (some c) } } :=
  ts_of_ground (s.writeClass_ground i c)
theorem State.writeSensing_ts (s : State) (i : Fin 8) (p : SensingProfile) :
    (s.writeSensing i p).ts = { s.ts with tables := { s.ts.tables with profiles := s.ts.tables.profiles.set i (some p) } } :=
  ts_of_ground (s.writeSensing_ground i p)
theorem State.writeSettings_ts (s : State) (c : Settings) :
    (s.writeSettings c).ts = { s.ts with tables := { s.ts.tables with settings := c } } :=
  ts_of_ground (s.writeSettings_ground c)

/-- The Table Store of `t` is that of `s`, but for tables that hold the same stock profiles. -/
def SameStock (s t : State) : Prop := ∃ u : Tables, t.ts = { s.ts with tables := u } ∧ u.stock = s.ts.tables.stock

theorem SameStock.refl (s : State) : SameStock s s := ⟨s.ts.tables, rfl, rfl⟩

theorem State.writeEntry_sameStock (s : State) (t : TableId) (i : Nat) (p : List Byte) : SameStock s (s.writeEntry t i p).1 := by
  cases t <;> simp only [State.writeEntry]
  case pdt =>
    split
    · exact .refl s
    · exact .refl s
    · exact ⟨_, s.writePdt_ts _ _, rfl⟩
  case driveClass =>
    split
    · exact .refl s
    · exact .refl s
    · exact ⟨_, s.writeClass_ts _ _, rfl⟩
  case sensingProfile =>
    split
    · exact .refl s
    · exact .refl s
    · exact ⟨_, s.writeSensing_ts _ _, rfl⟩
  case settings =>
    split
    · exact .refl s
    · split
      · exact ⟨_, s.writeSettings_ts _, rfl⟩
      · exact .refl s
  case profile => exact .refl s
  case store => exact .refl s

/-- A TABLE_WRITE leaves the Table Store but its tables, and of the tables the stock profiles. -/
theorem State.tableWrite_sameStock (s : State) (p : List Byte) : SameStock s (s.tableWrite p).1 := by
  unfold State.tableWrite
  iterate 3 (split; · exact .refl s)
  split
  · exact .refl s
  · exact .refl s
  · exact .refl s
  · split
    · exact .refl s
    · exact s.writeEntry_sameStock _ _ p

/-! ## The pools (R14) -/

/-- A sum over a list with one entry replaced. -/
theorem sum_map_set {α : Type} (f : α → Nat) (x : α) (l : List α) (i : Nat) (h : i < l.length) :
    ((l.set i x).map f).sum + f l[i] = (l.map f).sum + f x := by
  induction l generalizing i with
  | nil => exact absurd h (Nat.not_lt_zero i)
  | cons y l ih =>
    cases i with
    | zero => simp only [List.set_cons_zero, List.map_cons, List.sum_cons, List.getElem_cons_zero]; omega
    | succ i =>
      have rest := ih i (Nat.lt_of_succ_lt_succ h)
      simp only [List.set_cons_succ, List.map_cons, List.sum_cons, List.getElem_cons_succ]
      omega

theorem StockProfile.emptyProfile_carsHeld : StockProfile.emptyProfile.carsHeld = 0 := rfl
theorem StockProfile.emptyProfile_doorsHeld : StockProfile.emptyProfile.doorsHeld = 0 := rfl

/-- A sum over the stock profiles with one profile replaced. -/
theorem Tables.sum_stock_set (t : Tables) (f : StockProfile → Nat) (id : Fin 16) (q : StockProfile) :
    ((t.stock.set id q).toList.map f).sum + f t.stock[id] = (t.stock.toList.map f).sum + f q := by
  have h := sum_map_set f q t.stock.toList id (by simp)
  simpa [Vector.toList_set] using h

/-- No record is held by empty tables. -/
theorem Tables.empty_holds_nothing : Tables.empty.carsHeld = 0 ∧ Tables.empty.doorsHeld = 0 := by decide

theorem PoolInv.of_ts {s t : State} (h : PoolInv s) (e : t.ts = s.ts) : PoolInv t := by
  unfold PoolInv at *
  rwa [e]

theorem PoolInv.of_ground {s t : State} (h : PoolInv s) (e : t.ground = s.ground) : PoolInv t :=
  h.of_ts (State.ts_of_ground e)

/-- A change of tables that leaves the stock profiles keeps the pools. -/
theorem PoolInv.of_sameStock {s t : State} (h : PoolInv s) (same : SameStock s t) : PoolInv t := by
  obtain ⟨u, e, stock⟩ := same
  unfold PoolInv Tables.carsHeld Tables.doorsHeld at *
  rw [e]
  simpa only [stock] using h

/-- A profile replaced by one that the pools and its own old records can fill keeps the pools whole (R14). -/
theorem PoolInv.setProfile {s : State} (h : PoolInv s) (id : Fin 16) (q : StockProfile)
    (cars : q.carsHeld ≤ s.ts.freeCars + (s.stock id).carsHeld)
    (doors : q.doorsHeld ≤ s.ts.freeDoors + (s.stock id).doorsHeld) : PoolInv (s.setProfile id q) := by
  have sumCars := s.ts.tables.sum_stock_set StockProfile.carsHeld id q
  have sumDoors := s.ts.tables.sum_stock_set StockProfile.doorsHeld id q
  unfold PoolInv Tables.carsHeld Tables.doorsHeld at *
  simp only [State.setProfile, State.stock] at *
  omega

theorem PoolInv.profileBegin {s : State} (h : PoolInv s) (p : List Byte) : PoolInv (s.profileBegin p).1 := by
  unfold State.profileBegin
  split; · exact h
  split; · exact h
  next id _ =>
  iterate 4 (split; · exact h)
  next enough =>
  refine h.setProfile id _ ?_ ?_
  · simpa [StockProfile.carsHeld] using enough
  · simp [StockProfile.doorsHeld, carDoors]

/-- A profile with car `c` of it written holds as many cars, and the written car's doors in place of the old ones'. -/
theorem StockProfile.writeCar_holds (q : StockProfile) {c : Nat} (car : Car) (h : c - 1 < q.cars.length) :
    (q.writeCar c car).carsHeld = q.carsHeld
      ∧ (q.writeCar c car).doorsHeld + carDoors ((q.cars[c - 1]?).getD none) = q.doorsHeld + carDoors (some car) := by
  refine ⟨by simp [StockProfile.writeCar, StockProfile.carsHeld], ?_⟩
  have sum := sum_map_set carDoors (some car) q.cars (c - 1) h
  simpa [StockProfile.writeCar, StockProfile.doorsHeld, List.getElem?_eq_getElem h] using sum

theorem PoolInv.profileCar {s : State} (h : PoolInv s) (p : List Byte) : PoolInv (s.profileCar p).1 := by
  unfold State.profileCar
  split; · exact h
  split; · exact h
  next id _ =>
  dsimp only
  split; · exact h
  next number =>
  split; · exact h
  split; · exact h
  next length =>
  iterate 4 (split; · exact h)
  split; · exact h
  next enough =>
  have inProfile : u8 p 1 - 1 < (s.stock id).cars.length := by omega
  obtain ⟨cars, doors⟩ := (s.stock id).writeCar_holds (carAt p) inProfile
  exact h.setProfile id _ (by omega) (by omega)

theorem PoolInv.profileDelete {s : State} (h : PoolInv s) (p : List Byte) : PoolInv (s.profileDelete p).1 := by
  unfold State.profileDelete
  split; · exact h
  split; · exact h
  next id _ =>
  split; · exact h
  refine h.setProfile id _ ?_ ?_
  · rw [StockProfile.emptyProfile_carsHeld]; exact Nat.zero_le _
  · rw [StockProfile.emptyProfile_doorsHeld]; exact Nat.zero_le _

/-- The load leaves the pools whole: a good image holds no more than there are, and empty tables hold none (R14, R22). -/
theorem poolInv_of_load {s t : State} (e : t.ts = s.ts.load) : PoolInv t := by
  unfold PoolInv
  rw [e]
  unfold TableStore.load
  split
  next good =>
    have fits : s.ts.image.contents.carsHeld ≤ 96 ∧ s.ts.image.contents.doorsHeld ≤ 320 := by
      simp only [Image.good, Tables.good, Bool.and_eq_true, decide_eq_true_eq] at good
      exact good.2.2
    simp only
    omega
  · simp [Tables.empty_holds_nothing]

/-- Every reset leaves empty tables and whole pools (R14, R215). -/
theorem poolInv_resetAll (s : State) (ph : Phase) (k : ResetKind) : PoolInv (s.resetAll ph k) := by
  show 96 + Tables.empty.carsHeld = 96 ∧ 320 + Tables.empty.doorsHeld = 320
  simp [Tables.empty_holds_nothing]

theorem poolInv_startUp (s : State) (k : ResetKind) : PoolInv (s.startUp k) := by
  unfold State.startUp
  split <;> exact poolInv_resetAll _ _ _

/-! ## Saving and loading the image (R20 to R22) -/

theorem State.beginWork_ts (s : State) : s.beginWork.ts = s.ts.load := by
  have loaded : s.loadTables.ts = s.ts.load := by
    apply (State.ts_of_ground (State.refitPanel_ground _ _)).trans
    apply (State.ts_of_ground (State.refitPanel_ground _ _)).trans
    exact State.ts_of_ground (State.takeConfigured_ground _)
  have worked : (((s.loadTables.startCycle 0).judgeLoops.takeFire)).ground = s.loadTables.ground := by simp
  exact (State.ts_of_ground worked).trans loaded

/-- The end of a save changes neither the loaded tables nor the pools (R21). -/
theorem PoolInv.failSave {s : State} (h : PoolInv s) : PoolInv s.failSave := h

theorem PoolInv.succeedSave {s : State} (h : PoolInv s) : PoolInv s.succeedSave := by
  have saved : PoolInv { s with ts := { s.ts with
      saveState := .idle, imageState := .valid, config := .configured, image := { s.ts.image with validMark := true } } } := h
  refine PoolInv.of_ground (t := s.succeedSave) saved ?_
  unfold State.succeedSave State.answerSave
  dsimp only
  split <;> simp

theorem PoolInv.storeSave {s : State} (h : PoolInv s) : PoolInv s.storeSave.1 := by
  unfold State.storeSave
  repeat' split
  all_goals exact h

/-! ## The pools over one step -/

/-- A request keeps the pools where its owner does. -/
theorem PoolInv.takeRequest {s : State} (h : PoolInv s) (k : Kind) (src : Byte) (p : List Byte)
    {owner : State → State × Answer} (owned : PoolInv s.popRequest → PoolInv (owner s.popRequest).1) :
    PoolInv (s.takeRequest k src p owner) :=
  State.takeRequest_keeps k src p (fun t a h => h.of_ground (t.answer_ground src k.code a)) (fun h => h) owned h

/-- A request whose owner keeps the ground keeps the pools. -/
theorem PoolInv.takeRequest_ground {s : State} (h : PoolInv s) (k : Kind) (src : Byte) (p : List Byte)
    {owner : State → State × Answer} (owned : ∀ u : State, (owner u).1.ground = u.ground) :
    PoolInv (s.takeRequest k src p owner) := h.takeRequest k src p fun h => h.of_ground (owned _)

/-- Where a command's next state is known, what holds of it holds of the state it ends in. -/
theorem of_next {P : State → Prop} {u t : State} (h : P u) (e : (.next u : Host.Outcome State Fault Refusal) = .next t) :
    P t := Host.Outcome.next.inj e ▸ h

theorem exec_keeps_pools {s t : State} (i : Instr) (h : PoolInv s) (e : exec i s = .next t) : PoolInv t := by
  have kept : ∀ {c : Prop} [Decidable c] {u : State}, (c → PoolInv u) → PoolInv (if c then u else s) := by
    intro c _ u hu
    split
    next hc => exact hu hc
    next => exact h
  cases i with
  | lineRunReceived run => exact of_next (kept fun _ => h.of_ground (s.takeRun_ground run)) e
  | linkTimeout =>
    refine of_next ?_ e
    split
    · exact h
    · exact h.of_ground s.expireLink_ground
  | transmitComplete => exact of_next (kept (u := { s with lli := LineLink.pump { s.lli with sending := none } }) fun _ => h) e
  | unknownKindRequest src kind p => exact of_next (kept fun _ => h.of_ground (s.popRequest.answer_ground _ _ _)) e
  | arrival src p => exact of_next (h.takeRequest_ground _ _ _ fun u => u.arrival_ground p) e
  | stopReport src p => exact of_next (h.takeRequest_ground _ _ _ fun u => u.stopReport_ground p) e
  | release src p => exact of_next (h.takeRequest_ground _ _ _ fun u => u.release_ground p) e
  | close src p => exact of_next (h.takeRequest_ground _ _ _ fun u => u.close_ground p) e
  | cancel src p => exact of_next (h.takeRequest_ground _ _ _ fun u => u.cancel_ground p) e
  | departed src p => exact of_next (h.takeRequest_ground _ _ _ fun u => u.departed_ground p) e
  | evacuate src p => exact of_next (h.takeRequest_ground _ _ _ fun u => u.evacuate_ground p) e
  | berthQuery src p => exact of_next (h.takeRequest_ground _ _ _ fun u => u.berthQuery_ground p) e
  | alignDetail src p => exact of_next (h.takeRequest_ground _ _ _ fun u => u.alignDetail_ground p) e
  | doorQuery src p => exact of_next (h.takeRequest_ground _ _ _ fun u => u.doorQuery_ground p) e
  | edgeQuery src p => exact of_next (h.takeRequest_ground _ _ _ fun u => u.edgeQuery_ground) e
  | ident src p => exact of_next (h.takeRequest _ _ _ fun h => h) e
  | tableWrite src p =>
    exact of_next (h.takeRequest _ _ _ fun h => h.of_sameStock (s.popRequest.tableWrite_sameStock p)) e
  | tableRead src p => exact of_next (h.takeRequest _ _ _ fun h => h.of_ts (by rw [State.tableRead_fst])) e
  | profileBegin src p => exact of_next (h.takeRequest _ _ _ fun h => h.profileBegin p) e
  | profileCar src p => exact of_next (h.takeRequest _ _ _ fun h => h.profileCar p) e
  | profileDelete src p => exact of_next (h.takeRequest _ _ _ fun h => h.profileDelete p) e
  | storeSave src p => exact of_next (h.takeRequest _ _ _ fun h => h.storeSave) e
  | storeSaveComplete ok =>
    refine of_next (kept fun _ => ?_) e
    split
    · exact h.succeedSave
    · exact h.failSave
  | storeSaveTimeout => exact of_next (kept fun _ => h.failSave) e
  | modeEnter src p => exact of_next (h.takeRequest_ground _ _ _ fun u => u.modeEnter_ground p) e
  | modeExit src p => exact of_next (h.takeRequest_ground _ _ _ fun u => u.modeExit_ground p) e
  | doorCommand src p => exact of_next (h.takeRequest_ground _ _ _ fun u => u.doorCommand_ground p) e
  | resetLatch src p => exact of_next (h.takeRequest_ground _ _ _ fun u => u.resetLatch_ground p) e
  | ringTestStart src p => exact of_next (h.takeRequest_ground _ _ _ fun u => u.ringTestStart_ground) e
  | ringTestStop src p => exact of_next (h.takeRequest_ground _ _ _ fun u => u.ringTestStop_ground) e
  | ringTestInsert src p => exact of_next (h.takeRequest_ground _ _ _ fun u => u.ringTestInsert_ground p) e
  | ringTestResult src p => exact of_next (h.takeRequest _ _ _ fun h => h.of_ts (by rw [State.ringTestResult_fst])) e
  | eventAck src p => exact of_next (h.takeRequest_ground _ _ _ fun u => u.eventAck_ground p) e
  | eventMask src p => exact of_next (h.takeRequest_ground _ _ _ fun u => u.eventMask_ground p) e
  | changeMap src p => exact of_next (h.takeRequest _ _ _ fun h => h) e
  | snapshot src p => exact of_next (h.takeRequest_ground _ _ _ fun u => u.snapshot_ground) e
  | counterRead src p => exact of_next (h.takeRequest _ _ _ fun h => h.of_ts (by rw [State.counterRead_fst])) e
  | partReset src p => exact of_next (h.takeRequest _ _ _ fun _ => poolInv_startUp _ _) e
  | powerOn => exact of_next (poolInv_startUp _ _) e
  | supplyDip => exact of_next (poolInv_startUp _ _) e
  | resetLineAsserted => exact of_next (poolInv_resetAll _ _ _) e
  | resetLineReleased => exact of_next (kept fun _ => poolInv_startUp _ _) e
  | startingEnd => exact of_next (kept fun _ => poolInv_of_load s.beginWork_ts) e
  | fireChange level =>
    refine of_next ?_ e
    split
    · exact PoolInv.of_ground (s := { s with firePin := level }) h (State.takeFire_ground _)
    · exact h
  | ringCopyReceived port copy => exact of_next (kept (u := { s with drm := s.drm.takeCopy port copy }) fun _ => h) e
  | cycleClose order => exact of_next (kept fun _ => h.of_ground (s.closeCycle_ground order)) e
  | motionTimeout d => exact of_next (h.of_ground (s.motionExpiry_ground d)) e
  | lockProofTimeout d => exact of_next (h.of_ground (s.lockProofExpiry_ground d)) e
  | recloseTimeout d => exact of_next (h.of_ground (s.recloseExpiry_ground d)) e
  | proofTimeout b => exact of_next (kept fun _ => h.of_ground (by simp)) e
  | autoSnapshotTimeout =>
    refine of_next ?_ e
    split <;> exact h
  | supplyFall => exact of_next (poolInv_resetAll _ _ _) e

/-- A step is the front command's, carried out with the queue's rest, or none. -/
theorem step_cases {s t : State} (e : step s = .next t) :
    (∃ (c : Instr) (rest : List Instr), s.pending = c :: rest ∧ exec c { s with pending := rest } = .next t)
      ∨ (s.pending = [] ∧ t = s) := by
  unfold step at e
  split at e
  next c rest hp => exact .inl ⟨c, rest, hp, e⟩
  next hp => exact .inr ⟨hp, (Host.Outcome.next.inj e).symm⟩

/-- Settles O56: a command keeps the Table Store as it was but for the requests to it, the resets and the load, and each of these
keeps or makes the pools whole. -/
theorem poolInvKept : Obligations.PoolInvKept := by
  intro s t h e
  rcases step_cases e with ⟨c, rest, -, carried⟩ | ⟨-, rfl⟩
  · exact exec_keeps_pools (s := { s with pending := rest }) c h carried
  · exact h

end Sys2Proof.Machine

namespace Sys2Proof.Machine

/-! # Requests that are taken

What a request that stands first and passes the checks of R25 leads to, by what its owner answers (R27, R28). -/

/-- A request that is taken is carried out by its owner, whose answer is offered last. -/
theorem State.takeRequest_taken {s : State} {k : Kind} {src : Byte} {p : List Byte} (h : Taken s k src p)
    (owner : State → State × Answer) :
    s.takeRequest k src p owner = (owner s.popRequest).1.answer src k.code (owner s.popRequest).2 := by
  obtain ⟨⟨running, up, first⟩, sender, size⟩ := h
  have next : s.nextRequest = some { src := src, kind := k.code, payload := p } := by simp [State.nextRequest, running, up, first]
  rcases s.takeRequest_cases k src p owner with ⟨e, -⟩ | ⟨-, e, -⟩ | ⟨-, -, e, -⟩ | ⟨-, -, -, e⟩
  · exact absurd next e
  · rw [sender] at e; exact absurd e (by decide)
  · exact absurd size e
  · exact e

/-- A request that its owner refuses changes nothing but the request order, and is answered with the code. -/
theorem State.takeRequest_refused {s : State} {k : Kind} {src : Byte} {p : List Byte} (h : Taken s k src p)
    {owner : State → State × Answer} {c : Code} {f : Nat} (e : owner s.popRequest = refuse s.popRequest c f) :
    s.takeRequest k src p owner = s.popRequest.refused k.code src c f := by
  rw [State.takeRequest_taken h, e]; rfl

/-- A request that its owner accepts is answered with the owner's data, after what the owner did. -/
theorem State.takeRequest_accepted {s t : State} {k : Kind} {src : Byte} {p : List Byte} (h : Taken s k src p)
    {owner : State → State × Answer} {data : List Byte} (e : owner s.popRequest = (t, .accepted data)) :
    s.takeRequest k src p owner = t.accepted k src data := by
  rw [State.takeRequest_taken h, e]; rfl

/-- An owner that refuses where its checks name a code, and otherwise acts. -/
def State.unlessRefused (s : State) (refusal : Option (Code × Nat)) (act : State × Answer) : State × Answer :=
  refusal.elim act fun r => refuse s r.1 r.2

@[simp] theorem State.unlessRefused_none (s : State) (act : State × Answer) : s.unlessRefused none act = act := rfl
@[simp] theorem State.unlessRefused_some (s : State) (c : Code) (f : Nat) (act : State × Answer) :
    s.unlessRefused (some (c, f)) act = refuse s c f := rfl
/-- The checks of an owner, one after another. -/
theorem State.unlessRefused_ite (s : State) (b : Prop) [Decidable b] (r r' : Option (Code × Nat)) (act : State × Answer) :
    s.unlessRefused (if b then r else r') act = if b then s.unlessRefused r act else s.unlessRefused r' act :=
  apply_ite (fun r => s.unlessRefused r act) b r r'

/-! ## Fields of a payload -/

theorem profileAt_eq (p : List Byte) (i : Nat) :
    profileAt p i = if 15 < u8 p i then none else some (Fin.ofNat 16 (u8 p i)) := by
  unfold profileAt
  by_cases h : u8 p i < 16
  · rw [dif_pos h, if_neg (by omega)]
    simp [Fin.ofNat, Nat.mod_eq_of_lt h]
  · rw [dif_neg h, if_pos (by omega)]

theorem tableAt_eq_none {p : List Byte} {i : Nat} (h : 5 < u8 p i) : tableAt p i = none := by
  unfold tableAt
  split
  case _ e | _ e | _ e | _ e | _ e | _ e => omega
  case _ => rfl

/-! # TABLE_READ (R13) -/

theorem State.tableRead_unknown (s : State) {p : List Byte} (h : tableAt p 0 = none) :
    s.tableRead p = refuse s .range 1 := by
  simp [State.tableRead, h]

theorem State.tableRead_beyond (s : State) {p : List Byte} {t : TableId} (h : tableAt p 0 = some t)
    (beyond : t.indices ≤ u8 p 1) : s.tableRead p = refuse s .range 2 := by
  simp [State.tableRead, h, beyond]

/-- The data of the entry that a read names, once its table and its index are in range; none for a car that the profile does not
hold. -/
def State.readData (s : State) (p : List Byte) : TableId → Option (List Byte)
  | .pdt => some (pdtData (s.pdt (Fin.ofNat 48 (u8 p 1))))
  | .driveClass => some (driveClassData s.ts.tables.classes[Fin.ofNat 4 (u8 p 1)])
  | .sensingProfile => some (sensingData s.ts.tables.profiles[Fin.ofNat 8 (u8 p 1)])
  | .settings => some (settingsData s.settings)
  | .store => some (storeData s.ts)
  | .profile =>
    if u8 p 2 = 0 then some (profileHeaderData (s.stock (Fin.ofNat 16 (u8 p 1))) (s.referenced (Fin.ofNat 16 (u8 p 1))))
    else ((s.stock (Fin.ofNat 16 (u8 p 1))).cars[u8 p 2 - 1]?).map carData

theorem State.tableRead_within (s : State) {p : List Byte} {t : TableId} (h : tableAt p 0 = some t)
    (within : u8 p 1 < t.indices) : s.tableRead p = (s.readData p t).elim (refuse s .range 3) fun data =>
      (s, .accepted (enc1 (u8 p 0) ++ enc1 (u8 p 1) ++ data)) := by
  have inRange : ¬ t.indices ≤ u8 p 1 := Nat.not_le.mpr within
  simp only [State.tableRead, h, if_neg inRange]
  cases t with
  | profile =>
    simp only [State.readData]
    split
    · rfl
    · split
      next c e => rw [e]; rfl
      next e => rw [e]; rfl
  | pdt | driveClass | sensingProfile | settings | store => rfl

/-- Settles O49: the table that field 1 names is read, its index and, of a stock profile, its car in range. -/
theorem tableReadReads : Obligations.TableReadReads := by
  intro s src p taken i id refusedAt reads
  have refuses : ∀ f : Nat, s.popRequest.tableRead p = refuse s.popRequest .range f → refusedAt f := fun f e =>
    congrArg Host.Outcome.next (State.takeRequest_refused taken e)
  have beyond : ∀ t : TableId, tableAt p 0 = some t → t.indices ≤ i → refusedAt 2 := fun t h hi =>
    refuses 2 (s.popRequest.tableRead_beyond h hi)
  have within : ∀ (t : TableId) (data : List Byte), tableAt p 0 = some t → i < t.indices → s.readData p t = some data →
      reads data := fun t data h hi e =>
    congrArg Host.Outcome.next (State.takeRequest_accepted taken (by
      rw [State.tableRead_within _ h hi, show s.popRequest.readData p t = some data from e]; rfl))
  refine ⟨fun h => refuses 1 (s.popRequest.tableRead_unknown (tableAt_eq_none h)), fun h => ?_, fun h => ?_, fun h => ?_,
    fun h => ?_, fun h => ?_, fun h => ?_⟩
  · have named : tableAt p 0 = some .pdt := by simp [tableAt, h]
    exact ⟨beyond _ named, fun hi => within _ _ named (Nat.lt_succ_of_le hi) rfl⟩
  · have named : tableAt p 0 = some .driveClass := by simp [tableAt, h]
    exact ⟨beyond _ named, fun hi => within _ _ named (Nat.lt_succ_of_le hi) rfl⟩
  · have named : tableAt p 0 = some .sensingProfile := by simp [tableAt, h]
    exact ⟨beyond _ named, fun hi => within _ _ named (Nat.lt_succ_of_le hi) rfl⟩
  · have named : tableAt p 0 = some .settings := by simp [tableAt, h]
    exact ⟨beyond _ named, fun hi => within _ _ named (hi ▸ Nat.one_pos) rfl⟩
  · have named : tableAt p 0 = some .profile := by simp [tableAt, h]
    refine ⟨beyond _ named, fun hi hc => within _ _ named (Nat.lt_succ_of_le hi) (if_pos hc), fun hi hc => refuses 3 ?_,
      fun c hi hc car => within _ _ named (Nat.lt_succ_of_le hi) ?_⟩
    · have noCar : (s.stock id).cars[u8 p 2 - 1]? = none := List.getElem?_eq_none (by omega)
      have noData : s.popRequest.readData p .profile = none :=
        (if_neg (by omega)).trans (congrArg (Option.map carData) noCar)
      rw [State.tableRead_within _ named (Nat.lt_succ_of_le hi), noData]
      rfl
    · exact (if_neg (by omega)).trans (congrArg (Option.map carData) car)
  · have named : tableAt p 0 = some .store := by simp [tableAt, h]
    exact ⟨beyond _ named, fun hi => within _ _ named (hi ▸ Nat.one_pos) rfl⟩

/-! # The stock profiles (R16 to R18) -/

theorem State.profileBegin_eq (s : State) (p : List Byte) :
    s.profileBegin p = s.unlessRefused (profileBeginRefusal s p)
      (s.setProfile (Fin.ofNat 16 (u8 p 0)) { state := .building, cars := List.replicate (u8 p 1) none, allowance := u16 p 2 },
        .ok) := by
  simp only [State.profileBegin, profileBeginRefusal, State.unlessRefused_ite, State.unlessRefused_some,
    State.unlessRefused_none, profileAt_eq]
  by_cases h : 15 < u8 p 0
  · simp only [if_pos h]
  · simp only [if_neg h]

theorem State.profileCar_eq (s : State) (p : List Byte) :
    s.profileCar p = s.unlessRefused (profileCarRefusal s p)
      (s.setProfile (Fin.ofNat 16 (u8 p 0)) ((s.stock (Fin.ofNat 16 (u8 p 0))).writeCar (u8 p 1) (carAt p)), .ok) := by
  simp only [State.profileCar, profileCarRefusal, State.unlessRefused_ite, State.unlessRefused_some,
    State.unlessRefused_none, profileAt_eq]
  by_cases h : 15 < u8 p 0
  · simp only [if_pos h]
  · simp only [if_neg h]
    rfl

theorem State.profileDelete_eq (s : State) (p : List Byte) :
    s.profileDelete p = s.unlessRefused (profileDeleteRefusal s p)
      (s.setProfile (Fin.ofNat 16 (u8 p 0)) .emptyProfile, .ok) := by
  simp only [State.profileDelete, profileDeleteRefusal, State.unlessRefused_ite, State.unlessRefused_some,
    State.unlessRefused_none, profileAt_eq]
  by_cases h : 15 < u8 p 0
  · simp only [if_pos h]
  · simp only [if_neg h]

/-- A profile is VALID once every car is written (R17). -/
theorem StockProfile.writeCar_eq (q : StockProfile) (c : Nat) (car : Car) {cars : List (Option Car)}
    (h : q.cars.set (c - 1) (some car) = cars) :
    q.writeCar c car = { q with cars := cars, state := if ∀ x ∈ cars, x ≠ none then .valid else q.state } := by
  simp only [StockProfile.writeCar, h, List.all_eq_true, Option.isSome_iff_ne_none]

/-- Settles O50: each owner is its checks, read off the payload, in front of the replacement of one profile. -/
theorem profileRequests : Obligations.ProfileRequests := by
  intro s src p id old set
  refine ⟨fun c f => ⟨fun taken e => ?_, fun taken e => ?_, fun taken e => ?_⟩, fun taken e => ?_, fun taken e => ?_,
    fun taken e => ?_⟩
  · exact congrArg Host.Outcome.next (State.takeRequest_refused taken (by
      rw [State.profileBegin_eq, show profileBeginRefusal s.popRequest p = _ from e]; rfl))
  · exact congrArg Host.Outcome.next (State.takeRequest_refused taken (by
      rw [State.profileCar_eq, show profileCarRefusal s.popRequest p = _ from e]; rfl))
  · exact congrArg Host.Outcome.next (State.takeRequest_refused taken (by
      rw [State.profileDelete_eq, show profileDeleteRefusal s.popRequest p = _ from e]; rfl))
  · exact congrArg Host.Outcome.next (State.takeRequest_accepted taken (by
      rw [State.profileBegin_eq, show profileBeginRefusal s.popRequest p = _ from e]; rfl))
  · exact congrArg Host.Outcome.next (State.takeRequest_accepted taken (by
      rw [State.profileCar_eq, show profileCarRefusal s.popRequest p = _ from e, StockProfile.writeCar_eq _ _ _ rfl]; rfl))
  · exact congrArg Host.Outcome.next (State.takeRequest_accepted taken (by
      rw [State.profileDelete_eq, show profileDeleteRefusal s.popRequest p = _ from e]; rfl))

/-! # The nonvolatile image (R20, R21) -/

theorem State.present_eq_false {s : State} {k : OverrideKind} : s.present k = false ↔ k ∉ s.ou.list := by
  simp [State.present]

/-- What the end of a save that succeeded leaves beside the Table Store: with the part CONFIGURED before, everything but the answer;
otherwise what judging both loops may change. -/
theorem State.succeedSave_eq (s : State) :
    ∃ t : State, s.succeedSave = t.accepted .storeSave srcSupervisor [0x00]
      ∧ t.ts = { s.ts with saveState := .idle, imageState := .valid, config := .configured
                           image := { s.ts.image with validMark := true } }
      ∧ Handed { s with ts := t.ts } t ∧ (s.ts.config = .configured → t = { s with ts := t.ts }) := by
  unfold State.succeedSave
  dsimp only
  split
  next unconfigured =>
    have handed := State.judgeLoops_handed { s with ts := { s.ts with
      saveState := .idle, imageState := .valid, config := .configured, image := { s.ts.image with validMark := true } } }
    refine ⟨_, rfl, handed.ts, ?_, fun configured => ?_⟩
    · rw [handed.ts]; exact handed
    · rw [unconfigured] at configured; exact absurd configured (by decide)
  · exact ⟨_, rfl, rfl, .refl _, fun _ => rfl⟩

/-- Settles O51: the checks of STORE_SAVE, and each end of a save. -/
theorem storeSaves : Obligations.StoreSaves := by
  intro s
  refine ⟨fun src p taken => ⟨fun maint => ?_, fun maint saving => ?_, fun maint idle => ?_⟩, fun saving => ?_, fun idle => ?_⟩
  · have absent : s.popRequest.present .maint = false := State.present_eq_false.mpr maint
    exact congrArg Host.Outcome.next (State.takeRequest_refused taken (if_pos absent))
  · have present : ¬ s.popRequest.present .maint = false := fun h => State.present_eq_false.mp h maint
    exact congrArg Host.Outcome.next (State.takeRequest_refused taken ((if_neg present).trans (if_pos saving)))
  · have present : ¬ s.popRequest.present .maint = false := fun h => State.present_eq_false.mp h maint
    have free : ¬ s.popRequest.ts.saveState = .saving := by rw [State.popRequest_ts, idle]; decide
    have begun : s.popRequest.storeSave = (s.popRequest.beginSave, .deferred) := (if_neg present).trans (if_neg free)
    refine congrArg Host.Outcome.next ((State.takeRequest_taken taken _).trans ?_)
    rw [begun]
    rfl
  · refine ⟨congrArg Host.Outcome.next (if_pos saving), congrArg Host.Outcome.next (if_pos saving), ?_⟩
    obtain ⟨t, e, ts, handed, frame⟩ := s.succeedSave_eq
    exact ⟨t, congrArg Host.Outcome.next ((if_pos saving).trans e), ts, handed.doors, handed.zones, handed.ou, handed.drm, frame⟩
  · have done : ¬ s.ts.saveState = .saving := by rw [idle]; decide
    exact ⟨congrArg Host.Outcome.next (if_neg done), fun ok => congrArg Host.Outcome.next (if_neg done)⟩

/-! # The invariants right after reset -/

theorem State.reset_door (d : DoorNo) : State.reset.door d = .resetRec := by simp [State.reset, State.door]
theorem State.reset_berth (b : BerthId) : State.reset.berth b = .vacantRec := by cases b <;> rfl
theorem Berth.vacantRec_reset : Berth.vacantRec.afterReset := by unfold Berth.afterReset; decide +kernel

theorem linkInv_reset : LinkInv State.reset := by unfold LinkInv; decide
theorem overrideInv_reset : OverrideInv State.reset := by unfold OverrideInv; decide
theorem poolInv_reset : PoolInv State.reset := by unfold PoolInv; decide

theorem permitInv_reset : PermitInv State.reset := by
  intro b
  rw [State.reset_berth]
  decide

/-- The part is in STARTING, and both berths are VACANT. -/
theorem proofInv_reset : ProofInv State.reset := by
  intro b
  rw [State.reset_berth]
  exact ⟨fun running => absurd running (by decide), fun _ => rfl⟩

theorem occupancyInv_reset : OccupancyInv State.reset := by
  refine ⟨fun maint => absurd maint (by decide), fun b occupied => ?_, fun x y occupied => absurd rfl occupied⟩
  rw [State.reset_berth] at occupied
  exact absurd rfl occupied

theorem vacantInv_reset : VacantInv State.reset := by
  intro b _
  rw [State.reset_berth]
  exact Berth.vacantRec_reset

theorem doorInv_reset : DoorInv State.reset := by
  intro d
  rw [State.reset_door]
  unfold Door.good
  decide

theorem serviceInv_reset : ServiceInv State.reset := by
  intro d
  rw [State.reset_door]
  exact ⟨fun running => absurd running (by decide), fun _ => by decide, fun returning => absurd returning (by decide)⟩

theorem loopInv_reset : LoopInv State.reset :=
  ⟨fun running => absurd running (by decide), fun _ => ⟨rfl, rfl, rfl, rfl⟩⟩

/-- Settles O59: the state right after reset has each of the ten invariants. -/
theorem invariantsAtReset : Obligations.InvariantsAtReset :=
  ⟨linkInv_reset, overrideInv_reset, permitInv_reset, proofInv_reset, occupancyInv_reset, vacantInv_reset, poolInv_reset,
    doorInv_reset, serviceInv_reset, loopInv_reset⟩

end Sys2Proof.Machine

namespace Sys2Proof.Machine

/-! # Operations told as one change of the state -/

/-! ## Events (R206) -/

theorem LineLink.admits_event_iff (l : LineLink) : l.admits .event = true ↔ l.link = .up ∧ l.txQueue.length < 12 := by
  unfold LineLink.admits
  rw [Bool.and_eq_true, decide_eq_true_iff, beq_iff_eq]
  rfl

/-- One event is lost exactly when it is not admitted (R31). -/
theorem LineLink.losesEvent_singleton (l : LineLink) {t : Telegram} (h : t.cls = .event) :
    l.losesEvent [t] = !l.admits .event := by
  rw [Bool.eq_iff_iff, Bool.not_eq_true', ← Bool.not_eq_true, LineLink.admits_event_iff]
  cases hl : l.link <;> simp [LineLink.losesEvent, h, hl]

/-- An event changes the link interface by its telegrams, and EVENTS_LOST where one of them is lost (R206). -/
theorem State.raise_eq (s : State) (e : EventKind) (n : Nat) (items : List Byte) :
    s.raise e n items = { s with
      lli := s.lli.offers (s.eventOf e n items)
      er := { s.er with eventsLost := s.er.eventsLost || s.lli.losesEvent (s.eventOf e n items) } } := by
  rcases s.raise_cases e n items with ⟨masked, h⟩ | ⟨unmasked, h⟩
  · simp [h, State.eventOf, masked, LineLink.losesEvent]
  · simp [h, State.eventOf, unmasked, LineLink.losesEvent_singleton]

/-- A changed door's hand-over to the Event Reporter sets its change flag and offers its DOOR_CHANGE (R116, R205). -/
theorem State.reportDoor_eq (s : State) (d : DoorNo) :
    s.reportDoor d = { s with
      lli := s.lli.offers (s.doorChange d)
      er := { s.er with doorFlags := s.er.doorFlags.set d true
                        eventsLost := s.er.eventsLost || s.lli.losesEvent (s.doorChange d) } } :=
  State.raise_eq _ _ _ _

/-- With the link LOST a telegram is dropped without trace (R31). -/
theorem LineLink.offer_lost {l : LineLink} (h : l.link = .lost) (t : Telegram) : l.offer t = l := by
  rcases l.offer_cases t with ⟨up, -⟩ | ⟨up, -⟩ | ⟨-, e⟩
  · rw [h] at up; exact absurd up (by decide)
  · rw [h] at up; exact absurd up (by decide)
  · exact e

theorem State.raise_lost {s : State} (h : s.lli.link = .lost) (e : EventKind) (n : Nat) (items : List Byte) :
    s.raise e n items = { s with er := (s.raise e n items).er } := by
  rcases s.raise_cases e n items with ⟨-, r⟩ | ⟨-, r⟩
  · rw [r]
  · rw [r, LineLink.offer_lost h]

/-! ## The loops with no train on the edge (R196) -/

/-- No berth has a span. -/
def State.NoSpan (s : State) : Prop := ∀ b : BerthId, (s.berth b).span = none

/-- No span contains a zone, and no proof is handed on. -/
theorem State.handProofOfZone_noSpan {s : State} (h : s.NoSpan) (z : Zone) : s.handProofOfZone z = s := by
  simp [State.handProofOfZone, allBerths, h .A, h .B]

/-- The loop condition looks at no loop. -/
theorem State.loopCondition_setLoop (s : State) (y z : Zone) (v : Bool) :
    (s.setLoop y v).loopCondition z = s.loopCondition z := by
  cases y <;> rfl

/-- Judging a loop with no train on the edge sets it as its condition says, and nothing else. -/
theorem State.judgeLoop_noSpan {s : State} (h : s.NoSpan) (z : Zone) : s.judgeLoop z = s.setLoop z (s.loopCondition z) := by
  have same : s.setLoop z (s.loop z) = s := by cases z <;> rfl
  unfold State.judgeLoop
  split
  next e => rw [← e, same]
  next => exact State.handProofOfZone_noSpan (fun b => by cases z <;> exact h b) z

theorem State.judgeLoops_noSpan {s : State} (h : s.NoSpan) :
    s.judgeLoops = { s with loopFront := s.loopCondition .front, loopRear := s.loopCondition .rear } := by
  unfold State.judgeLoops
  have same : (s.setLoop .front (s.loopCondition .front)).NoSpan := fun b => h b
  rw [State.judgeLoop_noSpan h, State.judgeLoop_noSpan same, State.loopCondition_setLoop]
  rfl

/-- The loop condition in the manual's terms (R195). -/
theorem State.loopCondition_iff (s : State) (z : Zone) :
    s.loopCondition z = true ↔ s.ts.config = .configured ∧ ∀ d : DoorNo, (s.pdt d).zone = z →
      (s.door d).state = .outOfService ∨ (s.door d).state = .closed := by
  simp [State.loopCondition, State.zoneDoors, State.zoneOf, State.inService, allDoors, imp_iff_not_or]

/-- Once both loops are judged with no train on the edge, each is closed exactly as R195 says. -/
theorem State.judgeLoops_judged {s : State} (h : s.NoSpan) (z : Zone) : LoopJudged s.judgeLoops z := by
  rw [State.judgeLoops_noSpan h]
  cases z <;> exact State.loopCondition_iff s _

/-! ## Panels -/

theorem State.setPanel_self (s : State) (z : Zone) : s.setPanel z (s.panel z) = s := by cases z <;> rfl

/-- The panel records follow the panels fitted: one newly fitted starts afresh, one no longer fitted is gone (R188). -/
theorem State.refitPanel_eq (s : State) (z : Zone) :
    s.refitPanel z = s.setPanel z (if s.settings.panelsFitted.fits z then some ((s.panel z).getD .fresh) else none) := by
  unfold State.refitPanel
  split
  next fitted =>
    split
    next p e => rw [e, Option.getD_some, ← e, State.setPanel_self]
    next e => rw [e]; rfl
  next => rfl

/-- Both panels refitted: the panel records, and nothing else. -/
def State.refitPanels (s : State) : State := (s.refitPanel .front).refitPanel .rear

theorem State.refitPanels_frame (s : State) :
    s.refitPanels = { s with ou := { s.ou with panelFront := s.refitPanels.ou.panelFront
                                               panelRear := s.refitPanels.ou.panelRear } } := by
  simp only [State.refitPanels, State.refitPanel_eq]
  rfl

theorem State.refitPanels_panel (s : State) (z : Zone) :
    s.refitPanels.panel z = if s.settings.panelsFitted.fits z then some ((s.panel z).getD .fresh) else none := by
  simp only [State.refitPanels, State.refitPanel_eq]
  cases z <;> rfl

end Sys2Proof.Machine

namespace Sys2Proof.Machine

/-! # The end of STARTING (R22, R217) -/

/-! ## A reason given to a door that is not adopted (R119, R120) -/

/-- A door that follows no order: UNKNOWN or OUT_OF_SERVICE. -/
def Door.Idle (r : Door) : Prop := r.state = .unknown ∨ r.state = .outOfService

/-- Such a door takes a reason into its record, or discards it, and does nothing. -/
theorem Door.withReasons_idle {r : Door} (h : r.Idle) (m : MotionLimits) (n : Reasons) :
    r.withReasons m n = { r with reasons := (r.withReasons m n).reasons } := by
  unfold Door.withReasons Door.reasonsArise Door.reasonsCease
  rcases h with unknown | out
  · simp only [unknown, reduceCtorEq, if_false]
    split
    · rfl
    · split <;> rfl
  · rw [if_pos out]

/-- An act that leaves a door's standing is no event to hand over (R116). -/
theorem State.doorEvent_same {s : State} {d : DoorNo} {f : State → State}
    (h : ((f s).door d).standing = (s.door d).standing) : s.doorEvent d f = f s := if_pos h

/-- `t` differs from `s` in reason sets alone. -/
structure ReasonsOnly (s t : State) : Prop where
  frame : t = { s with doors := t.doors }
  door : ∀ d : DoorNo, t.door d = { s.door d with reasons := (t.door d).reasons }

theorem ReasonsOnly.refl (s : State) : ReasonsOnly s s := ⟨rfl, fun _ => rfl⟩
theorem ReasonsOnly.trans {s t u : State} (h : ReasonsOnly s t) (k : ReasonsOnly t u) : ReasonsOnly s u :=
  ⟨by rw [k.frame, h.frame], fun d => by rw [k.door d, h.door d]⟩
theorem ReasonsOnly.state {s t : State} (h : ReasonsOnly s t) (d : DoorNo) : (t.door d).state = (s.door d).state := by
  rw [h.door d]

theorem State.addReason_idle {s : State} {d : DoorNo} (h : (s.door d).Idle) (k : Reason) : ReasonsOnly s (s.addReason d k) := by
  have kept := Door.withReasons_idle h (s.limits d) ((s.door d).reasons.put true k)
  have event : s.addReason d k = s.setDoor d ((s.door d).withReasons (s.limits d) ((s.door d).reasons.put true k)) :=
    State.doorEvent_same (f := fun s => s.setDoor d ((s.door d).withReasons (s.limits d) ((s.door d).reasons.put true k)))
      (by rw [State.door_setDoor_same, kept]; rfl)
  refine ⟨by rw [event]; rfl, fun d' => ?_⟩
  rw [event]
  by_cases same : d' = d
  · rw [same, State.door_setDoor_same]; exact kept
  · rw [State.door_setDoor_ne s _ same]

theorem State.addReasons_idle (k : Reason) (ds : List DoorNo) (s : State) (h : ∀ d, (s.door d).Idle) :
    ReasonsOnly s (forDoors ds (fun d s => s.addReason d k) s) := by
  induction ds generalizing s with
  | nil => exact .refl s
  | cons d ds ih =>
    have one := State.addReason_idle (h d) k
    exact one.trans (ih (s.addReason d k) fun d' => by unfold Door.Idle; rw [one.state d']; exact h d')

/-! ## The FIRE input taken first (R180, R217) -/

/-- A kind that enters while the link is LOST and no ring test runs changes the override list and EVENTS_LOST alone. -/
theorem State.enterMode_quiet {s : State} (lost : s.lli.link = .lost) (noTest : s.drm.test.status ≠ .run) (k : OverrideKind) :
    s.enterMode k = { s with ou := { s.ou with list := s.ou.list ++ [k] }, er := (s.enterMode k).er } := by
  have told := State.raise_lost (s := { s with ou := { s.ou with list := s.ou.list ++ [k] } }) lost .modeChange edgeSubject
    (enc1 k.code ++ enc1 0 ++ enc1 (State.modeCode { s with ou := { s.ou with list := s.ou.list ++ [k] } }))
  have entered : s.enterMode k = State.raiseMode { s with ou := { s.ou with list := s.ou.list ++ [k] } } k 0 := by
    unfold State.enterMode
    dsimp only
    split
    · refine if_neg ?_
      rw [State.raiseMode, State.raise_drm]
      exact noTest
    · rfl
  rw [entered]
  exact told

/-- FIRE that enters so, with no door adopted, changes the override list, EVENTS_LOST and reason sets alone. -/
theorem State.enterFire_quiet {s : State} (absent : s.present .fire = false) (lost : s.lli.link = .lost)
    (noTest : s.drm.test.status ≠ .run) (idle : ∀ d, (s.door d).Idle) :
    s.enterFire = { s with doors := s.enterFire.doors, er := s.enterFire.er, ou := { s.ou with list := s.ou.list ++ [.fire] } }
      ∧ ∀ d, (s.enterFire.door d).state = (s.door d).state := by
  have entered := State.enterMode_quiet lost noTest .fire
  have doors : ∀ d, (s.enterMode .fire).door d = s.door d := fun d => by rw [entered]; rfl
  have steps : s.enterFire
      = forDoors (s.enterMode .fire).fireDoors (fun d s => s.addReason d .fire) (s.enterMode .fire) := by
    unfold State.enterFire
    rw [if_neg (by rw [absent]; decide)]
  have reasons : ReasonsOnly (s.enterMode .fire) s.enterFire := by
    rw [steps]
    exact State.addReasons_idle .fire _ _ fun d => by rw [doors d]; exact idle d
  refine ⟨?_, fun d => (reasons.state d).trans (by rw [doors d])⟩
  have er : s.enterFire.er = (s.enterMode .fire).er := by rw [reasons.frame]
  rw [er]
  calc s.enterFire = { s.enterMode .fire with doors := s.enterFire.doors } := reasons.frame
    _ = _ := by rw [entered]

/-- Before any override is present, with no ring test running, the link LOST and no door adopted, taking the FIRE input changes the
override list, the level taken, EVENTS_LOST and reason sets alone. -/
theorem State.takeFire_first {s : State} (list : s.ou.list = []) (taken : s.ou.fireTaken = false)
    (lost : s.lli.link = .lost) (noTest : s.drm.test.status ≠ .run) (idle : ∀ d, (s.door d).Idle) :
    s.takeFire = { s with doors := s.takeFire.doors, er := s.takeFire.er
                          ou := { s.ou with list := if s.firePin then [.fire] else [], fireTaken := s.firePin } }
      ∧ ∀ d, (s.takeFire.door d).state = (s.door d).state := by
  rcases Bool.eq_false_or_eq_true s.firePin with asserted | off
  · have absent : State.present { s with ou := { s.ou with fireTaken := true } } .fire = false :=
      State.present_eq_false.mpr (by rw [list]; exact List.not_mem_nil)
    obtain ⟨frame, states⟩ := State.enterFire_quiet absent lost noTest idle
    have steps : s.takeFire = State.enterFire { s with ou := { s.ou with fireTaken := true } } := by
      unfold State.takeFire
      rw [asserted, taken]
      rfl
    rw [steps]
    refine ⟨frame.trans ?_, states⟩
    simp only [list, asserted, List.nil_append, if_true]
  · have unchanged : s.takeFire = s := if_pos (by rw [off, taken])
    have ou : s.ou = { s.ou with list := if s.firePin then [.fire] else [], fireTaken := s.firePin } := by
      rw [off, if_neg (by decide), ← list, ← taken]
    rw [unchanged]
    exact ⟨congrArg (fun o => { s with ou := o }) ou, fun _ => rfl⟩

end Sys2Proof.Machine

namespace Sys2Proof.Machine

/-! ## The load of the image (R22, R91, R118, R153, R188) -/

theorem State.startDoors_door (s : State) (d : DoorNo) :
    s.startDoors.door d = if (s.pdt d).inService then s.door d else (s.door d).enterOut := by
  simp [State.startDoors, State.door]

theorem State.startZones_zone (s : State) (d : DoorNo) (z : ZoneId) :
    s.startZones.zone d z = if (s.pdt d).inService = true ∧ (s.pdt d).fitted[z.idx] = true then some .fresh else none := by
  simp [State.startZones, State.zone, State.zonesOf]

theorem State.takeConfigured_comm (s : State) (i : SlotNo) :
    s.takeConfigured.comm i = if s.configured i then some ((s.comm i).getD .fresh) else none := by
  simp [State.takeConfigured, State.comm]

/-! A reading of one record looks at that record alone. -/

theorem State.door_congr {s t : State} (h : t.doors = s.doors) (d : DoorNo) : t.door d = s.door d := by
  unfold State.door; rw [h]
theorem State.zone_congr {s t : State} (h : t.zones = s.zones) (d : DoorNo) (z : ZoneId) : t.zone d z = s.zone d z := by
  unfold State.zone State.zonesOf; rw [h]
theorem State.comm_congr {s t : State} (h : t.drm.comm = s.drm.comm) (i : SlotNo) : t.comm i = s.comm i := by
  unfold State.comm; rw [h]
theorem State.pdt_congr {s t : State} (h : t.ts = s.ts) (d : DoorNo) : t.pdt d = s.pdt d := by unfold State.pdt; rw [h]
theorem State.settings_congr {s t : State} (h : t.ts = s.ts) : t.settings = s.settings := by unfold State.settings; rw [h]
theorem State.configured_congr {s t : State} (h : t.ts = s.ts) (i : SlotNo) : t.configured i = s.configured i := by
  unfold State.configured State.pdt State.settings; rw [h]

/-- The part runs with the Table Store loaded; no other record follows yet. -/
def State.takeLoad (s : State) : State := { s with phase := .running, ts := s.ts.load }

theorem State.loadTables_eq (s : State) : s.loadTables = s.takeLoad.startDoors.startZones.takeConfigured.refitPanels := rfl

/-- The load replaces the Table Store, and the records that follow from the loaded entries. -/
theorem State.loadTables_frame (s : State) :
    s.loadTables = { s with
      phase := .running, ts := s.ts.load, doors := s.takeLoad.startDoors.doors, zones := s.takeLoad.startDoors.startZones.zones
      drm := { s.drm with comm := s.takeLoad.startDoors.startZones.takeConfigured.drm.comm }
      ou := { s.ou with panelFront := s.loadTables.ou.panelFront, panelRear := s.loadTables.ou.panelRear } } := by
  rw [State.loadTables_eq, State.refitPanels_frame]
  rfl

theorem State.loadTables_ts (s : State) : s.loadTables.ts = s.takeLoad.ts := by rw [State.loadTables_frame]; rfl

theorem State.loadTables_door (s : State) (d : DoorNo) :
    s.loadTables.door d = if (s.loadTables.pdt d).inService then s.door d else (s.door d).enterOut := by
  have doors : s.loadTables.doors = s.takeLoad.startDoors.doors := by rw [State.loadTables_frame]
  have door : s.takeLoad.door d = s.door d := State.door_congr rfl d
  rw [State.door_congr doors, State.startDoors_door, State.pdt_congr s.loadTables_ts, door]

theorem State.loadTables_zone (s : State) (d : DoorNo) (z : ZoneId) :
    s.loadTables.zone d z
      = if (s.loadTables.pdt d).inService = true ∧ (s.loadTables.pdt d).fitted[z.idx] = true then some .fresh else none := by
  have zones : s.loadTables.zones = s.takeLoad.startDoors.startZones.zones := by rw [State.loadTables_frame]
  have pdt : s.takeLoad.startDoors.pdt d = s.loadTables.pdt d :=
    State.pdt_congr (show s.takeLoad.startDoors.ts = s.loadTables.ts from s.loadTables_ts.symm) d
  rw [State.zone_congr zones, State.startZones_zone, pdt]

theorem State.loadTables_comm (s : State) (i : SlotNo) :
    s.loadTables.comm i = if s.loadTables.configured i then some ((s.comm i).getD .fresh) else none := by
  have comm : s.loadTables.drm.comm = s.takeLoad.startDoors.startZones.takeConfigured.drm.comm := by rw [State.loadTables_frame]
  have configured : s.takeLoad.startDoors.startZones.configured i = s.loadTables.configured i :=
    State.configured_congr (show s.takeLoad.startDoors.startZones.ts = s.loadTables.ts from s.loadTables_ts.symm) i
  have before : s.takeLoad.startDoors.startZones.comm i = s.comm i := State.comm_congr rfl i
  rw [State.comm_congr comm, State.takeConfigured_comm, configured, before]

theorem State.loadTables_panel (s : State) (z : Zone) :
    s.loadTables.panel z
      = if s.loadTables.settings.panelsFitted.fits z then some ((s.panel z).getD .fresh) else none := by
  have panel : s.takeLoad.startDoors.startZones.takeConfigured.panel z = s.panel z := by cases z <;> rfl
  have settings : s.takeLoad.startDoors.startZones.takeConfigured.settings = s.loadTables.settings :=
    State.settings_congr
      (show s.takeLoad.startDoors.startZones.takeConfigured.ts = s.loadTables.ts from s.loadTables_ts.symm)
  rw [← settings, State.loadTables_eq, State.refitPanels_panel, panel]

/-! ## The first cycle (R88, R193) -/

/-- A cycle starts with the lamps of the fitted panels set, and its frame built. -/
theorem State.startCycle_frame (s : State) (n : BitVec 8) :
    s.startCycle n = { s with
      drm := (s.startCycle n).drm
      ou := { s.ou with panelFront := (s.startCycle n).ou.panelFront, panelRear := (s.startCycle n).ou.panelRear } } := rfl

/-- With no ring test running, a cycle's frame is NORMAL, and the comm records, the ring state and the test stand. -/
theorem State.startCycle_drm {s : State} (noTest : s.drm.test.status ≠ .run) (n : BitVec 8) :
    (s.startCycle n).drm = { s.drm with
      cycleNo := n, period := s.settings.ringPeriod, kind := .normal, judged := false
      frame := (s.startCycle n).drm.frame, copyA := none, copyB := none } := by
  have status : ((s.setLamps .front).setLamps .rear).drm.test.status ≠ .run := noTest
  simp only [State.startCycle, status, if_false, decide_false]
  rfl

/-- The lamps of a panel as they are set (R193). -/
def State.lit (s : State) (z : Zone) (p : Panel) : Panel :=
  { p with lampProven := s.loop z, lampDoorsOpen := s.doorsOpenLamp z, lampAlarm := s.alarmLamp z }

theorem State.startCycle_panel (s : State) (n : BitVec 8) (z : Zone) : (s.startCycle n).panel z = (s.panel z).map (s.lit z) := by
  cases z <;> rfl

theorem State.doorsOpenLamp_iff (s : State) (z : Zone) : s.doorsOpenLamp z = true ↔
    ∃ d : DoorNo, (s.pdt d).zone = z ∧ (s.door d).state ≠ .outOfService ∧ (s.door d).state ≠ .closed := by
  simp [State.doorsOpenLamp, State.zoneDoors, State.zoneOf, State.inService, allDoors]

/-- No door is HELD, in FAULT or RELEASED_MANUAL, and no zone is STUCK (R193). -/
theorem State.alarmLamp_off {s : State} (idle : ∀ d, (s.door d).Idle) (clear : ∀ d z r, s.zone d z = some r → r.state = .clear)
    (z : Zone) : s.alarmLamp z = false := by
  refine List.any_eq_false.mpr fun d _ => ?_
  have noStuck : s.hasStuck d = false := by
    refine List.any_eq_false.mpr fun y _ => ?_
    cases e : s.zone d y with
    | none => simp
    | some r => simp [clear d y r e]
  rcases idle d with unknown | out
  · simp [unknown, noStuck]
  · simp [out, noStuck]

end Sys2Proof.Machine

namespace Sys2Proof.Machine

/-! ## The end of STARTING -/

/-- A door that a reset has left UNKNOWN is UNKNOWN or, its entry out of service, OUT_OF_SERVICE once the tables are loaded. -/
theorem State.loadTables_state {s : State} (h : ∀ d, (s.door d).state = .unknown) (d : DoorNo) :
    (s.loadTables.door d).state = if (s.loadTables.pdt d).inService then .unknown else .outOfService := by
  rw [State.loadTables_door]
  split
  · exact h d
  · rfl

theorem State.loadTables_idle {s : State} (h : ∀ d, (s.door d).state = .unknown) (d : DoorNo) : (s.loadTables.door d).Idle := by
  unfold Door.Idle
  rw [State.loadTables_state h]
  split
  · exact .inl rfl
  · exact .inr rfl

/-- The first cycle as it has started. -/
def State.firstCycle (s : State) : State := s.loadTables.startCycle 0

theorem State.firstCycle_door (s : State) (d : DoorNo) : s.firstCycle.door d = s.loadTables.door d := State.door_congr rfl d

/-- From what a reset leaves, the part begins its work with the loaded records, the first cycle, the loops as judged and FIRE as taken;
beyond these, of the doors only reason sets change, and the Event Reporter. -/
theorem State.beginWork_eq {s : State} (h : AfterReset s s) :
    s.beginWork = { s.firstCycle with
        loopFront := s.firstCycle.loopCondition .front, loopRear := s.firstCycle.loopCondition .rear
        doors := s.beginWork.doors, er := s.beginWork.er
        ou := { s.firstCycle.ou with list := if s.firePin then [.fire] else [], fireTaken := s.firePin } }
      ∧ ∀ d, (s.beginWork.door d).state = (s.loadTables.door d).state := by
  obtain ⟨⟨-, spanA, -⟩, ⟨-, spanB, -⟩, doors, ⟨lost, -⟩, -, list, taken, -, status, -⟩ := h
  have noTrain : s.firstCycle.NoSpan := by
    intro b
    unfold State.firstCycle
    rw [State.startCycle_frame, State.loadTables_frame]
    cases b
    · exact spanA
    · exact spanB
  have judged := State.judgeLoops_noSpan noTrain
  have stands : s.firstCycle.judgeLoops.ou.list = s.ou.list ∧ s.firstCycle.judgeLoops.ou.fireTaken = s.ou.fireTaken
      ∧ s.firstCycle.judgeLoops.lli = s.lli ∧ s.firstCycle.judgeLoops.firePin = s.firePin := by
    rw [judged]
    unfold State.firstCycle
    rw [State.startCycle_frame, State.loadTables_frame]
    exact ⟨rfl, rfl, rfl, rfl⟩
  obtain ⟨sameList, sameTaken, sameLink, samePin⟩ := stands
  have noTest : s.firstCycle.judgeLoops.drm.test.status ≠ .run := by
    have before : s.loadTables.drm.test.status ≠ .run := by rw [State.loadTables_frame, status]; decide
    rw [judged, State.firstCycle, State.startCycle_drm before]
    exact before
  have door : ∀ d, s.firstCycle.judgeLoops.door d = s.loadTables.door d := by
    intro d
    rw [judged]
    exact s.firstCycle_door d
  obtain ⟨fire, states⟩ := State.takeFire_first (sameList.trans list) (sameTaken.trans taken) (by rw [sameLink]; exact lost) noTest
    fun d => by rw [door d]; exact State.loadTables_idle (fun d => (doors d).1) d
  refine ⟨?_, fun d => (states d).trans (by rw [door d])⟩
  have ou : ({ s.firstCycle.judgeLoops.ou with
        list := if s.firstCycle.judgeLoops.firePin then [.fire] else [], fireTaken := s.firstCycle.judgeLoops.firePin }
        : OverrideUnit)
      = { s.firstCycle.ou with list := if s.firePin then [.fire] else [], fireTaken := s.firePin } := by
    rw [samePin, judged]
  rw [ou] at fire
  calc s.beginWork = { s.firstCycle.judgeLoops.takeFire with er := s.beginWork.er } := rfl
    _ = { s.firstCycle.judgeLoops with
          doors := s.beginWork.doors, er := s.beginWork.er
          ou := { s.firstCycle.ou with list := if s.firePin then [.fire] else [], fireTaken := s.firePin } } :=
        congrArg (fun u : State => { u with er := s.beginWork.er }) fire
    _ = _ := congrArg (fun u : State => { u with
          doors := s.beginWork.doors, er := s.beginWork.er
          ou := { s.firstCycle.ou with list := if s.firePin then [.fire] else [], fireTaken := s.firePin } }) judged

/-- The records the part begins its work with, as the load and the first cycle leave them. -/
theorem State.beginWork_records {s : State} (h : AfterReset s s) :
    s.beginWork.phase = .running ∧ s.beginWork.lli = s.lli ∧ s.beginWork.berthA = s.berthA ∧ s.beginWork.berthB = s.berthB
      ∧ s.beginWork.zones = s.loadTables.zones ∧ s.beginWork.drm = s.firstCycle.drm
      ∧ (∀ z, s.beginWork.panel z = s.firstCycle.panel z) ∧ (∀ z, s.beginWork.loop z = s.firstCycle.loopCondition z) := by
  obtain ⟨frame, -⟩ := State.beginWork_eq h
  have first : s.firstCycle.phase = .running ∧ s.firstCycle.lli = s.lli ∧ s.firstCycle.berthA = s.berthA
      ∧ s.firstCycle.berthB = s.berthB ∧ s.firstCycle.zones = s.loadTables.zones := by
    unfold State.firstCycle
    rw [State.startCycle_frame, State.loadTables_frame]
    exact ⟨rfl, rfl, rfl, rfl, rfl⟩
  obtain ⟨phase, lli, berthA, berthB, zones⟩ := first
  rw [frame]
  refine ⟨phase, lli, berthA, berthB, zones, rfl, fun z => ?_, fun z => ?_⟩ <;> cases z <;> rfl

/-- The Table Store of a part that begins its work, and of its load and first cycle, is the loaded one. -/
theorem State.loaded_ts (s : State) : s.loadTables.ts = s.beginWork.ts ∧ s.firstCycle.ts = s.beginWork.ts :=
  have load : s.loadTables.ts = s.beginWork.ts := s.loadTables_ts.trans s.beginWork_ts.symm
  ⟨load, (State.ts_of_ground (s.loadTables.startCycle_ground 0)).trans load⟩

/-- A fitted panel starts afresh, its lamps set from a part whose doors are not adopted, whose zones are CLEAR and whose loops are open
(R188, R193). -/
theorem State.beginWork_panel {s : State} (h : AfterReset s s) (z : Zone) :
    s.beginWork.panel z = if s.beginWork.settings.panelsFitted.fits z
      then some { Panel.fresh with lampDoorsOpen := s.loadTables.doorsOpenLamp z } else none := by
  obtain ⟨-, -, -, -, -, -, panels, -⟩ := State.beginWork_records h
  obtain ⟨-, -, doors, -, -, -, -, -, -, -, -, -, -, -, -, -, -, -, -, -, -, -, noPanel, openFront, openRear, -⟩ := h
  have settings : s.loadTables.settings = s.beginWork.settings := State.settings_congr s.loaded_ts.1
  rw [panels z, State.firstCycle, State.startCycle_panel, State.loadTables_panel, noPanel z, settings]
  split
  · have isOpen : s.loadTables.loop z = false := by
      rw [State.loadTables_frame]
      cases z
      · exact openFront
      · exact openRear
    have quiet : s.loadTables.alarmLamp z = false := by
      refine State.alarmLamp_off (State.loadTables_idle fun d => (doors d).1) (fun d y r e => ?_) z
      rw [State.loadTables_zone] at e
      split at e
      · rw [← Option.some.inj e]; rfl
      · exact absurd e (by simp)
    simp only [Option.map_some, Option.getD_none, State.lit, isOpen, quiet]
    rfl
  · rfl

/-- Settles O4: the load, the first cycle, the loops and the FIRE input, each by its own rule. -/
theorem startingEnds : Obligations.StartingEnds := by
  intro s starting reset
  obtain ⟨frame, states⟩ := State.beginWork_eq reset
  obtain ⟨phase, lli, berthA, berthB, zones, drm, -, loops⟩ := State.beginWork_records reset
  obtain ⟨loadTs, firstTs⟩ := s.loaded_ts
  have ts := s.beginWork_ts
  have unknown : ∀ d, (s.door d).state = .unknown := fun d => (reset.2.2.1 d).1
  have state : ∀ d, (s.beginWork.door d).state = if (s.beginWork.pdt d).inService then .unknown else .outOfService := fun d => by
    rw [states d, State.loadTables_state unknown, State.pdt_congr loadTs]
  have noTest : s.loadTables.drm.test.status ≠ .run := by
    have idle : s.drm.test.status = .idle := by
      obtain ⟨-, -, -, -, -, -, -, -, status, -⟩ := reset
      exact status
    rw [State.loadTables_frame, idle]
    decide
  have cycle := State.startCycle_drm noTest 0
  rw [← State.firstCycle, ← drm] at cycle
  refine ⟨s.beginWork, congrArg Host.Outcome.next (if_pos starting), phase, lli, berthA, berthB, fun good => ?_, fun bad => ?_,
    poolInv_of_load ts, ?_, ?_, fun d z => ?_, fun i => ?_, fun z fitted => ?_, fun z fitted => ?_, state, ?_, ?_, ?_, ?_, ?_,
    fun z => ?_, ?_, ?_, rfl⟩
  · rw [ts, TableStore.load, if_pos good]; exact ⟨rfl, rfl, rfl⟩
  · rw [ts, TableStore.load, if_neg (by rw [bad]; decide)]; exact ⟨rfl, rfl, rfl⟩
  · rw [ts, TableStore.load]; split <;> rfl
  · rw [ts, TableStore.load]; split <;> rfl
  · rw [State.zone_congr zones, State.loadTables_zone, State.pdt_congr loadTs]; rfl
  · have comm : s.beginWork.comm i = s.loadTables.comm i := State.comm_congr (by rw [cycle]) i
    have none : s.comm i = .none := by
      obtain ⟨-, -, -, -, -, -, -, -, -, -, -, -, -, -, -, -, -, -, -, -, -, noComm, -⟩ := reset
      exact noComm i
    rw [comm, State.loadTables_comm, State.configured_congr loadTs, none]; rfl
  · rw [State.beginWork_panel reset, if_neg (by rw [fitted]; decide)]
  · refine ⟨_, (State.beginWork_panel reset z).trans (if_pos fitted), rfl, rfl, rfl, rfl, rfl, rfl, rfl, ?_⟩
    refine (State.doorsOpenLamp_iff s.loadTables z).trans (exists_congr fun d => ?_)
    rw [State.loadTables_state unknown, State.pdt_congr loadTs]
    cases (s.beginWork.pdt d).inService <;> simp
  · rw [cycle]
  · rw [cycle]
  · rw [cycle]; exact congrArg Settings.ringPeriod (State.settings_congr loadTs)
  · rw [cycle]
  · rw [cycle]
  · rw [loops z, State.loopCondition_iff, firstTs]
    refine and_congr_right fun _ => forall_congr' fun d => ?_
    rw [State.pdt_congr firstTs, State.firstCycle_door, State.loadTables_state unknown, State.pdt_congr loadTs]
    cases (s.beginWork.pdt d).inService <;> simp
  · rw [frame]
  · rw [frame]

end Sys2Proof.Machine

namespace Sys2Proof.Machine

/-! # TABLE_WRITE (R12) -/

/-! ## Acts on distinct records -/

/-- A fold over distinct places, whose act at a place changes what is read there alone and by what is read there and a base that no act
changes, has acted once at each place of the list. -/
theorem foldl_each {ι β γ σ : Type} [DecidableEq ι] (read : σ → ι → β) (base : σ → γ) (act : σ → ι → σ) (g : ι → β → β) {s : σ}
    {l : List ι} (distinct : l.Nodup) (kept : ∀ t i, base (act t i) = base t)
    (own : ∀ t, base t = base s → ∀ i ∈ l, read (act t i) i = g i (read t i))
    (other : ∀ t i j, j ≠ i → read (act t i) j = read t j) (i : ι) :
    read (l.foldl act s) i = if i ∈ l then g i (read s i) else read s i := by
  induction l generalizing s with
  | nil => simp
  | cons x l ih =>
    obtain ⟨fresh, distinct⟩ := List.nodup_cons.mp distinct
    have rest := ih (s := act s x) distinct fun t e j hj => own t (e.trans (kept s x)) j (List.mem_cons_of_mem x hj)
    rw [List.foldl_cons, rest]
    by_cases same : i = x
    · subst same
      rw [if_neg fresh, if_pos List.mem_cons_self, own s rfl i List.mem_cons_self]
    · rw [other s x i same]
      simp [same]

theorem allDoors_filter_nodup (b : DoorNo → Bool) : (allDoors.filter b).Nodup := (List.nodup_finRange 48).filter b
theorem mem_allDoors_filter {b : DoorNo → Bool} {d : DoorNo} : d ∈ allDoors.filter b ↔ b d = true := by simp [allDoors]

/-! ## Writing back what is read -/

theorem State.setDoor_self (s : State) (d : DoorNo) : s.setDoor d (s.door d) = s := by
  simp [State.setDoor, State.door]
theorem State.setZones_self (s : State) (d : DoorNo) : s.setZones d (s.zonesOf d) = s := by
  simp [State.setZones, State.zonesOf]
theorem State.setZone_self (s : State) (d : DoorNo) (z : ZoneId) : s.setZone d z (s.zone d z) = s := by
  have same : (s.zonesOf d).set z.idx (s.zone d z) = s.zonesOf d := by simp [State.zone]
  rw [State.setZone, same, State.setZones_self]

/-! ## The effort limit, the zone records and the profile of a door (R4, R6, R8, R150) -/

/-- A door's E lowered to a limit, where there is one. -/
def Door.lowered (r : Door) (c : Option DriveClass) : Door := { r with effort := c.elim r.effort fun c => min r.effort c.limit }

theorem State.clampEffort_eq (s : State) (d : DoorNo) : s.clampEffort d = s.setDoor d ((s.door d).lowered (s.driveClass d)) := by
  unfold State.clampEffort
  split
  next c e => rw [e]; rfl
  next e => rw [e]; exact (s.setDoor_self d).symm

/-- A zone record cut to the window length of a profile, where there is one. -/
def ZoneRec.cutBy (r : ZoneRec) (p : Option SensingProfile) : ZoneRec := p.elim r fun p => r.cutTo p.n

theorem State.applyProfile_eq (s : State) (d : DoorNo) :
    s.applyProfile d = s.setZones d ((s.zonesOf d).map (Option.map fun r => r.cutBy (s.sensing d))) := by
  unfold State.applyProfile
  split
  next p e => rw [e]; rfl
  next e =>
    have same : (fun r : ZoneRec => r.cutBy none) = id := rfl
    rw [e, same, Option.map_id_fun, Vector.map_id_fun, id, State.setZones_self]

theorem State.applyProfile_zone (s : State) (d : DoorNo) (z : ZoneId) :
    (s.applyProfile d).zone d z = (s.zone d z).map fun r => r.cutBy (s.sensing d) := by
  rw [State.applyProfile_eq]
  simp [State.zone]

/-- The record of a zone of an in-service entry: kept or new where it is fitted, and none where it is not (R4, R153). -/
def State.refit (s : State) (d : DoorNo) (z : ZoneId) : Option ZoneRec :=
  if (s.pdt d).fitted[z.idx] then some ((s.zone d z).getD (s.newZone d)) else none

/-- One zone of a refit. -/
theorem State.refitZones_step (s : State) (d : DoorNo) (z : ZoneId) :
    (if (s.pdt d).fitted[z.idx] then
        match s.zone d z with
        | some _ => s
        | none => s.setZone d z (some (s.newZone d))
      else s.setZone d z none) = s.setZone d z (s.refit d z) := by
  unfold State.refit
  split
  next =>
    split
    next r e => rw [e, Option.getD_some, ← e, State.setZone_self]
    next e => rw [e]; rfl
  next => rfl

theorem State.refitZones_eq (s : State) (d : DoorNo) :
    s.refitZones d = allZoneIds.foldl (fun s z => s.setZone d z (s.refit d z)) s := by
  unfold State.refitZones
  congr 1
  funext s z
  exact (s.refitZones_step d z)

theorem State.refitZones_zone (s : State) (d : DoorNo) (z : ZoneId) : (s.refitZones d).zone d z = s.refit d z := by
  rw [State.refitZones_eq]
  have each := foldl_each (fun (t : State) z => t.zone d z) (fun t => (t.ts, t.drm)) (fun s z => s.setZone d z (s.refit d z))
    (fun z r => if (s.pdt d).fitted[z.idx] then some (r.getD (s.newZone d)) else none) (s := s) (l := allZoneIds) (by decide)
    (fun _ _ => rfl) ?_ (fun t i j h => t.zone_setZone_ne d _ h) z
  · rw [each, if_pos (by cases z <;> decide)]
    rfl
  · intro t same y _
    obtain ⟨ts, drm⟩ := Prod.mk.inj same
    have newZone : t.newZone d = s.newZone d := by unfold State.newZone; rw [State.comm_congr (congrArg RingMaster.comm drm)]
    rw [State.zone_setZone_same, State.refit, State.pdt_congr ts, newZone]

theorem State.setZones_setZones (s : State) (d : DoorNo) (x y : DoorZones) : (s.setZones d x).setZones d y = s.setZones d y := by
  simp [State.setZones]

/-- A refit writes the zone records of the door, and nothing else. -/
theorem State.refitZones_frame (s : State) (d : DoorNo) : ∃ x : DoorZones, s.refitZones d = s.setZones d x := by
  rw [State.refitZones_eq]
  suffices h : ∀ (l : List ZoneId) (s : State), ∃ x : DoorZones,
      l.foldl (fun s z => s.setZone d z (s.refit d z)) s = s.setZones d x from h _ s
  intro l
  induction l with
  | nil => exact fun s => ⟨_, (s.setZones_self d).symm⟩
  | cons z l ih =>
    intro s
    obtain ⟨x, e⟩ := ih (s.setZone d z (s.refit d z))
    exact ⟨x, e.trans (s.setZones_setZones d _ x)⟩

/-! ## What is done at one door with no train on the edge -/

/-- `t` differs from `s` at most in the tables, the records of door `d`, the loops, what is sent and the Event Reporter. -/
structure AtDoor (d : DoorNo) (s t : State) : Prop where
  frame : t = { s with ts := t.ts, doors := t.doors, zones := t.zones, loopFront := t.loopFront, loopRear := t.loopRear
                       lli := t.lli, er := t.er, ou := { s.ou with keys := t.ou.keys } }
  others : ∀ d' : DoorNo, d' ≠ d → t.door d' = s.door d' ∧ t.zonesOf d' = s.zonesOf d' ∧ t.key d' = s.key d'

theorem AtDoor.refl (d : DoorNo) (s : State) : AtDoor d s s := ⟨rfl, fun _ _ => ⟨rfl, rfl, rfl⟩⟩

theorem AtDoor.trans {d : DoorNo} {s t u : State} (h : AtDoor d s t) (k : AtDoor d t u) : AtDoor d s u := by
  refine ⟨by rw [k.frame, h.frame], fun d' ne => ?_⟩
  obtain ⟨door, zones, key⟩ := h.others d' ne
  obtain ⟨door', zones', key'⟩ := k.others d' ne
  exact ⟨door'.trans door, zones'.trans zones, key'.trans key⟩

theorem AtDoor.noSpan {d : DoorNo} {s t : State} (h : AtDoor d s t) (noTrain : s.NoSpan) : t.NoSpan := by
  intro b
  rw [h.frame]
  cases b
  · exact noTrain .A
  · exact noTrain .B

theorem AtDoor.berths {d : DoorNo} {s t : State} (h : AtDoor d s t) : t.berthA = s.berthA ∧ t.berthB = s.berthB := by
  rw [h.frame]; exact ⟨rfl, rfl⟩
theorem AtDoor.list {d : DoorNo} {s t : State} (h : AtDoor d s t) : t.ou.list = s.ou.list := by rw [h.frame]
theorem AtDoor.comm {d : DoorNo} {s t : State} (h : AtDoor d s t) (i : SlotNo) : t.comm i = s.comm i :=
  State.comm_congr (by rw [h.frame]) i

theorem State.setTables_atDoor (s : State) (u : Tables) (d : DoorNo) : AtDoor d s (s.setTables u) :=
  ⟨rfl, fun _ _ => ⟨rfl, rfl, rfl⟩⟩
theorem State.setDoor_atDoor (s : State) (d : DoorNo) (r : Door) : AtDoor d s (s.setDoor d r) :=
  ⟨rfl, fun _ ne => ⟨s.door_setDoor_ne r ne, rfl, rfl⟩⟩
theorem State.setZones_atDoor (s : State) (d : DoorNo) (z : DoorZones) : AtDoor d s (s.setZones d z) :=
  ⟨rfl, fun _ ne => ⟨rfl, s.zonesOf_setZones_ne z ne, rfl⟩⟩
theorem State.setKey_atDoor (s : State) (d : DoorNo) (k : KeyState) : AtDoor d s (s.setKey d k) :=
  ⟨rfl, fun _ ne => ⟨rfl, rfl, s.key_setKey_ne k ne⟩⟩
theorem State.judgeLoops_atDoor {s : State} (noTrain : s.NoSpan) (d : DoorNo) : AtDoor d s s.judgeLoops := by
  rw [State.judgeLoops_noSpan noTrain]
  exact ⟨rfl, fun _ _ => ⟨rfl, rfl, rfl⟩⟩

/-! ## A door's change handed over with no train on the edge (R116) -/

/-- What is told of a door whose standing was `before`: its DOOR_CHANGE, where its standing has changed. -/
def State.changeOf (s : State) (d : DoorNo) (before : DoorState × Option HeldCause × Option FaultCause) : List Telegram :=
  if (s.door d).standing = before then [] else s.doorChange d

/-- `t` is `s` with a door's change handed over: the loops judged anew, and the change told where there is one. -/
structure DoorTold (s t : State) (d : DoorNo) (before : DoorState × Option HeldCause × Option FaultCause) : Prop where
  frame : t = { s with loopFront := t.loopFront, loopRear := t.loopRear, lli := t.lli, er := t.er }
  lli : t.lli = s.lli.offers (s.changeOf d before)
  er : t.er = { s.er with doorFlags := t.er.doorFlags
                          eventsLost := s.er.eventsLost || s.lli.losesEvent (s.changeOf d before) }
  quiet : (s.door d).standing = before → t.er = s.er
  flagged : (s.door d).standing ≠ before → t.er.doorFlags[d] = true

theorem DoorTold.refl (s : State) (d : DoorNo) : DoorTold s s d (s.door d).standing := by
  have nothing : s.changeOf d (s.door d).standing = [] := if_pos rfl
  refine ⟨rfl, ?_, ?_, fun _ => rfl, fun h => absurd rfl h⟩
  · rw [nothing]; rfl
  · rw [nothing]; simp [LineLink.losesEvent]

theorem DoorTold.atDoor {s t : State} {d : DoorNo} {before : DoorState × Option HeldCause × Option FaultCause}
    (h : DoorTold s t d before) : AtDoor d s t := by
  rw [h.frame]
  exact ⟨rfl, fun _ _ => ⟨rfl, rfl, rfl⟩⟩

/-- One event on a door record, with no train on the edge once its act is done. -/
theorem State.doorEvent_told (s : State) (d : DoorNo) (f : State → State) (noTrain : (f s).NoSpan) :
    DoorTold (f s) (s.doorEvent d f) d (s.door d).standing := by
  by_cases same : ((f s).door d).standing = (s.door d).standing
  · rw [State.doorEvent_same same, ← same]
    exact .refl _ d
  · have judged : (f s).handDoor d
        = ((f s).setLoop ((f s).zoneOf d) ((f s).loopCondition ((f s).zoneOf d))).reportDoor d := by
      have still : ((f s).setLoop ((f s).zoneOf d) ((f s).loopCondition ((f s).zoneOf d))).NoSpan := by
        intro b
        cases (f s).zoneOf d <;> exact noTrain b
      rw [State.handDoor, State.judgeLoop_noSpan noTrain, State.handProofOfZone_noSpan still]
    have event : s.doorEvent d f = (f s).handDoor d := if_neg same
    have told : (f s).changeOf d (s.door d).standing = (f s).doorChange d := if_neg same
    rw [event, judged, State.reportDoor_eq]
    refine ⟨?_, ?_, ?_, fun h => absurd h same, fun _ => ?_⟩
    · cases (f s).zoneOf d <;> rfl
    · rw [told]; cases (f s).zoneOf d <;> rfl
    · rw [told]; cases (f s).zoneOf d <;> rfl
    · simp

/-! ## A change of service by a PDT write (R4, R134, R135) -/

/-- A door in no platform enable set leaves service: its record, its zone records and its key record. With its entry out of service the
last two are gone (R153, R186). -/
theorem State.leaveService_notEnabled {s : State} {d : DoorNo} (notEnabled : ∀ b, (s.berth b).platformEnable[d] = false)
    (out : (s.pdt d).inService = false) :
    s.leaveService d = ((s.setDoor d (s.door d).enterOut).setZones d (Vector.replicate 6 none)).setKey d .unseen := by
  have dropped : (s.setDoor d (s.door d).enterOut).dropFromBerths d = s.setDoor d (s.door d).enterOut := by
    have notA : ((s.setDoor d (s.door d).enterOut).berth .A).platformEnable[d] = false := notEnabled .A
    have notB : ((s.setDoor d (s.door d).enterOut).berth .B).platformEnable[d] = false := notEnabled .B
    simp only [State.dropFromBerths, allBerths, List.foldl_cons, List.foldl_nil, notA, notB, Bool.false_eq_true, if_false]
  have out' : ((s.setDoor d (s.door d).enterOut).pdt d).inService = false := out
  have out'' : (((s.setDoor d (s.door d).enterOut).setZones d (Vector.replicate 6 none)).pdt d).inService = false := out
  unfold State.leaveService State.leaveKey
  rw [dropped, State.leaveZones, out', if_neg (by decide), out'', if_neg (by decide)]

end Sys2Proof.Machine

namespace Sys2Proof.Machine

/-- A PDT write takes a door out of service. -/
abbrev GoesOut (old e : PdtEntry) : Prop := old.inService = true ∧ e.inService = false
/-- A PDT write brings an entry into service. -/
abbrev ComesIn (old e : PdtEntry) : Prop := old.inService = false ∧ e.inService = true

/-- What a PDT write's change of service does to the door, before it is handed over. -/
def State.serve (s : State) (d : DoorNo) (old e : PdtEntry) : State :=
  if GoesOut old e then s.leaveService d
  else if ComesIn old e ∧ (s.door d).isoKey ≠ some true then s.setDoor d (s.door d).enterUnknown
  else s

/-- A PDT write's change of service, handed over. -/
def State.serveEvent (s : State) (d : DoorNo) (old e : PdtEntry) : State :=
  if GoesOut old e then s.pdtOut d else if ComesIn old e then s.pdtIn d else s

section Serve
variable {s : State} {d : DoorNo} {old e : PdtEntry}

theorem State.serve_atDoor (notEnabled : ∀ b, (s.berth b).platformEnable[d] = false) (entry : s.pdt d = e) :
    AtDoor d s (s.serve d old e) := by
  unfold State.serve
  split
  next out =>
    rw [State.leaveService_notEnabled notEnabled (by rw [entry]; exact out.2)]
    exact ((s.setDoor_atDoor d _).trans (State.setZones_atDoor _ d _)).trans (State.setKey_atDoor _ d _)
  next =>
    split
    · exact s.setDoor_atDoor d _
    · exact .refl d s

/-- The records of the door once its entry has changed service (R4, R134, R135, R153, R186). -/
theorem State.serve_records (notEnabled : ∀ b, (s.berth b).platformEnable[d] = false) (entry : s.pdt d = e) :
    (s.serve d old e).door d = (if GoesOut old e then (s.door d).enterOut
        else if ComesIn old e ∧ (s.door d).isoKey ≠ some true then (s.door d).enterUnknown else s.door d)
      ∧ (s.serve d old e).zonesOf d = (if GoesOut old e then Vector.replicate 6 none else s.zonesOf d)
      ∧ (s.serve d old e).key d = (if GoesOut old e then .unseen else s.key d)
      ∧ (s.serve d old e).ts = s.ts ∧ (s.serve d old e).lli = s.lli ∧ (s.serve d old e).er = s.er := by
  unfold State.serve
  by_cases out : GoesOut old e
  · simp only [if_pos out]
    rw [State.leaveService_notEnabled notEnabled (by rw [entry]; exact out.2)]
    exact ⟨s.door_setDoor_same d _, State.zonesOf_setZones_same _ d _, State.key_setKey_same _ d _, rfl, rfl, rfl⟩
  · simp only [if_neg out]
    split
    · exact ⟨s.door_setDoor_same d _, rfl, rfl, rfl, rfl, rfl⟩
    · exact ⟨rfl, rfl, rfl, rfl, rfl, rfl⟩

theorem State.serveEvent_told (notEnabled : ∀ b, (s.berth b).platformEnable[d] = false) (entry : s.pdt d = e)
    (noTrain : s.NoSpan) : DoorTold (s.serve d old e) (s.serveEvent d old e) d (s.door d).standing := by
  have served := (State.serve_atDoor (old := old) notEnabled entry).noSpan noTrain
  unfold State.serve at served ⊢
  unfold State.serveEvent
  by_cases out : GoesOut old e
  · simp only [if_pos out] at served ⊢
    exact s.doorEvent_told d (fun s => s.leaveService d) served
  · simp only [if_neg out] at served ⊢
    by_cases into : ComesIn old e
    · rw [if_pos into]
      by_cases key : (s.door d).isoKey = some true
      · have act : (if (s.door d).isoKey = some true then s else s.setDoor d (s.door d).enterUnknown) = s := if_pos key
        have event := s.doorEvent_told d
          (fun s => if (s.door d).isoKey = some true then s else s.setDoor d (s.door d).enterUnknown) (by rw [act]; exact noTrain)
        rw [act] at event
        rw [if_neg fun h => h.2 key]
        exact event
      · have act : (if (s.door d).isoKey = some true then s else s.setDoor d (s.door d).enterUnknown)
            = s.setDoor d (s.door d).enterUnknown := if_neg key
        have event := s.doorEvent_told d
          (fun s => if (s.door d).isoKey = some true then s else s.setDoor d (s.door d).enterUnknown)
          (by rw [act]; exact fun b => noTrain b)
        rw [act] at event
        rw [if_pos ⟨into, key⟩]
        exact event
    · rw [if_neg into, if_neg fun h => into h.1]
      exact .refl s d
end Serve

/-! ## The effort limit, the zones fitted and the profile of a written entry (R4) -/

/-- What a PDT write does to the door's E and zone records, once its change of service is handed over. -/
def State.refitDoor (s : State) (d : DoorNo) (old e : PdtEntry) : State :=
  let s1 := if e.driveClass ≠ old.driveClass then s.clampEffort d else s
  let s2 := if e.inService then s1.refitZones d else s1
  if e.profile ≠ old.profile then s2.applyProfile d else s2

theorem State.sensing_congr {s t : State} (h : t.ts = s.ts) (d : DoorNo) : t.sensing d = s.sensing d := by
  simp [State.sensing, State.pdt, h]
theorem State.driveClass_congr {s t : State} (h : t.ts = s.ts) (d : DoorNo) : t.driveClass d = s.driveClass d := by
  simp [State.driveClass, State.pdt, h]

section RefitDoor
variable (s : State) (d : DoorNo) (old e : PdtEntry)

/-- A refit writes the door's record, in its E, and the door's zone records. -/
theorem State.refitDoor_frame : ∃ zs : DoorZones, s.refitDoor d old e
    = (s.setDoor d (if e.driveClass = old.driveClass then s.door d else (s.door d).lowered (s.driveClass d))).setZones d zs := by
  have effort : (if e.driveClass ≠ old.driveClass then s.clampEffort d else s)
      = s.setDoor d (if e.driveClass = old.driveClass then s.door d else (s.door d).lowered (s.driveClass d)) := by
    by_cases same : e.driveClass = old.driveClass
    · rw [if_neg (not_not.mpr same), if_pos same, State.setDoor_self]
    · rw [if_pos same, if_neg same, State.clampEffort_eq]
  unfold State.refitDoor
  rw [effort]
  generalize s.setDoor d _ = v
  have refit : ∃ zs, (if e.inService then v.refitZones d else v) = v.setZones d zs := by
    split
    · exact v.refitZones_frame d
    · exact ⟨_, (v.setZones_self d).symm⟩
  obtain ⟨zs, refitted⟩ := refit
  dsimp only
  rw [refitted]
  split
  · rw [State.applyProfile_eq]
    exact ⟨_, v.setZones_setZones d _ _⟩
  · exact ⟨zs, rfl⟩

theorem State.refitDoor_atDoor : AtDoor d s (s.refitDoor d old e) := by
  obtain ⟨zs, h⟩ := s.refitDoor_frame d old e
  rw [h]
  exact (s.setDoor_atDoor d _).trans (State.setZones_atDoor _ d _)

theorem State.refitDoor_records :
    (s.refitDoor d old e).door d
        = (if e.driveClass = old.driveClass then s.door d else (s.door d).lowered (s.driveClass d))
      ∧ (s.refitDoor d old e).key d = s.key d ∧ (s.refitDoor d old e).lli = s.lli ∧ (s.refitDoor d old e).er = s.er := by
  obtain ⟨zs, h⟩ := s.refitDoor_frame d old e
  rw [h]
  exact ⟨s.door_setDoor_same d _, rfl, rfl, rfl⟩

theorem State.refitDoor_zone (z : ZoneId) :
    (s.refitDoor d old e).zone d z = (if e.inService then s.refit d z else s.zone d z).map
      fun r => if e.profile = old.profile then r else r.cutBy (s.sensing d) := by
  have effort : ∃ r, (if e.driveClass ≠ old.driveClass then s.clampEffort d else s) = s.setDoor d r := by
    split
    · exact ⟨_, s.clampEffort_eq d⟩
    · exact ⟨_, (s.setDoor_self d).symm⟩
  obtain ⟨r, effort⟩ := effort
  unfold State.refitDoor
  rw [effort]
  dsimp only
  have zone : (if e.inService then (s.setDoor d r).refitZones d else s.setDoor d r).zone d z
      = if e.inService then s.refit d z else s.zone d z := by
    split
    · exact State.refitZones_zone _ d z
    · rfl
  have sensing : (if e.inService then (s.setDoor d r).refitZones d else s.setDoor d r).sensing d = s.sensing d := by
    have ts : (if e.inService then (s.setDoor d r).refitZones d else s.setDoor d r).ts = s.ts := by
      split
      · exact State.ts_of_ground (State.refitZones_ground _ d)
      · rfl
    exact State.sensing_congr ts d
  by_cases profile : e.profile = old.profile
  · simp only [profile, ne_eq, not_true_eq_false, if_false, if_true, zone, Option.map_id']
  · simp only [profile, ne_eq, not_false_eq_true, if_true, if_false, State.applyProfile_zone, zone, sensing]
end RefitDoor

/-! ## A PDT write as a whole (R4) -/

/-- The state with a PDT entry written, before anything follows from it. -/
def State.withPdt (s : State) (d : DoorNo) (e : PdtEntry) : State :=
  s.setTables { s.ts.tables with pdt := s.ts.tables.pdt.set d e }

theorem State.withPdt_pdt (s : State) (d : DoorNo) (e : PdtEntry) : (s.withPdt d e).pdt d = e := by
  simp [State.withPdt, State.pdt, State.setTables]

/-- No berth holds a train or a platform door. -/
structure State.Clear (s : State) : Prop where
  noSpan : s.NoSpan
  notEnabled : ∀ (b : BerthId) (d : DoorNo), (s.berth b).platformEnable[d] = false

/-- The parts of a write that changes a PDT entry, with both berths clear. -/
structure PdtSteps (s t : State) (d : DoorNo) (e : PdtEntry) : Prop where
  event : AtDoor d s ((s.withPdt d e).serveEvent d (s.pdt d) e)
  served : AtDoor d s (((s.withPdt d e).serveEvent d (s.pdt d) e).refitDoor d (s.pdt d) e)
  told : DoorTold ((s.withPdt d e).serve d (s.pdt d) e) ((s.withPdt d e).serveEvent d (s.pdt d) e) d (s.door d).standing
  judged : t = (((s.withPdt d e).serveEvent d (s.pdt d) e).refitDoor d (s.pdt d) e).judgeLoops

theorem State.writePdt_steps {s : State} (clear : s.Clear) {d : DoorNo} {e : PdtEntry} (differs : e ≠ s.pdt d) :
    PdtSteps s (s.writePdt d e) d e := by
  have notEnabled : ∀ b, ((s.withPdt d e).berth b).platformEnable[d] = false := by
    intro b
    cases b
    · exact clear.notEnabled .A d
    · exact clear.notEnabled .B d
  have written : AtDoor d s (s.withPdt d e) := s.setTables_atDoor _ d
  have told := State.serveEvent_told (old := s.pdt d) notEnabled (s.withPdt_pdt d e) (written.noSpan clear.noSpan)
  have event := written.trans ((State.serve_atDoor (old := s.pdt d) notEnabled (s.withPdt_pdt d e)).trans told.atDoor)
  have served := event.trans (State.refitDoor_atDoor _ d (s.pdt d) e)
  have noTrain := served.noSpan clear.noSpan
  refine ⟨event, served, told, ?_⟩
  have steps : s.writePdt d e
      = (((s.withPdt d e).serveEvent d (s.pdt d) e).refitDoor d (s.pdt d) e).judgeLoops.handProofOfZone e.zone := by
    unfold State.writePdt
    rw [if_neg differs]
    rfl
  rw [steps, State.handProofOfZone_noSpan ((State.judgeLoops_atDoor noTrain d).noSpan noTrain)]

end Sys2Proof.Machine

namespace Sys2Proof.Machine

theorem Door.causeCode_congr {q r : Door} (h : q.standing = r.standing) : q.causeCode = r.causeCode := by
  obtain ⟨state, causes⟩ := Prod.mk.inj h
  obtain ⟨held, fault⟩ := Prod.mk.inj causes
  unfold Door.causeCode
  rw [state, held, fault]

/-- The DOOR_CHANGE of a door depends on its standing and the event mask alone. -/
theorem State.doorChange_congr {s t : State} {d : DoorNo} (mask : t.er.mask = s.er.mask)
    (standing : (t.door d).standing = (s.door d).standing) : t.doorChange d = s.doorChange d := by
  have state : (t.door d).state = (s.door d).state := congrArg Prod.fst standing
  unfold State.doorChange
  rw [state, Door.causeCode_congr standing, State.eventOf_congr mask]

theorem State.judgeLoops_keeps {s : State} (noTrain : s.NoSpan) :
    s.judgeLoops.doors = s.doors ∧ s.judgeLoops.zones = s.zones ∧ s.judgeLoops.ou = s.ou ∧ s.judgeLoops.lli = s.lli
      ∧ s.judgeLoops.er = s.er := by
  rw [State.judgeLoops_noSpan noTrain]
  exact ⟨rfl, rfl, rfl, rfl, rfl⟩

/-- The door record and the zone records of the door before its change of service is handed over, and what is handed over. -/
theorem State.Clear.serve_records {s : State} (clear : s.Clear) (d : DoorNo) (e : PdtEntry) :
    ((s.withPdt d e).serve d (s.pdt d) e).door d = (if GoesOut (s.pdt d) e then (s.door d).enterOut
        else if ComesIn (s.pdt d) e ∧ (s.door d).isoKey ≠ some true then (s.door d).enterUnknown else s.door d)
      ∧ ((s.withPdt d e).serve d (s.pdt d) e).zonesOf d
          = (if GoesOut (s.pdt d) e then Vector.replicate 6 none else s.zonesOf d)
      ∧ ((s.withPdt d e).serve d (s.pdt d) e).key d = (if GoesOut (s.pdt d) e then .unseen else s.key d)
      ∧ ((s.withPdt d e).serve d (s.pdt d) e).ts = (s.withPdt d e).ts
      ∧ ((s.withPdt d e).serve d (s.pdt d) e).lli = s.lli ∧ ((s.withPdt d e).serve d (s.pdt d) e).er = s.er :=
  State.serve_records (s := s.withPdt d e) (fun b => by cases b; exacts [clear.notEnabled .A d, clear.notEnabled .B d])
    (s.withPdt_pdt d e)

/-- A zone record made new by a write stands under every window length. -/
theorem State.newZone_cutBy (s : State) (d : DoorNo) (p : Option SensingProfile) : (s.newZone d).cutBy p = s.newZone d := by
  have empty : (s.newZone d).window = [] := by unfold State.newZone; split <;> rfl
  cases p with
  | none => rfl
  | some q =>
    show (s.newZone d).cutTo q.n = s.newZone d
    rw [ZoneRec.cutTo, empty, if_neg (by simp)]

/-- A zone record cut to the window length of the profile that a PDT write puts in force (R8). -/
def State.recut (s : State) (old e : PdtEntry) (r : ZoneRec) : ZoneRec :=
  if e.profile = old.profile then r else r.cutBy s.ts.tables.profiles[e.profile]

theorem State.recut_newZone (s : State) (old e : PdtEntry) (d : DoorNo) : s.recut old e (s.newZone d) = s.newZone d := by
  unfold State.recut
  split
  · rfl
  · exact s.newZone_cutBy d _

theorem State.newZone_congr {s t : State} {d : DoorNo} (h : t.comm (slotOfDoor d) = s.comm (slotOfDoor d)) :
    t.newZone d = s.newZone d := by
  unfold State.newZone; rw [h]
theorem State.key_congr {s t : State} (h : t.ou = s.ou) (d : DoorNo) : t.key d = s.key d := by unfold State.key; rw [h]

namespace PdtSteps
variable {s t : State} {d : DoorNo} {e : PdtEntry}

/-- The entry in force once the change of service is handed over. -/
theorem event_ts (h : PdtSteps s t d e) (clear : s.Clear) :
    ((s.withPdt d e).serveEvent d (s.pdt d) e).ts = (s.withPdt d e).ts := by
  obtain ⟨-, -, -, ts, -⟩ := clear.serve_records d e
  rw [h.told.frame]
  exact ts

theorem noTrain (h : PdtSteps s t d e) (clear : s.Clear) :
    (((s.withPdt d e).serveEvent d (s.pdt d) e).refitDoor d (s.pdt d) e).NoSpan := h.served.noSpan clear.noSpan

theorem atDoor (h : PdtSteps s t d e) (clear : s.Clear) : AtDoor d s t := by
  rw [h.judged]
  exact h.served.trans (State.judgeLoops_atDoor (h.noTrain clear) d)

/-- The door's record: out of service, UNKNOWN or as it was, its E lowered to the limit of a new class. -/
theorem door (h : PdtSteps s t d e) (clear : s.Clear) :
    t.door d = if e.driveClass = (s.pdt d).driveClass then ((s.withPdt d e).serve d (s.pdt d) e).door d
      else (((s.withPdt d e).serve d (s.pdt d) e).door d).lowered s.ts.tables.classes[e.driveClass] := by
  obtain ⟨doors, -⟩ := State.judgeLoops_keeps (h.noTrain clear)
  obtain ⟨record, -⟩ := ((s.withPdt d e).serveEvent d (s.pdt d) e).refitDoor_records d (s.pdt d) e
  have event : ((s.withPdt d e).serveEvent d (s.pdt d) e).door d = ((s.withPdt d e).serve d (s.pdt d) e).door d :=
    State.door_congr (by rw [h.told.frame]) d
  have limit : ((s.withPdt d e).serveEvent d (s.pdt d) e).driveClass d = s.ts.tables.classes[e.driveClass] := by
    rw [State.driveClass_congr (h.event_ts clear)]
    simp [State.driveClass, State.withPdt_pdt]
    rfl
  rw [h.judged, State.door_congr doors, record, event, limit]

theorem standing (h : PdtSteps s t d e) (clear : s.Clear) :
    (t.door d).standing = (((s.withPdt d e).serve d (s.pdt d) e).door d).standing := by
  rw [h.door clear]
  split <;> rfl

theorem key (h : PdtSteps s t d e) (clear : s.Clear) : t.key d = if GoesOut (s.pdt d) e then .unseen else s.key d := by
  obtain ⟨-, -, ou, -⟩ := State.judgeLoops_keeps (h.noTrain clear)
  obtain ⟨-, kept, -⟩ := ((s.withPdt d e).serveEvent d (s.pdt d) e).refitDoor_records d (s.pdt d) e
  obtain ⟨-, -, served, -⟩ := clear.serve_records d e
  have event : ((s.withPdt d e).serveEvent d (s.pdt d) e).key d = ((s.withPdt d e).serve d (s.pdt d) e).key d :=
    State.key_congr (by rw [h.told.frame]) d
  rw [h.judged, State.key_congr ou, kept, event, served]

/-- A zone's record once the change of service is handed over: gone with the entry, or as it was. -/
theorem event_zone (h : PdtSteps s t d e) (clear : s.Clear) (z : ZoneId) :
    ((s.withPdt d e).serveEvent d (s.pdt d) e).zone d z = if GoesOut (s.pdt d) e then none else s.zone d z := by
  obtain ⟨-, served, -⟩ := clear.serve_records d e
  have event : ((s.withPdt d e).serveEvent d (s.pdt d) e).zone d z = ((s.withPdt d e).serve d (s.pdt d) e).zone d z :=
    State.zone_congr (by rw [h.told.frame]) d z
  rw [event, State.zone, served]
  split
  · simp
  · rfl

theorem refitted_zone (h : PdtSteps s t d e) (clear : s.Clear) (z : ZoneId) :
    t.zone d z = (if e.inService then ((s.withPdt d e).serveEvent d (s.pdt d) e).refit d z
        else ((s.withPdt d e).serveEvent d (s.pdt d) e).zone d z).map (s.recut (s.pdt d) e) := by
  obtain ⟨-, zones, -⟩ := State.judgeLoops_keeps (h.noTrain clear)
  have profile : ((s.withPdt d e).serveEvent d (s.pdt d) e).sensing d = s.ts.tables.profiles[e.profile] := by
    rw [State.sensing_congr (h.event_ts clear)]
    simp [State.sensing, State.withPdt_pdt]
    rfl
  rw [h.judged, State.zone_congr zones, State.refitDoor_zone, profile]
  rfl

/-- The zones of an entry left out of service: gone with the entry, or cut. -/
theorem zone_out (h : PdtSteps s t d e) (clear : s.Clear) (out : e.inService = false) (z : ZoneId) :
    t.zone d z = if (s.pdt d).inService = true then none else (s.zone d z).map (s.recut (s.pdt d) e) := by
  rw [h.refitted_zone clear, h.event_zone clear, if_neg (by rw [out]; decide)]
  by_cases was : (s.pdt d).inService = true
  · rw [if_pos ⟨was, out⟩, if_pos was]; rfl
  · rw [if_neg fun h => was h.1, if_neg was]

/-- The zones of an entry in service: kept and cut, or new, where they are fitted, and none where they are not. -/
theorem zone_in (h : PdtSteps s t d e) (clear : s.Clear) (into : e.inService = true) (z : ZoneId) :
    t.zone d z = if e.fitted[z.idx] = true
      then some ((s.zone d z).elim (s.newZone d) (s.recut (s.pdt d) e)) else none := by
  have entry : ((s.withPdt d e).serveEvent d (s.pdt d) e).pdt d = e :=
    (State.pdt_congr (h.event_ts clear) d).trans (s.withPdt_pdt d e)
  have stays : ¬ GoesOut (s.pdt d) e := fun out => by rw [out.2] at into; exact absurd into (by decide)
  rw [h.refitted_zone clear, if_pos into, State.refit, entry, h.event_zone clear, if_neg stays,
    State.newZone_congr (h.event.comm _)]
  split
  · cases s.zone d z with
    | none => exact congrArg some (s.recut_newZone _ e d)
    | some r => rfl
  · rfl

/-- What is told of the write is the door's change, where its standing has changed; the change map and EVENTS_LOST follow it. -/
theorem telling (h : PdtSteps s t d e) (clear : s.Clear) :
    Tells s t (if (t.door d).standing = (s.door d).standing then [] else t.doorChange d) ∧ MapOnly s.er t.er
      ∧ ((t.door d).standing = (s.door d).standing → t.er = s.er)
      ∧ ((t.door d).standing ≠ (s.door d).standing → t.er.doorFlags[d] = true) := by
  obtain ⟨-, -, -, lli, er⟩ := State.judgeLoops_keeps (h.noTrain clear)
  obtain ⟨-, -, lli', er'⟩ := ((s.withPdt d e).serveEvent d (s.pdt d) e).refitDoor_records d (s.pdt d) e
  obtain ⟨-, -, -, -, lli'', er''⟩ := clear.serve_records d e
  have link := lli.trans (lli'.trans h.told.lli)
  have reporter := er.trans er'
  rw [← h.judged] at link reporter
  rw [lli''] at link
  have told := h.told.er
  rw [← reporter, lli'', er''] at told
  have change : (if (t.door d).standing = (s.door d).standing then [] else t.doorChange d)
      = ((s.withPdt d e).serve d (s.pdt d) e).changeOf d (s.door d).standing := by
    have mask : t.er.mask = ((s.withPdt d e).serve d (s.pdt d) e).er.mask := by rw [told, er'']
    rw [State.changeOf, h.standing clear, State.doorChange_congr mask (h.standing clear)]
  refine ⟨⟨by rw [change]; exact link, by rw [change, told]⟩, ?_, fun same => ?_, fun differs => ?_⟩
  · rw [MapOnly, told]
  · rw [reporter, h.told.quiet (by rw [← h.standing clear]; exact same), er'']
  · have flag := h.told.flagged (by rw [← h.standing clear]; exact differs)
    rwa [← reporter] at flag
end PdtSteps

/-- A write that changes a PDT entry, with both berths clear, does what R4 lays down. -/
theorem PdtSteps.written {s t : State} {d : DoorNo} {e : PdtEntry} (h : PdtSteps s.popRequest t d e) (clear : s.popRequest.Clear) :
    PdtWritten s t d (s.pdt d) e := by
  obtain ⟨frame, others⟩ := h.atDoor clear
  obtain ⟨record, -⟩ := clear.serve_records d e
  obtain ⟨tells, map, quiet, flagged⟩ := h.telling clear
  have samePdt : s.popRequest.pdt d = s.pdt d := rfl
  have sameDoor : s.popRequest.door d = s.door d := rfl
  refine ⟨?_, fun z => ?_, ?_, others, fun z => ?_, frame, map, tells, quiet, flagged⟩
  · rw [h.door clear, record, samePdt, sameDoor]
    by_cases sameClass : e.driveClass = (s.pdt d).driveClass
    · simp only [if_pos sameClass, and_assoc]
      split_ifs <;> rfl
    · simp only [if_neg sameClass, and_assoc]
      split_ifs <;> rfl
  · by_cases out : e.inService = false
    · rw [if_pos out]
      exact h.zone_out clear out z
    · rw [if_neg out, h.zone_in clear (by simpa using out)]
      by_cases fitted : e.fitted[z.idx] = true
      · rw [if_pos fitted, if_neg (by rw [fitted]; decide)]
        show some ((s.zone d z).elim _ _) = _
        cases s.zone d z with
        | none =>
          show some (s.newZone d) = _
          unfold State.newZone
          split <;> rfl
        | some r => rfl
      · rw [if_neg fitted, if_pos (by simpa using fitted)]
  · exact h.key clear
  · rw [h.judged]
    exact State.judgeLoops_judged (h.noTrain clear) z

end Sys2Proof.Machine

namespace Sys2Proof.Machine

/-! ## A Drive Class write, a Sensing Profile write and a settings write (R6, R8, R11) -/

/-- The limits of a list of distinct doors applied: each door's E lowered once, and nothing else. -/
theorem State.clampEfforts (s : State) {ds : List DoorNo} (distinct : ds.Nodup) :
    forDoors ds (fun d s => s.clampEffort d) s = { s with doors := (forDoors ds (fun d s => s.clampEffort d) s).doors }
      ∧ ∀ d, (forDoors ds (fun d s => s.clampEffort d) s).door d
          = if d ∈ ds then (s.door d).lowered (s.driveClass d) else s.door d := by
  refine ⟨?_, fun d => ?_⟩
  · exact forDoors_keeps
      (fun u : State => { u with doors := (forDoors ds (fun d s => s.clampEffort d) s).doors }) (fun d s => s.clampEffort d)
      (fun d u => by simp only [State.clampEffort_eq]; rfl) ds s
  · refine foldl_each State.door State.ts (fun u d => u.clampEffort d) (fun d r => r.lowered (s.driveClass d)) distinct
      (fun u d => State.ts_of_ground (u.clampEffort_ground d)) (fun u same d _ => ?_) (fun u d d' ne => ?_) d
    · rw [State.clampEffort_eq, State.door_setDoor_same, State.driveClass_congr same]
    · rw [State.clampEffort_eq, State.door_setDoor_ne _ _ ne]

/-- The profiles of a list of distinct doors applied: each door's zone records cut once, and nothing else. -/
theorem State.applyProfiles (s : State) {ds : List DoorNo} (distinct : ds.Nodup) :
    forDoors ds (fun d s => s.applyProfile d) s = { s with zones := (forDoors ds (fun d s => s.applyProfile d) s).zones }
      ∧ ∀ d z, (forDoors ds (fun d s => s.applyProfile d) s).zone d z
          = if d ∈ ds then (s.zone d z).map (fun r => r.cutBy (s.sensing d)) else s.zone d z := by
  refine ⟨?_, fun d z => ?_⟩
  · exact forDoors_keeps
      (fun u : State => { u with zones := (forDoors ds (fun d s => s.applyProfile d) s).zones }) (fun d s => s.applyProfile d)
      (fun d u => by simp only [State.applyProfile_eq]; rfl) ds s
  · refine foldl_each (fun u d => State.zone u d z) State.ts (fun u d => u.applyProfile d)
      (fun d r => r.map fun r => r.cutBy (s.sensing d)) distinct
      (fun u d => State.ts_of_ground (u.applyProfile_ground d)) (fun u same d _ => ?_) (fun u d d' ne => ?_) d
    · rw [State.applyProfile_zone, State.sensing_congr same]
    · rw [State.applyProfile_eq, State.zone, State.zonesOf_setZones_ne _ _ ne]
      rfl

/-- A Drive Class entry lowers the E of its doors: its limit falls, or it was unloaded (R6, R150). -/
def State.limitFalls (s : State) (i : Fin 4) (c : DriveClass) : Bool :=
  (s.ts.tables.classes[i]).all fun o => decide (c.limit < o.limit)

/-- The state with a Drive Class entry written, and with a Sensing Profile entry written, before anything follows from it. -/
def State.withClass (s : State) (i : Fin 4) (c : DriveClass) : State :=
  s.setTables { s.ts.tables with classes := s.ts.tables.classes.set i (some c) }
def State.withProfile (s : State) (i : Fin 8) (p : SensingProfile) : State :=
  s.setTables { s.ts.tables with profiles := s.ts.tables.profiles.set i (some p) }

theorem State.withClass_driveClass {s : State} {i : Fin 4} {d : DoorNo} (h : (s.pdt d).driveClass = i) (c : DriveClass) :
    (s.withClass i c).driveClass d = some c := by
  subst h
  exact Vector.getElem_set_self _
theorem State.withProfile_sensing {s : State} {i : Fin 8} {d : DoorNo} (h : (s.pdt d).profile = i) (p : SensingProfile) :
    (s.withProfile i p).sensing d = some p := by
  subst h
  exact Vector.getElem_set_self _

theorem State.writeClass_eq (s : State) (i : Fin 4) (c : DriveClass) :
    s.writeClass i c = forDoors (allDoors.filter fun d => (s.pdt d).driveClass == i && s.limitFalls i c)
      (fun d s => s.clampEffort d) (s.withClass i c) := by
  have falls : ((s.ts.tables.classes[i]).map fun o => decide (c.limit < o.limit)).getD true = s.limitFalls i c := by
    unfold State.limitFalls
    cases s.ts.tables.classes[i] <;> rfl
  unfold State.writeClass
  simp only [falls]
  split
  next yes => simp only [yes, Bool.and_true]; rfl
  next no => simp [no, forDoors, State.withClass]

theorem State.writeClass_written (s : State) (i : Fin 4) (c : DriveClass) :
    ClassWritten s (s.popRequest.writeClass i c) i c := by
  rw [State.writeClass_eq]
  obtain ⟨frame, doors⟩ := (s.popRequest.withClass i c).clampEfforts
    (allDoors_filter_nodup fun d => (s.popRequest.pdt d).driveClass == i && s.popRequest.limitFalls i c)
  refine ⟨by rw [frame]; rfl, fun d => (doors d).trans ?_⟩
  have member : d ∈ (allDoors.filter fun d => (s.popRequest.pdt d).driveClass == i && s.popRequest.limitFalls i c)
      ↔ (s.pdt d).driveClass = i ∧ s.limitFalls i c = true := by
    rw [mem_allDoors_filter, Bool.and_eq_true, beq_iff_eq]
    rfl
  by_cases concerned : (s.pdt d).driveClass = i ∧ s.limitFalls i c = true
  · rw [if_pos (member.mpr concerned), State.withClass_driveClass (s := s.popRequest) concerned.1]
    exact (if_pos concerned).symm
  · rw [if_neg (mt member.mp concerned)]
    exact (if_neg concerned).symm

theorem State.writeSensing_written (s : State) (i : Fin 8) (p : SensingProfile) :
    SensingWritten s (s.popRequest.writeSensing i p) i p.n := by
  obtain ⟨frame, zones⟩ := (s.popRequest.withProfile i p).applyProfiles
    (allDoors_filter_nodup fun d => (s.popRequest.pdt d).profile == i)
  have steps : s.popRequest.writeSensing i p = forDoors (allDoors.filter fun d => (s.popRequest.pdt d).profile == i)
      (fun d s => s.applyProfile d) (s.popRequest.withProfile i p) := rfl
  rw [steps]
  refine ⟨by rw [frame]; rfl, fun d z => (zones d z).trans ?_⟩
  have member : d ∈ (allDoors.filter fun d => (s.popRequest.pdt d).profile == i) ↔ (s.pdt d).profile = i := by
    rw [mem_allDoors_filter, beq_iff_eq]
    rfl
  by_cases concerned : (s.pdt d).profile = i
  · rw [if_pos (member.mpr concerned), State.withProfile_sensing (s := s.popRequest) concerned, if_pos concerned]
    rfl
  · rw [if_neg (mt member.mp concerned), if_neg concerned]
    rfl

theorem State.panel_congr {s t : State} (h : t.ou = s.ou) (z : Zone) : t.panel z = s.panel z := by
  cases z <;> simp only [State.panel, h]

theorem State.clampReopen_door (s : State) (d : DoorNo) :
    s.clampReopen.door d = { s.door d with reopenCount := min (s.door d).reopenCount s.settings.reopenLimit } := by
  simp [State.clampReopen, State.door]

/-- The records a settings write leaves before the panels are refitted and the loops judged (R11, R127, R211). -/
def State.withSettings (s : State) (c : Settings) : State :=
  let s1 := s.setTables { s.ts.tables with settings := c }
  let s2 := if c.reopenLimit < s.settings.reopenLimit then s1.clampReopen else s1
  { s2 with er := { s2.er with autoTimer := autoTimerAfter s2.er.autoTimer s.settings.autoSnapshot c.autoSnapshot } }

theorem State.writeSettings_eq (s : State) (c : Settings) : s.writeSettings c = (s.withSettings c).refitPanels.judgeLoops := rfl

theorem State.withSettings_frame (s : State) (c : Settings) :
    s.withSettings c = { s with
      ts := { s.ts with tables := { s.ts.tables with settings := c } }, doors := (s.withSettings c).doors
      er := { s.er with autoTimer := autoTimerAfter s.er.autoTimer s.settings.autoSnapshot c.autoSnapshot } } := by
  unfold State.withSettings
  dsimp only
  split <;> rfl

theorem State.withSettings_door (s : State) (c : Settings) (d : DoorNo) :
    (s.withSettings c).door d = if c.reopenLimit < s.settings.reopenLimit
      then { s.door d with reopenCount := min (s.door d).reopenCount c.reopenLimit } else s.door d := by
  unfold State.withSettings
  dsimp only
  split
  · exact State.clampReopen_door _ d
  · rfl

theorem autoTimerAfter_eq (t : Timer) (old new : Bool) :
    autoTimerAfter t old new = if new = old then t else if new = true then .running 60000 else .stopped := by
  cases old <;> cases new <;> rfl

theorem State.writeSettings_written {s : State} (noTrain : s.NoSpan) (c : Settings) :
    SettingsWritten s (s.popRequest.writeSettings c) c := by
  have noTrain' : (s.popRequest.withSettings c).refitPanels.NoSpan := by
    intro b
    rw [State.refitPanels_frame, State.withSettings_frame]
    cases b
    · exact noTrain .A
    · exact noTrain .B
  have judged := State.judgeLoops_judged noTrain'
  have frame : s.popRequest.writeSettings c = { (s.popRequest.withSettings c).refitPanels with
      loopFront := (s.popRequest.writeSettings c).loopFront, loopRear := (s.popRequest.writeSettings c).loopRear } := by
    rw [State.writeSettings_eq, State.judgeLoops_noSpan noTrain']
  obtain ⟨doors, -, ou, -, er⟩ := State.judgeLoops_keeps noTrain'
  rw [← State.writeSettings_eq] at doors ou er judged
  have settings : (s.popRequest.withSettings c).settings = c := by rw [State.withSettings_frame]; rfl
  have before : ∀ z, (s.popRequest.withSettings c).panel z = s.panel z := by
    intro z
    rw [State.withSettings_frame]
    cases z <;> rfl
  have panels : ∀ z, (s.popRequest.writeSettings c).panel z
      = if c.panelsFitted.fits z = true then some ((s.panel z).getD .fresh) else none := by
    intro z
    rw [State.panel_congr ou, State.refitPanels_panel, settings, before]
  have sameDoors : (s.popRequest.writeSettings c).doors = (s.popRequest.withSettings c).doors := by
    rw [doors, State.refitPanels_frame]
  have timer : (s.popRequest.writeSettings c).er.autoTimer
      = autoTimerAfter s.er.autoTimer s.settings.autoSnapshot c.autoSnapshot := by
    rw [er, State.refitPanels_frame, State.withSettings_frame]
    rfl
  refine ⟨?_, fun d => ?_, ?_, panels, judged⟩
  · rw [frame, State.refitPanels_frame, State.withSettings_frame]
    rfl
  · rw [State.door_congr sameDoors, State.withSettings_door]
    rfl
  · rw [timer, autoTimerAfter_eq]

end Sys2Proof.Machine

namespace Sys2Proof.Machine

/-! ## The checks of TABLE_WRITE (R12) -/

theorem tableAt_beyond_settings {p : List Byte} (h : 3 < u8 p 0) :
    tableAt p 0 = some .profile ∨ tableAt p 0 = some .store ∨ tableAt p 0 = none := by
  unfold tableAt
  split
  case _ e | _ e | _ e | _ e => omega
  case _ => exact .inl rfl
  case _ => exact .inr (.inl rfl)
  case _ => exact .inr (.inr rfl)

theorem State.tableWrite_eq (s : State) (p : List Byte) :
    s.tableWrite p = s.unlessRefused (tableWriteRefusal s p)
      ((tableAt p 0).elim (refuse s .range 1) fun t => s.writeEntry t (u8 p 1) p) := by
  have inRange : ∀ (t : TableId) (last : Nat), t.indices = last + 1 →
      (if t.indices ≤ u8 p 1 then refuse s .range 2 else s.writeEntry t (u8 p 1) p)
        = if last < u8 p 1 then refuse s .range 2 else s.writeEntry t (u8 p 1) p := by
    intro t last size
    exact if_congr (by omega) rfl rfl
  simp only [State.tableWrite, tableWriteRefusal, State.unlessRefused_ite, State.unlessRefused_some, State.unlessRefused_none,
    State.present_eq_false]
  refine if_congr Iff.rfl rfl (if_congr Iff.rfl rfl (if_congr Iff.rfl rfl ?_))
  match h : u8 p 0 with
  | 0 => simpa [tableAt, h] using inRange .pdt 47 rfl
  | 1 => simpa [tableAt, h] using inRange .driveClass 3 rfl
  | 2 => simpa [tableAt, h] using inRange .sensingProfile 7 rfl
  | 3 => simpa [tableAt, h] using inRange .settings 0 rfl
  | n + 4 =>
    rw [if_pos (by omega)]
    rcases tableAt_beyond_settings (p := p) (by omega) with e | e | e <;> rw [e]

/-- A write that no check of `tableWriteRefusal` stops is answered as its entry is. -/
theorem State.tableWrite_entry {s : State} {p : List Byte} (ok : tableWriteRefusal s p = none) {t : TableId}
    (named : tableAt p 0 = some t) : s.tableWrite p = s.writeEntry t (u8 p 1) p := by
  rw [State.tableWrite_eq, ok, named]
  rfl

/-- A write that no check stops finds both berths VACANT (check 3). -/
theorem tableWriteRefusal_vacant {s : State} {p : List Byte} (ok : tableWriteRefusal s p = none) (b : BerthId) :
    (s.berth b).state = .vacant := by
  unfold tableWriteRefusal at ok
  split at ok
  · cases ok
  split at ok
  · cases ok
  split at ok
  · cases ok
  next vacant =>
    push Not at vacant
    cases b
    · exact vacant.1
    · exact vacant.2

theorem VacantInv.clear {s : State} (inv : VacantInv s) (vacant : ∀ b : BerthId, (s.berth b).state = .vacant) : s.Clear where
  noSpan b := by
    obtain ⟨-, span, -⟩ := inv b (vacant b)
    exact span
  notEnabled b := by
    obtain ⟨-, -, -, -, -, -, -, -, -, -, -, -, -, enabled, -⟩ := inv b (vacant b)
    exact enabled

theorem State.Clear.popRequest {s : State} (clear : s.Clear) : s.popRequest.Clear where
  noSpan b := by cases b; exacts [clear.noSpan .A, clear.noSpan .B]
  notEnabled b := by cases b; exacts [clear.notEnabled .A, clear.notEnabled .B]

/-! ## Each table's entry: refused by its own checks, or written -/

section
variable (s : State) (i : Nat) {p : List Byte} {f : Nat}

theorem State.writeEntry_pdt_badField (bad : (rawPdtAt p).badField = some f) : s.writeEntry .pdt i p = refuse s .range f := by
  simp only [State.writeEntry, bad]
theorem State.writeEntry_pdt_badCross (fine : (rawPdtAt p).badField = none)
    (bad : s.ts.tables.pdtBadCross (Fin.ofNat 48 i) (rawPdtAt p).entry = some f) :
    s.writeEntry .pdt i p = refuse s .range f := by
  simp only [State.writeEntry, fine, bad]
theorem State.writeEntry_pdt (fine : (rawPdtAt p).badField = none)
    (crossed : s.ts.tables.pdtBadCross (Fin.ofNat 48 i) (rawPdtAt p).entry = none) :
    s.writeEntry .pdt i p = (s.writePdt (Fin.ofNat 48 i) (rawPdtAt p).entry, .ok) := by
  simp only [State.writeEntry, fine, crossed]

theorem State.writeEntry_class_badField (bad : (driveClassAt p).badField = some f) :
    s.writeEntry .driveClass i p = refuse s .range f := by
  simp only [State.writeEntry, bad]
theorem State.writeEntry_class_badCross (fine : (driveClassAt p).badField = none)
    (bad : (driveClassAt p).iHard ≤ (driveClassAt p).iNom) : s.writeEntry .driveClass i p = refuse s .range 4 := by
  simp only [State.writeEntry, fine, DriveClass.badCross, if_pos bad]
theorem State.writeEntry_class (fine : (driveClassAt p).badField = none)
    (crossed : (driveClassAt p).iNom < (driveClassAt p).iHard) :
    s.writeEntry .driveClass i p = (s.writeClass (Fin.ofNat 4 i) (driveClassAt p), .ok) := by
  simp only [State.writeEntry, fine, DriveClass.badCross, if_neg (Nat.not_le.mpr crossed)]

theorem State.writeEntry_sensing_badField (bad : (rawSensingAt p).badField = some f) :
    s.writeEntry .sensingProfile i p = refuse s .range f := by
  simp only [State.writeEntry, bad]
theorem State.writeEntry_sensing_badCross (fine : (rawSensingAt p).badField = none) (bad : (rawSensingAt p).badCross = some f) :
    s.writeEntry .sensingProfile i p = refuse s .range f := by
  simp only [State.writeEntry, fine, bad]
theorem State.writeEntry_sensing (fine : (rawSensingAt p).badField = none) (crossed : (rawSensingAt p).badCross = none) :
    s.writeEntry .sensingProfile i p = (s.writeSensing (Fin.ofNat 8 i) (rawSensingAt p).entry, .ok) := by
  simp only [State.writeEntry, fine, crossed]

theorem State.writeEntry_settings_badField (bad : (rawSettingsAt p).badField = some f) :
    s.writeEntry .settings i p = refuse s .range f := by
  simp only [State.writeEntry, bad]
theorem State.writeEntry_settings_badCross (fine : (rawSettingsAt p).badField = none)
    (bad : s.ts.tables.fitsExtents (rawSettingsAt p).block = false) : s.writeEntry .settings i p = refuse s .range 4 := by
  simp [State.writeEntry, fine, bad]
theorem State.writeEntry_settings (fine : (rawSettingsAt p).badField = none)
    (crossed : s.ts.tables.fitsExtents (rawSettingsAt p).block = true) :
    s.writeEntry .settings i p = (s.writeSettings (rawSettingsAt p).block, .ok) := by
  simp [State.writeEntry, fine, crossed]
end

/-- What a PDT write leaves: an entry written as it was has no effect, any other those of `PdtWritten`. -/
theorem State.writePdt_written {s : State} (clear : s.Clear) (d : DoorNo) (e : PdtEntry) :
    let t := s.popRequest.writePdt d e
    t.berthA = s.berthA ∧ t.berthB = s.berthB ∧ t.ou.list = s.ou.list
      ∧ if e = s.pdt d then t = s.popRequest else PdtWritten s t d (s.pdt d) e := by
  dsimp only
  by_cases same : e = s.pdt d
  · have unchanged : s.popRequest.writePdt d e = s.popRequest := if_pos same
    rw [if_pos same, unchanged]
    exact ⟨rfl, rfl, rfl, rfl⟩
  · have steps := State.writePdt_steps clear.popRequest (d := d) (e := e) same
    have atDoor := steps.atDoor clear.popRequest
    rw [if_neg same]
    exact ⟨atDoor.berths.1, atDoor.berths.2, atDoor.list, steps.written clear.popRequest⟩

/-- No write of a table changes a berth or the override list. -/
theorem ClassWritten.keeps {s t : State} {i : Fin 4} {c : DriveClass} (h : ClassWritten s t i c) :
    t.berthA = s.berthA ∧ t.berthB = s.berthB ∧ t.ou.list = s.ou.list := by
  obtain ⟨frame, -⟩ := h
  rw [frame]
  exact ⟨rfl, rfl, rfl⟩
theorem SensingWritten.keeps {s t : State} {i : Fin 8} {n : Nat} (h : SensingWritten s t i n) :
    t.berthA = s.berthA ∧ t.berthB = s.berthB ∧ t.ou.list = s.ou.list := by
  obtain ⟨frame, -⟩ := h
  rw [frame]
  exact ⟨rfl, rfl, rfl⟩
theorem SettingsWritten.keeps {s t : State} {c : Settings} (h : SettingsWritten s t c) :
    t.berthA = s.berthA ∧ t.berthB = s.berthB ∧ t.ou.list = s.ou.list := by
  obtain ⟨frame, -⟩ := h
  rw [frame]
  exact ⟨rfl, rfl, rfl⟩

/-- Settles O48: the checks before the entry's, then the entry's own by table, and the effects of each table's write. -/
theorem tableWriteReplaces : Obligations.TableWriteReplaces := by
  intro s src p taken inv
  have refused : ∀ {c : Code} {f : Nat}, s.popRequest.tableWrite p = refuse s.popRequest c f →
      exec (.tableWrite src p) s = .next (s.popRequest.refused Kind.tableWrite.code src c f) := fun e =>
    congrArg Host.Outcome.next (State.takeRequest_refused taken e)
  refine ⟨fun c f e => refused ?_, fun ok => ?_⟩
  · rw [State.tableWrite_eq, show tableWriteRefusal s.popRequest p = _ from e]
    rfl
  have entry : ∀ {t : TableId}, tableAt p 0 = some t →
      s.popRequest.tableWrite p = s.popRequest.writeEntry t (u8 p 1) p := fun named =>
    State.tableWrite_entry (s := s.popRequest) ok named
  have accepted : ∀ {t : State}, s.popRequest.tableWrite p = (t, .ok) →
      exec (.tableWrite src p) s = .next (t.accepted .tableWrite src []) := fun e =>
    congrArg Host.Outcome.next (State.takeRequest_accepted taken e)
  have clear := inv.clear (tableWriteRefusal_vacant ok)
  refine ⟨fun h => ?_, fun h => ?_, fun h => ?_, fun h => ?_⟩
  · have named : tableAt p 0 = some .pdt := by simp [tableAt, h]
    refine ⟨fun f bad => ?_, fun f fine bad => ?_, fun fine crossed => ⟨_, ?_, ?_, State.writePdt_written clear _ _⟩⟩
    · exact refused ((entry named).trans (s.popRequest.writeEntry_pdt_badField _ bad))
    · exact refused ((entry named).trans (s.popRequest.writeEntry_pdt_badCross _ fine bad))
    · exact accepted ((entry named).trans (s.popRequest.writeEntry_pdt _ fine crossed))
    · exact s.popRequest.writePdt_ts _ _
  · have named : tableAt p 0 = some .driveClass := by simp [tableAt, h]
    refine ⟨fun f bad => ?_, fun fine bad => ?_, fun fine crossed => ?_⟩
    · exact refused ((entry named).trans (s.popRequest.writeEntry_class_badField _ bad))
    · exact refused ((entry named).trans (s.popRequest.writeEntry_class_badCross _ fine bad))
    · have written := s.writeClass_written (Fin.ofNat 4 (u8 p 1)) (driveClassAt p)
      obtain ⟨berthA, berthB, list⟩ := written.keeps
      exact ⟨_, accepted ((entry named).trans (s.popRequest.writeEntry_class _ fine crossed)), s.popRequest.writeClass_ts _ _,
        berthA, berthB, list, written⟩
  · have named : tableAt p 0 = some .sensingProfile := by simp [tableAt, h]
    refine ⟨fun f bad => ?_, fun f fine bad => ?_, fun fine crossed => ?_⟩
    · exact refused ((entry named).trans (s.popRequest.writeEntry_sensing_badField _ bad))
    · exact refused ((entry named).trans (s.popRequest.writeEntry_sensing_badCross _ fine bad))
    · have written := s.writeSensing_written (Fin.ofNat 8 (u8 p 1)) (rawSensingAt p).entry
      obtain ⟨berthA, berthB, list⟩ := written.keeps
      exact ⟨_, accepted ((entry named).trans (s.popRequest.writeEntry_sensing _ fine crossed)), s.popRequest.writeSensing_ts _ _,
        berthA, berthB, list, written⟩
  · have named : tableAt p 0 = some .settings := by simp [tableAt, h]
    refine ⟨fun f bad => ?_, fun fine bad => ?_, fun fine crossed => ?_⟩
    · exact refused ((entry named).trans (s.popRequest.writeEntry_settings_badField _ bad))
    · exact refused ((entry named).trans (s.popRequest.writeEntry_settings_badCross _ fine bad))
    · have written := State.writeSettings_written clear.noSpan (rawSettingsAt p).block
      obtain ⟨berthA, berthB, list⟩ := written.keeps
      exact ⟨_, accepted ((entry named).trans (s.popRequest.writeEntry_settings _ fine crossed)), s.popRequest.writeSettings_ts _,
        berthA, berthB, list, written⟩

end Sys2Proof.Machine

namespace Sys2Proof.Machine

/-! # What the working part does to the link interface

Every operation of the working part but those of the link itself, a snapshot and an EDGE_STATUS admitted hands telegrams to the
transmit queue, and touches the link interface in no other way. This is said once for each, in the order of the model's
definitions. -/

/-- From `s` to `t` the link interface is offered some telegrams, one after another, and nothing else happens to it. -/
def OffersOnly (s t : State) : Prop := ∃ ts : List Telegram, t.lli = s.lli.offers ts

theorem OffersOnly.refl (s : State) : OffersOnly s s := ⟨[], rfl⟩

namespace OffersOnly

section
variable {s t : State} (h : OffersOnly s t)
include h

/-! ## Writing one record, and telling the station -/

theorem same {u : State} (e : u.lli = t.lli) : OffersOnly s u := by
  obtain ⟨ts, told⟩ := h
  exact ⟨ts, e.trans told⟩

theorem more {u : State} {us : List Telegram} (e : u.lli = t.lli.offers us) : OffersOnly s u := by
  obtain ⟨ts, told⟩ := h
  exact ⟨ts ++ us, by rw [e, told, LineLink.offers_append]⟩

theorem setDoor (d : DoorNo) (r : Door) : OffersOnly s (t.setDoor d r) := h
theorem setZones (d : DoorNo) (z : DoorZones) : OffersOnly s (t.setZones d z) := h
theorem setZone (d : DoorNo) (z : ZoneId) (r : Option ZoneRec) : OffersOnly s (t.setZone d z r) := h
theorem setKey (d : DoorNo) (k : KeyState) : OffersOnly s (t.setKey d k) := h
theorem setTest (x : RingTest) : OffersOnly s (t.setTest x) := h
theorem setTables (x : Tables) : OffersOnly s (t.setTables x) := h
theorem setTs (x : TableStore) : OffersOnly s { t with ts := x } := h
theorem setOu (x : OverrideUnit) : OffersOnly s { t with ou := x } := h
theorem setDoors (x : Vector Door 48) : OffersOnly s { t with doors := x } := h
theorem setDrm (x : RingMaster) : OffersOnly s { t with drm := x } := h
theorem setEr (x : EventReporter) : OffersOnly s { t with er := x } := h
theorem setBerth (b : BerthId) (r : Berth) : OffersOnly s (t.setBerth b r) := h.same (t.setBerth_lli b r)
theorem setLoop (z : Zone) (v : Bool) : OffersOnly s (t.setLoop z v) := h.same (t.setLoop_lli z v)
theorem setPanel (z : Zone) (p : Option Panel) : OffersOnly s (t.setPanel z p) := h.same (t.setPanel_lli z p)

theorem offer (x : Telegram) : OffersOnly s (t.offer x) := h.more (t.offer_lli_offers x)
theorem raise (e : EventKind) (n : Nat) (items : List Byte) : OffersOnly s (t.raise e n items) := h.more (t.raise_lli e n items)
theorem answer (src kind : Byte) (a : Answer) : OffersOnly s (t.answer src kind a) := by
  cases a with
  | accepted data => exact h.offer _
  | refused c f => exact h.offer _
  | deferred => exact h

/-- What each act of a fold only offers, the fold only offers. -/
theorem foldl {α : Type} {act : State → α → State} (each : ∀ ⦃u : State⦄ (x : α), OffersOnly s u → OffersOnly s (act u x))
    (l : List α) : OffersOnly s (l.foldl act t) := by
  induction l generalizing t with
  | nil => exact h
  | cons x l ih => exact ih (each x h)

/-- An act done only under a condition. -/
theorem onlyIf {act : State → State} {c : Prop} [Decidable c] (acts : ∀ ⦃u : State⦄, OffersOnly s u → OffersOnly s (act u)) :
    OffersOnly s (if c then act t else t) := by
  split
  · exact acts h
  · exact h

theorem forDoors {act : DoorNo → State → State} (each : ∀ ⦃u : State⦄ (d : DoorNo), OffersOnly s u → OffersOnly s (act d u))
    (ds : List DoorNo) : OffersOnly s (forDoors ds act t) := h.foldl each ds

/-- An owner that refuses changes nothing. -/
theorem unlessRefused (refusal : Option (Code × Nat)) {act : State × Answer} (acted : OffersOnly s act.1) :
    OffersOnly s (t.unlessRefused refusal act).1 := by
  cases refusal with
  | none => exact acted
  | some r => exact h

/-! ## Departure proof and hand-overs -/

theorem reportBerth (b : BerthId) (st : BerthState) (c : Option CloseCause) (n : Nat) :
    OffersOnly s (t.reportBerth b st c n) :=
  (h.setEr _).raise _ _ _
theorem reportBerthNow (b : BerthId) : OffersOnly s (t.reportBerthNow b) := h.reportBerth b _ _ _
theorem offerBerthStatus (b : BerthId) : OffersOnly s (t.offerBerthStatus b) := h.offer _
theorem reportDoor (d : DoorNo) : OffersOnly s (t.reportDoor d) := h.more (t.reportDoor_lli d)

theorem evaluateProof (b : BerthId) : OffersOnly s (t.evaluateProof b) := by
  rcases t.evaluateProof_cases b with ⟨-, -, gained⟩ | ⟨-, -, lost⟩ | same
  · rw [gained]; exact (h.setBerth b _).offer _
  · rw [lost]; exact (h.setBerth b _).offer _
  · rw [same]; exact h
theorem handProof (b : BerthId) : OffersOnly s (t.handProof b) := by
  unfold State.handProof
  dsimp only
  split
  · exact h.evaluateProof b
  · exact ((h.evaluateProof b).reportBerthNow b).offerBerthStatus b
theorem handProofOfZone (z : Zone) : OffersOnly s (t.handProofOfZone z) := by
  refine h.foldl (fun u b h => ?_) _
  split
  · exact h.handProof b
  · exact h
theorem judgeLoop (z : Zone) : OffersOnly s (t.judgeLoop z) := by
  unfold State.judgeLoop
  split
  · exact h
  · exact (h.setLoop z _).handProofOfZone z
theorem judgeLoops : OffersOnly s t.judgeLoops := (h.judgeLoop .front).judgeLoop .rear
theorem handDoor (d : DoorNo) : OffersOnly s (t.handDoor d) := ((h.judgeLoop _).handProofOfZone _).reportDoor d

theorem enterProving (b : BerthId) (c : CloseCause) : OffersOnly s (t.enterProving b c) := h.setBerth b _
theorem finishProving (b : BerthId) : OffersOnly s (t.finishProving b) := by
  unfold State.finishProving
  dsimp only
  have proving := (h.evaluateProof b).reportBerth b .proving (t.berth b).closeCause ((t.berth b).trainNumber.getD 0)
  split
  · exact (proving.reportBerthNow b).offerBerthStatus b
  · exact proving.offerBerthStatus b

end

/-- An event on a door record offers only what its act and one hand-over offer (R116). -/
theorem doorEvent {s t : State} {d : DoorNo} {f : State → State} (acted : OffersOnly s (f t)) : OffersOnly s (t.doorEvent d f) := by
  unfold State.doorEvent
  split
  · exact acted
  · exact acted.handDoor d

section
variable {s t : State} (h : OffersOnly s t)
include h

/-! ## Doors -/

theorem putReason (d : DoorNo) (v : Bool) (k : Reason) : OffersOnly s (t.putReason d v k) := doorEvent (h.setDoor d _)
theorem addReason (d : DoorNo) (k : Reason) : OffersOnly s (t.addReason d k) := h.putReason d true k
theorem removeReasons (d : DoorNo) (ks : List Reason) : OffersOnly s (t.removeReasons d ks) :=
  h.foldl (fun _ k h => h.putReason d false k) ks

theorem faultDoor (d : DoorNo) (c : FaultCause) : OffersOnly s (t.faultDoor d c) := by
  unfold State.faultDoor
  dsimp only
  split
  · exact h.setDoor d _
  · exact (h.setDoor d _).raise _ _ _
theorem reopenOrHold (d : DoorNo) : OffersOnly s (t.reopenOrHold d) := by
  unfold State.reopenOrHold
  dsimp only
  split
  · exact h
  · split
    · exact h.setDoor d _
    · exact (h.setDoor d _).raise _ _ _
theorem reopenTrigger (d : DoorNo) : OffersOnly s (t.reopenTrigger d) := doorEvent (h.reopenOrHold d)
theorem latchReset (d : DoorNo) : OffersOnly s (t.latchReset d) := by
  refine doorEvent ?_
  dsimp only
  split
  · exact h
  · split <;> exact h.setDoor d _

theorem dropFromBerths (d : DoorNo) : OffersOnly s (t.dropFromBerths d) := by
  refine h.foldl (fun u b h => ?_) _
  split
  · exact h.setBerth b _
  · exact h
theorem leaveService (d : DoorNo) : OffersOnly s (t.leaveService d) :=
  (((h.setDoor d _).dropFromBerths d).setZones d _).setKey d _

theorem readopt (d : DoorNo) (u : UnitStatus) (iso recovered : Bool) : OffersOnly s (t.readopt d u iso recovered) := by
  unfold State.readopt
  dsimp only
  have taken := h.setDoor d { (t.door d).still with lastStatus := some u, isoKey := some iso, reopenCount := 0, returning := false }
  split
  · split
    · exact taken.setDoor d _
    · exact taken.leaveService d
  · split
    · exact taken.faultDoor d _
    · split
      · exact (taken.setDoor d _).raise _ _ _
      · split <;> exact taken.setDoor d _
theorem fireOnReturn (d : DoorNo) : OffersOnly s (t.fireOnReturn d) := by
  unfold State.fireOnReturn
  split
  · exact h.addReason d _
  · exact h
theorem readoptEvent (d : DoorNo) (u : UnitStatus) (iso recovered : Bool) : OffersOnly s (t.readoptEvent d u iso recovered) := by
  have event : OffersOnly s (t.doorEvent d fun s => s.readopt d u iso recovered) := doorEvent (h.readopt d u iso recovered)
  unfold State.readoptEvent
  dsimp only
  split
  · exact event.fireOnReturn d
  · exact event
theorem faultClear (d : DoorNo) : OffersOnly s (t.faultClear d) := by
  unfold State.faultClear
  dsimp only
  split
  · split
    · exact h.readoptEvent d _ _ _
    · exact h
  · exact h

theorem applyLeaf (d : DoorNo) (u : UnitStatus) : OffersOnly s (t.applyLeaf d u) := by
  unfold State.applyLeaf
  dsimp only
  split
  · split
    · exact h.setDoor d _
    · exact h
  · split
    · exact h.setDoor d _
    · split
      · exact h.setDoor d _
      · exact h
  · split
    · exact h.faultDoor d _
    · exact h
  · split
    · exact h.setDoor d _
    · exact h
  · exact h
theorem applyRules (d : DoorNo) (u : UnitStatus) (wasManual : Bool) : OffersOnly s (t.applyRules d u wasManual) := by
  unfold State.applyRules
  dsimp only
  split
  · exact h.faultDoor d _
  · split
    · exact (h.setDoor d _).raise _ _ _
    · split
      · split <;> exact h.setDoor d _
      · exact h.applyLeaf d u
theorem applyStatus (d : DoorNo) (u : UnitStatus) (iso : Bool) : OffersOnly s (t.applyStatus d u iso) := by
  unfold State.applyStatus
  dsimp only
  split
  · exact h.readoptEvent d u iso false
  · split
    · exact h.readoptEvent d u iso false
    · refine doorEvent ?_
      have known := h.setDoor d { t.door d with lastStatus := some u, isoKey := some iso }
      split
      · exact known.leaveService d
      · exact known.applyRules d u _
theorem commLostNotice (d : DoorNo) : OffersOnly s (t.commLostNotice d) := by
  refine doorEvent ?_
  dsimp only
  split
  · exact h.setDoor d _
  · exact (h.setDoor d _).faultDoor d _

theorem pdtOut (d : DoorNo) : OffersOnly s (t.pdtOut d) := doorEvent (h.leaveService d)
theorem pdtIn (d : DoorNo) : OffersOnly s (t.pdtIn d) := by
  refine doorEvent ?_
  split
  · exact h
  · exact h.setDoor d _

theorem motionExpiry (d : DoorNo) : OffersOnly s (t.motionExpiry d) := by
  unfold State.motionExpiry
  split
  · exact h
  · exact doorEvent (h.faultDoor d _)
theorem lockProofExpiry (d : DoorNo) : OffersOnly s (t.lockProofExpiry d) := by
  unfold State.lockProofExpiry
  split
  · exact h
  · exact doorEvent (h.faultDoor d _)
theorem recloseExpiry (d : DoorNo) : OffersOnly s (t.recloseExpiry d) := by
  unfold State.recloseExpiry
  split
  · exact h
  · refine doorEvent ?_
    split <;> exact h.setDoor d _

/-! ## Sensing and effort -/

theorem handSensed (d : DoorNo) (z : ZoneId) (p : SensingProfile) (occupied : Bool) :
    OffersOnly s (t.handSensed d z p occupied) := by
  have counted := (h.setDoor d ((t.door d).count DoorCounters.incGapEvents)).raise .gapOccupied d.val (enc1 z.idx.val)
  unfold State.handSensed
  dsimp only
  split
  · refine OffersOnly.handProofOfZone ?_ _
    split
    · have intruded := counted.raise .intrusion d.val (enc1 z.idx.val)
      split
      · refine OffersOnly.reopenTrigger ?_ d
        split
        · exact intruded
        · exact counted
      · split
        · exact intruded
        · exact counted
    · exact h
  · split
    · exact h.reopenTrigger d
    · exact h
theorem handGap (d : DoorNo) (z : ZoneId) : OffersOnly s (t.handGap d z) := by
  unfold State.handGap
  split
  · exact h.handProofOfZone _
  · exact h
theorem sampleZone (d : DoorNo) (bit : Bool) (z : ZoneId) : OffersOnly s (t.sampleZone d bit z) := by
  unfold State.sampleZone
  split
  · split
    · exact h
    · dsimp only
      have told : ∀ (same : Prop) [Decidable same] (r : Option ZoneRec) (p : SensingProfile) (occupied : Bool),
          OffersOnly s (if same then t.setZone d z r else (t.setZone d z r).handSensed d z p occupied) := by
        intro same _ r p occupied
        split
        · exact h.setZone d z r
        · exact (h.setZone d z r).handSensed d z p occupied
      split
      · exact ((told _ _ _ _).raise _ _ _).handGap d z
      · exact told _ _ _ _
  · exact h
theorem takeSensors (d : DoorNo) (r : Reply) : OffersOnly s (t.takeSensors d r) :=
  h.foldl (fun _ z h => h.sampleZone d _ z) _

/-- A zone record replaced, and handed on where its state changed. -/
theorem rezone (same : Prop) [Decidable same] (d : DoorNo) (z : ZoneId) (r : Option ZoneRec) :
    OffersOnly s (if same then t.setZone d z r else (t.setZone d z r).handGap d z) := by
  split
  · exact h.setZone d z r
  · exact (h.setZone d z r).handGap d z
theorem forceZones (d : DoorNo) : OffersOnly s (t.forceZones d) := by
  refine h.foldl (fun u z h => ?_) _
  dsimp only
  split
  · exact h.rezone _ d z _
  · exact h
theorem recoverZones (d : DoorNo) : OffersOnly s (t.recoverZones d) := by
  refine h.foldl (fun u z h => ?_) _
  dsimp only
  split
  · exact h.rezone _ d z _
  · exact h
theorem stuckClear (d : DoorNo) : OffersOnly s (t.stuckClear d) := by
  refine h.foldl (fun u z h => ?_) _
  split
  · split
    · exact (h.setZone d z _).handGap d z
    · exact h
  · exact h
theorem applyProfile (d : DoorNo) : OffersOnly s (t.applyProfile d) := by
  rw [State.applyProfile_eq]; exact h.setZones d _
theorem refitZones (d : DoorNo) : OffersOnly s (t.refitZones d) := by
  obtain ⟨x, e⟩ := t.refitZones_frame d
  rw [e]; exact h.setZones d x

theorem tripDoor (d : DoorNo) : OffersOnly s (t.tripDoor d) := by
  unfold State.tripDoor
  split
  case h_1 => exact h.reopenOrHold d
  case h_2 | h_3 => exact h.setDoor d _
  case h_4 | h_5 | h_6 | h_7 => exact h.faultDoor d _
  case h_8 | h_9 | h_10 => exact h
theorem trip (d : DoorNo) (c : DriveClass) (cause : TripCause) (i : Nat) : OffersOnly s (t.trip d c cause i) :=
  doorEvent (((h.setDoor d _).raise _ _ _).tripDoor d)
theorem takeCurrent (d : DoorNo) (i : Nat) : OffersOnly s (t.takeCurrent d i) := by
  unfold State.takeCurrent
  dsimp only
  split
  · exact h
  · split
    · exact h
    · split
      · exact h.setDoor d _
      · split
        · exact h.trip d _ _ i
        · split
          · split
            · exact h.trip d _ _ i
            · exact h.setDoor d _
          · exact h.setDoor d _
theorem clampEffort (d : DoorNo) : OffersOnly s (t.clampEffort d) := by
  rw [State.clampEffort_eq]; exact h.setDoor d _

/-! ## Berths -/

theorem computeAlignment (b : BerthId) : OffersOnly s (t.computeAlignment b) := by
  refine (h.setBerth b _).forDoors (fun u d h => ?_) _
  dsimp only
  split
  · split
    · exact (h.addReason d _).addReason d _
    · exact h.addReason d _
  · split
    · exact h.addReason d _
    · exact h
theorem shutDoors (ds : List DoorNo) (ks : List Reason) : OffersOnly s (t.shutDoors ds ks) :=
  (h.forDoors (fun _ d h => h.removeReasons d ks) ds).forDoors (fun _ d h => h.latchReset d) ds
theorem withdrawForRelease (b : BerthId) : OffersOnly s (t.withdrawForRelease b) := by
  unfold State.withdrawForRelease
  split
  · exact (h.setBerth b _).offer _
  · exact h
theorem releaseBerth (b : BerthId) : OffersOnly s (t.releaseBerth b) :=
  ((((h.withdrawForRelease b).setBerth b _).forDoors (fun _ d h => h.addReason d _) _).reportBerthNow b).offerBerthStatus b
theorem announce (b : BerthId) (sp : Span) (train : Nat) (consist : List TrainUnit) :
    OffersOnly s (t.announce b sp train consist) := ((h.setBerth b _).reportBerthNow b).offerBerthStatus b
theorem computeAt (b : BerthId) (e : Int) : OffersOnly s (t.computeAt b e) := (h.setBerth b _).computeAlignment b
theorem creepStep (b : BerthId) (e : Int) : OffersOnly s (t.creepStep b e) := (h.raise _ _ _).computeAt b e
theorem movingStep (b : BerthId) : OffersOnly s (t.movingStep b) := h.setBerth b _
theorem protectiveClose (b : BerthId) (c : CloseCause) {step : State → State}
    (stepped : ∀ ⦃u : State⦄, OffersOnly s u → OffersOnly s (step u)) : OffersOnly s (t.protectiveClose b c step) :=
  (stepped ((h.forDoors (fun _ d h => h.putReason d false _) _).enterProving b c)).finishProving b
theorem actOnReport (b : BerthId) (e : Int) (standstill : Bool) : OffersOnly s (t.actOnReport b e standstill) := by
  unfold State.actOnReport
  dsimp only
  split
  · split
    · exact (((h.computeAt b e).setBerth b _).reportBerthNow b).offerBerthStatus b
    · exact h
  · split
    · exact (h.computeAt b e).offerBerthStatus b
    · exact ((h.setBerth b _).reportBerthNow b).offerBerthStatus b
  · split
    · exact h.protectiveClose b _ fun _ h => h.movingStep b
    · split
      · exact h.protectiveClose b _ fun _ h => h.creepStep b e
      · exact h
  all_goals exact h
theorem vacate (b : BerthId) : OffersOnly s (t.vacate b) := ((h.setBerth b _).reportBerth b _ _ _).offerBerthStatus b

/-! ## Ring test and overrides -/

theorem judgeTest (sel : SlotNo → Option Reply) : OffersOnly s (t.judgeTest sel) := by
  unfold State.judgeTest
  dsimp only
  split
  · split
    · exact (h.setTest _).offer _
    · exact h.setTest _
  · exact h
theorem abortTest : OffersOnly s t.abortTest := by
  unfold State.abortTest
  dsimp only
  split
  · exact (h.setDrm _).offer _
  · exact h
theorem enterMode (k : OverrideKind) : OffersOnly s (t.enterMode k) := by
  have raised : OffersOnly s (State.raiseMode { t with ou := { t.ou with list := t.ou.list ++ [k] } } k 0) :=
    (h.setOu _).raise _ _ _
  unfold State.enterMode
  dsimp only
  split
  · exact raised.abortTest
  · exact raised
theorem leaveMode (k : OverrideKind) : OffersOnly s (t.leaveMode k) := by
  have raised : OffersOnly s (State.raiseMode { t with ou := { t.ou with list := t.ou.list.filter (· != k) } } k 1) :=
    (h.setOu _).raise _ _ _
  unfold State.leaveMode
  dsimp only
  split
  · exact raised.abortTest
  · exact raised
theorem leaveMaint : OffersOnly s t.leaveMaint := by
  refine OffersOnly.forDoors (OffersOnly.leaveMode ?_ _) (fun _ d h => h.putReason d false _) _
  split
  · exact h.leaveMode _
  · exact h
theorem enterEvac : OffersOnly s t.enterEvac := (h.enterMode _).forDoors (fun _ d h => h.addReason d _) _
theorem enterFire : OffersOnly s t.enterFire := by
  unfold State.enterFire
  split
  · exact h
  · exact (h.enterMode _).forDoors (fun _ d h => h.addReason d _) _
theorem leaveFire : OffersOnly s t.leaveFire := by
  unfold State.leaveFire
  split
  · exact h.leaveMode _
  · exact h
theorem takeFire : OffersOnly s t.takeFire := by
  unfold State.takeFire
  dsimp only
  split
  · exact h
  · split
    · exact OffersOnly.enterFire (h.same rfl)
    · exact OffersOnly.leaveFire (h.same rfl)

theorem takeKey (d : DoorNo) (on : Bool) : OffersOnly s (t.takeKey d on) := by
  unfold State.takeKey
  split
  · exact h.setKey d _
  · exact h.setKey d _
  · split
    · exact (h.addReason d _).setKey d _
    · exact (h.setKey d _).raise _ _ _
  · exact h
  · exact h
  · exact h
  · exact (h.putReason d _ _).setKey d _
  · exact (h.putReason d _ _).setKey d _
theorem loseKey (d : DoorNo) : OffersOnly s (t.loseKey d) := (h.putReason d _ _).setKey d _

theorem panelClose (z : Zone) : OffersOnly s (t.panelClose z) := by
  have shut := h.shutDoors (t.panelDoors z) panelCloseReasons
  unfold State.panelClose
  dsimp only
  split
  · exact h
  · split
    · split
      · exact (shut.enterProving _ _).finishProving _
      · exact shut
    · exact shut
theorem resetDoor (d : DoorNo) : OffersOnly s (t.resetDoor d) := by
  refine OffersOnly.stuckClear ?_ d
  split
  · exact h.latchReset d
  · exact h.faultClear d
  · exact h
theorem panelReset (z : Zone) : OffersOnly s (t.panelReset z) := h.forDoors (fun _ d h => h.resetDoor d) _
theorem panelOpen (z : Zone) : OffersOnly s (t.panelOpen z) := by
  unfold State.panelOpen
  split
  · refine h.forDoors (fun u d h => ?_) _
    split
    · exact h.addReason d _
    · exact h
  · split
    · split
      · exact h.releaseBerth _
      · exact h
    · exact h
theorem panelReply (z : Zone) (r : Reply) : OffersOnly s (t.panelReply z r) := by
  unfold State.panelReply
  split
  · exact h
  · dsimp only
    split
    · exact h.setPanel z _
    · refine OffersOnly.onlyIf (act := (State.panelOpen · z)) ?_ fun _ h => h.panelOpen z
      refine OffersOnly.onlyIf (act := (State.panelReset · z)) ?_ fun _ h => h.panelReset z
      exact OffersOnly.onlyIf (act := (State.panelClose · z)) (h.setPanel z _) fun _ h => h.panelClose z
theorem refitPanel (z : Zone) : OffersOnly s (t.refitPanel z) := by
  rw [State.refitPanel_eq]; exact h.setPanel z _

/-! ## The ring cycle -/

theorem takeConfigured : OffersOnly s t.takeConfigured := h.setDrm _
theorem countRing : OffersOnly s t.countRing := h.setDoors _
theorem moveComm : OffersOnly s t.moveComm := h.setDrm _
theorem judgeRing : OffersOnly s t.judgeRing := by
  unfold State.judgeRing
  dsimp only
  split
  · exact h
  · exact (h.setDrm _).raise _ _ _
theorem handReply (d : DoorNo) (r : Reply) : OffersOnly s (t.handReply d r) :=
  (((h.takeSensors d r).takeCurrent d _).applyStatus d _ _).takeKey d _
theorem handDoorSlot (d : DoorNo) (x : Handing) : OffersOnly s (t.handDoorSlot d x) := by
  unfold State.handDoorSlot
  split
  · exact h
  · exact h.handReply d _
  · exact (((h.raise _ _ _).commLostNotice d).forceZones d).loseKey d
  · exact (((h.raise _ _ _).recoverZones d).readoptEvent d _ _ _).handReply d _
theorem handKeyAlone (d : DoorNo) (sel : Option Reply) : OffersOnly s (t.handKeyAlone d sel) := by
  unfold State.handKeyAlone
  split
  · exact h.setDoor d _
  · exact h
theorem handPanelSlot (z : Zone) (x : Handing) : OffersOnly s (t.handPanelSlot z x) := by
  unfold State.handPanelSlot
  split
  · exact h
  · exact h.panelReply z _
  · exact (h.raise _ _ _).setPanel z _
  · exact (h.raise _ _ _).panelReply z _
theorem handSlot (i : SlotNo) (x : Option Handing) (sel : Option Reply) : OffersOnly s (t.handSlot i x sel) := by
  unfold State.handSlot
  split
  · exact h.handDoorSlot _ _
  · exact h.handKeyAlone _ sel
  · exact h.handPanelSlot _ _
  · exact h
theorem startCycle (n : BitVec 8) : OffersOnly s (t.startCycle n) := by
  rw [State.startCycle_frame]; exact h.same rfl
theorem closeSelections : OffersOnly s t.closeSelections := h.takeConfigured.countRing.moveComm.judgeRing.judgeTest _
theorem closeCycle (order : List SlotNo) : OffersOnly s (t.closeCycle order) :=
  (h.closeSelections.foldl (fun _ i h => h.handSlot i _ _) _).startCycle _

/-! ## Table writes, the end of a save, the end of STARTING -/

theorem writePdt (d : DoorNo) (e : PdtEntry) : OffersOnly s (t.writePdt d e) := by
  have written := h.setTables { t.ts.tables with pdt := t.ts.tables.pdt.set d e }
  unfold State.writePdt
  dsimp only
  split
  · exact h
  · refine OffersOnly.handProofOfZone (OffersOnly.judgeLoops ?_) _
    refine OffersOnly.onlyIf (act := (State.applyProfile · d)) ?_ fun _ h => h.applyProfile d
    refine OffersOnly.onlyIf (act := (State.refitZones · d)) ?_ fun _ h => h.refitZones d
    refine OffersOnly.onlyIf (act := (State.clampEffort · d)) ?_ fun _ h => h.clampEffort d
    split
    · exact written.pdtOut d
    · exact OffersOnly.onlyIf (act := (State.pdtIn · d)) written fun _ h => h.pdtIn d

theorem writeClass (i : Fin 4) (c : DriveClass) : OffersOnly s (t.writeClass i c) := by
  unfold State.writeClass
  dsimp only
  split
  · exact (h.setTables _).forDoors (fun _ d h => h.clampEffort d) _
  · exact h.setTables _
theorem writeSensing (i : Fin 8) (p : SensingProfile) : OffersOnly s (t.writeSensing i p) :=
  (h.setTables _).forDoors (fun _ d h => h.applyProfile d) _
theorem writeSettings (c : Settings) : OffersOnly s (t.writeSettings c) := by
  rw [State.writeSettings_eq]
  refine ((OffersOnly.refitPanel ?_ _).refitPanel _).judgeLoops
  rw [State.withSettings_frame]
  exact h.same rfl

theorem writeEntry (x : TableId) (i : Nat) (p : List Byte) : OffersOnly s (t.writeEntry x i p).1 := by
  cases x <;> simp only [State.writeEntry]
  case pdt =>
    split
    · exact h
    · exact h
    · exact h.writePdt _ _
  case driveClass =>
    split
    · exact h
    · exact h
    · exact h.writeClass _ _
  case sensingProfile =>
    split
    · exact h
    · exact h
    · exact h.writeSensing _ _
  case settings =>
    split
    · exact h
    · split
      · exact h.writeSettings _
      · exact h
  case profile => exact h
  case store => exact h

theorem answerSave (result : Byte) : OffersOnly s (t.answerSave result) := h.answer _ _ _
theorem failSave : OffersOnly s t.failSave := (h.setTs _).answerSave _
theorem succeedSave : OffersOnly s t.succeedSave := by
  unfold State.succeedSave
  refine OffersOnly.answerSave ?_ _
  split
  · exact (h.setTs _).judgeLoops
  · exact h.setTs _

theorem beginWork : OffersOnly s t.beginWork := by
  have loaded : OffersOnly s t.loadTables := by rw [State.loadTables_frame]; exact h.same rfl
  exact ((loaded.startCycle 0).judgeLoops.takeFire).setEr _

/-! ## The owners of the requests, in the order of the request kinds (R26) -/

theorem arrival (p : List Byte) : OffersOnly s (t.arrival p).1 := by
  unfold State.arrival
  split
  · exact h
  · exact h
  · split; · exact h
    split; · exact h
    iterate 6 (split; · exact h)
    exact h.announce _ _ _ _
theorem stopReport (p : List Byte) : OffersOnly s (t.stopReport p).1 := by
  unfold State.stopReport
  split
  · exact h
  · exact h
  · split; · exact h
    exact (h.setBerth _ _).actOnReport _ _ _
theorem release (p : List Byte) : OffersOnly s (t.release p).1 := by
  unfold State.release
  split
  · exact h
  · exact h
  · dsimp only
    iterate 4 (split; · exact h)
    exact h.releaseBerth _
theorem close (p : List Byte) : OffersOnly s (t.close p).1 := by
  unfold State.close
  split; · exact h
  split; · exact h
  split
  · exact h
  · exact h
  · exact h
  · exact ((h.shutDoors _ _).enterProving _ _).finishProving _
  · exact h.shutDoors _ _
  · exact h.shutDoors _ _
theorem cancel (p : List Byte) : OffersOnly s (t.cancel p).1 := by
  unfold State.cancel
  split; · exact h
  split
  · exact h.vacate _
  · exact h.vacate _
  all_goals exact h
theorem departed (p : List Byte) : OffersOnly s (t.departed p).1 := by
  unfold State.departed
  split; · exact h
  split
  · exact ((h.setBerth _ _).offer _).vacate _
  · exact h
theorem evacuate (p : List Byte) : OffersOnly s (t.evacuate p).1 := by
  unfold State.evacuate
  split
  · exact h
  · iterate 2 (split; · exact h)
    exact h.enterEvac
  · split
    · exact h.leaveMode _
    · exact h
theorem berthQuery (p : List Byte) : OffersOnly s (t.berthQuery p).1 := by
  unfold State.berthQuery
  split <;> exact h
theorem alignDetail (p : List Byte) : OffersOnly s (t.alignDetail p).1 := by
  unfold State.alignDetail
  split; · exact h
  iterate 2 (split; · exact h)
  exact h
theorem doorQuery (p : List Byte) : OffersOnly s (t.doorQuery p).1 := by
  unfold State.doorQuery
  split <;> exact h
theorem ident : OffersOnly s t.ident.1 := h
theorem tableWrite (p : List Byte) : OffersOnly s (t.tableWrite p).1 := by
  unfold State.tableWrite
  iterate 3 (split; · exact h)
  split
  · exact h
  · exact h
  · exact h
  · split; · exact h
    exact h.writeEntry _ _ p
theorem tableRead (p : List Byte) : OffersOnly s (t.tableRead p).1 := by rw [State.tableRead_fst]; exact h
theorem setProfile (id : Fin 16) (q : StockProfile) : OffersOnly s (t.setProfile id q) := h.setTs _
theorem profileBegin (p : List Byte) : OffersOnly s (t.profileBegin p).1 := by
  rw [State.profileBegin_eq]
  exact h.unlessRefused _ (h.setProfile _ _)
theorem profileCar (p : List Byte) : OffersOnly s (t.profileCar p).1 := by
  rw [State.profileCar_eq]
  exact h.unlessRefused _ (h.setProfile _ _)
theorem profileDelete (p : List Byte) : OffersOnly s (t.profileDelete p).1 := by
  rw [State.profileDelete_eq]
  exact h.unlessRefused _ (h.setProfile _ _)
theorem storeSave : OffersOnly s t.storeSave.1 := by
  unfold State.storeSave
  iterate 2 (split; · exact h)
  exact h.setTs _
theorem modeEnter (p : List Byte) : OffersOnly s (t.modeEnter p).1 := by
  unfold State.modeEnter
  split; · exact h
  iterate 4 (split; · exact h)
  exact h.enterMode _
theorem modeExit (p : List Byte) : OffersOnly s (t.modeExit p).1 := by
  unfold State.modeExit
  split; · exact h
  split; · exact h
  split
  · dsimp only; exact h.leaveMaint
  · exact h.leaveMode _
theorem doorCommand (p : List Byte) : OffersOnly s (t.doorCommand p).1 := by
  unfold State.doorCommand
  split; · exact h
  iterate 4 (split; · exact h)
  split
  · exact h.addReason _ _
  · exact (h.putReason _ _ _).latchReset _
theorem resetLatch (p : List Byte) : OffersOnly s (t.resetLatch p).1 := by
  unfold State.resetLatch
  split
  · exact h
  · dsimp only; exact h.resetDoor _
theorem ringTestStart : OffersOnly s t.ringTestStart.1 := by
  unfold State.ringTestStart
  split
  · exact h
  · exact h.setDrm _
theorem ringTestStop : OffersOnly s t.ringTestStop.1 := by
  unfold State.ringTestStop
  split
  · exact h
  · exact h.abortTest
theorem ringTestInsert (p : List Byte) : OffersOnly s (t.ringTestInsert p).1 := by
  unfold State.ringTestInsert
  split; · exact h
  dsimp only
  iterate 2 (split; · exact h)
  exact h.setTest _
theorem ringTestResult (p : List Byte) : OffersOnly s (t.ringTestResult p).1 := by rw [State.ringTestResult_fst]; exact h
theorem eventAck (p : List Byte) : OffersOnly s (t.eventAck p).1 := by
  unfold State.eventAck
  split
  · exact h
  · exact h
  · exact h
  · exact h.setEr _
  · exact h.setEr _
theorem eventMask (p : List Byte) : OffersOnly s (t.eventMask p).1 := h.setEr _
theorem changeMap : OffersOnly s t.changeMap.1 := h
theorem counterRead (p : List Byte) : OffersOnly s (t.counterRead p).1 := by rw [State.counterRead_fst]; exact h

end
end OffersOnly

end Sys2Proof.Machine

namespace Sys2Proof.Machine

/-! # The bounds of the link interface (R27, R30, R31, R34) -/

/-- `LinkInv` of a link interface on its own. -/
structure LineLink.InBounds (l : LineLink) : Prop where
  queue : l.txQueue.length ≤ 16
  waiting : l.waiting.length ≤ 16
  busy : l.sending = none → l.txQueue = []
  lost : l.link = .lost → l.txQueue = [] ∧ l.waiting = [] ∧ l.degraded = true

theorem linkInv_iff {s : State} : LinkInv s ↔ s.lli.InBounds :=
  ⟨fun ⟨queue, waiting, busy, lost⟩ => ⟨queue, waiting, busy, lost⟩, fun h => ⟨h.queue, h.waiting, h.busy, h.lost⟩⟩

theorem TxClass.places_le (c : TxClass) : c.places ≤ 16 := by cases c <;> decide

theorem LineLink.not_lost {l : LineLink} (up : l.link = .up) : l.link ≠ .lost := by rw [up]; decide

/-- A telegram is admitted while the link is UP and its class has a place left (R31). -/
theorem LineLink.admits_iff (l : LineLink) (c : TxClass) : l.admits c = true ↔ l.link = .up ∧ l.txQueue.length < c.places := by
  unfold LineLink.admits
  rw [Bool.and_eq_true, decide_eq_true_iff, beq_iff_eq]

namespace LineLink.InBounds
variable {l : LineLink}

/-- Once the transmitter has taken what it can, the bounds hold, whether or not it left something waiting before (R30). -/
theorem pump (queue : l.txQueue.length ≤ 16) (waiting : l.waiting.length ≤ 16)
    (lost : l.link = .lost → l.txQueue = [] ∧ l.waiting = [] ∧ l.degraded = true) : l.pump.InBounds := by
  rcases l.pump_cases with ⟨-, t, rest, taken, e⟩ | ⟨idle, e⟩
  · rw [e]
    refine ⟨?_, waiting, fun free => absurd free (by simp), fun down => ?_⟩
    · rw [taken, List.length_cons] at queue; exact Nat.le_of_succ_le queue
    · rw [(lost down).1] at taken; exact absurd taken (by simp)
  · rw [e]
    exact ⟨queue, waiting, fun free => idle.resolve_left (not_not.mpr free), lost⟩

theorem offer (h : l.InBounds) (t : Telegram) : (l.offer t).InBounds := by
  rcases l.offer_cases t with ⟨up, room, e⟩ | ⟨-, -, -, e⟩ | ⟨-, e⟩
  · rw [e]
    refine pump ?_ h.waiting fun lost => absurd lost (not_lost up)
    have places := t.cls.places_le
    rw [List.length_append, List.length_singleton]
    omega
  · rw [e]; exact ⟨h.queue, h.waiting, h.busy, h.lost⟩
  · rw [e]; exact h

theorem offers (h : l.InBounds) (ts : List Telegram) : (l.offers ts).InBounds := by
  induction ts generalizing l with
  | nil => exact h
  | cons t ts ih => exact ih (h.offer t)

/-- The end of a telegram sent (R30). -/
theorem sent (h : l.InBounds) : (LineLink.pump { l with sending := none }).InBounds := pump h.queue h.waiting h.lost

/-- The degraded flag is cleared while the link is UP (R34). -/
theorem steady (h : l.InBounds) (up : l.link = .up) : { l with degraded := false }.InBounds :=
  ⟨h.queue, h.waiting, h.busy, fun lost => absurd lost (not_lost up)⟩

/-- The link comes UP (R33). -/
theorem recovered (h : l.InBounds) (n : Nat) : { l with link := .up, validRun := n }.InBounds :=
  ⟨h.queue, h.waiting, h.busy, fun lost => absurd lost (not_lost rfl)⟩

/-- A request comes to wait, or finds 16 that wait (R27). -/
theorem await (h : l.InBounds) (r : Request) : (l.await r).InBounds := by
  unfold LineLink.await
  split
  next room =>
    refine ⟨h.queue, ?_, h.busy, fun lost => absurd lost (not_lost room.1)⟩
    rw [List.length_append, List.length_singleton]
    exact room.2
  next => exact h

/-- The request that stands first is taken out of the request order. -/
theorem popped (h : l.InBounds) : { l with waiting := l.waiting.tail }.InBounds := by
  refine ⟨h.queue, ?_, h.busy, fun lost => ?_⟩
  · have waiting := h.waiting
    rw [List.length_tail]
    omega
  · obtain ⟨queue, waiting, degraded⟩ := h.lost lost
    exact ⟨queue, by rw [waiting]; rfl, degraded⟩

theorem reset : LineLink.reset.InBounds := linkInv_iff.mp linkInv_reset

end LineLink.InBounds

theorem LinkInv.offersOnly {s t : State} (h : LinkInv s) (told : OffersOnly s t) : LinkInv t := by
  obtain ⟨ts, e⟩ := told
  rw [linkInv_iff] at h ⊢
  rw [e]
  exact h.offers ts

/-! ## The link itself (R23, R24, R32, R33) -/

theorem LinkInv.offerEdgeStatus {s : State} (h : LinkInv s) : LinkInv s.offerEdgeStatus := by
  unfold State.offerEdgeStatus
  have offered : (s.offer (edgeStatusReport s)).lli.InBounds := (linkInv_iff.mp h).offer _
  split
  next admitted =>
    obtain ⟨up, -⟩ := (s.lli.admits_iff .report).mp admitted
    exact linkInv_iff.mpr (offered.steady (by rw [State.offer_lli, LineLink.offer_link, up]))
  next => exact linkInv_iff.mpr offered

theorem LinkInv.recoverLink {s : State} (h : LinkInv s) : LinkInv s.recoverLink := by
  have up : LinkInv { s with lli := { s.lli with link := .up, validRun := 3 } } :=
    linkInv_iff.mpr ((linkInv_iff.mp h).recovered 3)
  exact up.offerEdgeStatus.offersOnly (((OffersOnly.refl _).offerBerthStatus .A).offerBerthStatus .B)

theorem LinkInv.superviseLink {s : State} (h : LinkInv s) : LinkInv s.superviseLink := by
  have restarted : LinkInv { s with lli := { s.lli with linkTimer := .running s.settings.linkTimeout } } := h
  unfold State.superviseLink
  dsimp only
  split
  · exact restarted
  · split
    · exact h
    · exact restarted.recoverLink

theorem LinkInv.takeRun {s : State} (h : LinkInv s) (run : List Byte) : LinkInv (s.takeRun run) := by
  unfold State.takeRun
  split
  · exact h
  · exact h
  · dsimp only
    split
    · exact linkInv_iff.mpr ((linkInv_iff.mp h.superviseLink).await _)
    · exact h.superviseLink

/-- The link timer running out empties the queue and the request order of a link that is LOST (R32). -/
theorem LinkInv.expireLink {s : State} (h : LinkInv s) : LinkInv s.expireLink := by
  unfold State.expireLink
  split
  · exact ⟨Nat.zero_le _, Nat.zero_le _, fun _ => rfl, fun _ => ⟨rfl, rfl, rfl⟩⟩
  · exact h

/-! ## Requests and resets -/

/-- A request keeps the bounds where its owner does. -/
theorem LinkInv.takeRequest {s : State} (h : LinkInv s) (k : Kind) (src : Byte) (p : List Byte)
    {owner : State → State × Answer} (owned : LinkInv s.popRequest → LinkInv (owner s.popRequest).1) :
    LinkInv (s.takeRequest k src p owner) :=
  State.takeRequest_keeps k src p (fun t a h => h.offersOnly ((OffersOnly.refl t).answer src k.code a))
    (fun h => linkInv_iff.mpr (linkInv_iff.mp h).popped) owned h

/-- A request whose owner only offers telegrams keeps the bounds. -/
theorem LinkInv.takeRequest_offers {s : State} (h : LinkInv s) (k : Kind) (src : Byte) (p : List Byte)
    {owner : State → State × Answer}
    (owned : OffersOnly s.popRequest s.popRequest → OffersOnly s.popRequest (owner s.popRequest).1) :
    LinkInv (s.takeRequest k src p owner) :=
  h.takeRequest k src p fun popped => popped.offersOnly (owned (.refl _))

theorem LinkInv.edgeQuery {s : State} (h : LinkInv s) : LinkInv s.edgeQuery.1 := by
  unfold State.edgeQuery
  dsimp only
  split
  next admitted =>
    obtain ⟨up, -⟩ := (s.lli.admits_iff .answer).mp admitted
    exact linkInv_iff.mpr ((linkInv_iff.mp h).steady up)
  next => exact h

theorem linkInv_resetAll (s : State) (ph : Phase) (k : ResetKind) : LinkInv (s.resetAll ph k) :=
  linkInv_iff.mpr LineLink.InBounds.reset

theorem linkInv_startUp (s : State) (k : ResetKind) : LinkInv (s.startUp k) := by
  unfold State.startUp
  split <;> exact linkInv_resetAll _ _ _

/-! ## The bounds over one step -/

theorem exec_keeps_link {s t : State} (i : Instr) (h : LinkInv s) (e : exec i s = .next t) : LinkInv t := by
  have kept : ∀ {c : Prop} [Decidable c] {u : State}, LinkInv u → LinkInv (if c then u else s) := by
    intro c _ u hu
    split
    · exact hu
    · exact h
  have offers : ∀ {u : State}, OffersOnly s u → LinkInv u := h.offersOnly
  have self := OffersOnly.refl s
  cases i with
  | lineRunReceived run => exact of_next (kept (h.takeRun run)) e
  | linkTimeout =>
    refine of_next ?_ e
    split
    · exact h
    · exact h.expireLink
  | transmitComplete =>
    exact of_next (kept (u := { s with lli := LineLink.pump { s.lli with sending := none } })
      (linkInv_iff.mpr (linkInv_iff.mp h).sent)) e
  | unknownKindRequest src kind p =>
    have popped : LinkInv s.popRequest := linkInv_iff.mpr (linkInv_iff.mp h).popped
    exact of_next (kept (popped.offersOnly ((OffersOnly.refl _).answer _ _ _))) e
  | arrival src p => exact of_next (h.takeRequest_offers _ _ _ fun told => told.arrival p) e
  | stopReport src p => exact of_next (h.takeRequest_offers _ _ _ fun told => told.stopReport p) e
  | release src p => exact of_next (h.takeRequest_offers _ _ _ fun told => told.release p) e
  | close src p => exact of_next (h.takeRequest_offers _ _ _ fun told => told.close p) e
  | cancel src p => exact of_next (h.takeRequest_offers _ _ _ fun told => told.cancel p) e
  | departed src p => exact of_next (h.takeRequest_offers _ _ _ fun told => told.departed p) e
  | evacuate src p => exact of_next (h.takeRequest_offers _ _ _ fun told => told.evacuate p) e
  | berthQuery src p => exact of_next (h.takeRequest_offers _ _ _ fun told => told.berthQuery p) e
  | alignDetail src p => exact of_next (h.takeRequest_offers _ _ _ fun told => told.alignDetail p) e
  | doorQuery src p => exact of_next (h.takeRequest_offers _ _ _ fun told => told.doorQuery p) e
  | edgeQuery src p => exact of_next (h.takeRequest _ _ _ fun popped => popped.edgeQuery) e
  | ident src p => exact of_next (h.takeRequest_offers _ _ _ fun told => told.ident) e
  | tableWrite src p => exact of_next (h.takeRequest_offers _ _ _ fun told => told.tableWrite p) e
  | tableRead src p => exact of_next (h.takeRequest_offers _ _ _ fun told => told.tableRead p) e
  | profileBegin src p => exact of_next (h.takeRequest_offers _ _ _ fun told => told.profileBegin p) e
  | profileCar src p => exact of_next (h.takeRequest_offers _ _ _ fun told => told.profileCar p) e
  | profileDelete src p => exact of_next (h.takeRequest_offers _ _ _ fun told => told.profileDelete p) e
  | storeSave src p => exact of_next (h.takeRequest_offers _ _ _ fun told => told.storeSave) e
  | storeSaveComplete ok =>
    refine of_next (kept ?_) e
    split
    · exact offers self.succeedSave
    · exact offers self.failSave
  | storeSaveTimeout => exact of_next (kept (offers self.failSave)) e
  | modeEnter src p => exact of_next (h.takeRequest_offers _ _ _ fun told => told.modeEnter p) e
  | modeExit src p => exact of_next (h.takeRequest_offers _ _ _ fun told => told.modeExit p) e
  | doorCommand src p => exact of_next (h.takeRequest_offers _ _ _ fun told => told.doorCommand p) e
  | resetLatch src p => exact of_next (h.takeRequest_offers _ _ _ fun told => told.resetLatch p) e
  | ringTestStart src p => exact of_next (h.takeRequest_offers _ _ _ fun told => told.ringTestStart) e
  | ringTestStop src p => exact of_next (h.takeRequest_offers _ _ _ fun told => told.ringTestStop) e
  | ringTestInsert src p => exact of_next (h.takeRequest_offers _ _ _ fun told => told.ringTestInsert p) e
  | ringTestResult src p => exact of_next (h.takeRequest_offers _ _ _ fun told => told.ringTestResult p) e
  | eventAck src p => exact of_next (h.takeRequest_offers _ _ _ fun told => told.eventAck p) e
  | eventMask src p => exact of_next (h.takeRequest_offers _ _ _ fun told => told.eventMask p) e
  | changeMap src p => exact of_next (h.takeRequest_offers _ _ _ fun told => told.changeMap) e
  | snapshot src p => exact of_next (h.takeRequest _ _ _ fun popped => popped) e
  | counterRead src p => exact of_next (h.takeRequest_offers _ _ _ fun told => told.counterRead p) e
  | partReset src p => exact of_next (h.takeRequest _ _ _ fun _ => linkInv_startUp _ _) e
  | powerOn => exact of_next (linkInv_startUp _ _) e
  | supplyDip => exact of_next (linkInv_startUp _ _) e
  | resetLineAsserted => exact of_next (linkInv_resetAll _ _ _) e
  | resetLineReleased => exact of_next (kept (linkInv_startUp _ _)) e
  | startingEnd => exact of_next (kept (offers self.beginWork)) e
  | fireChange level =>
    have pinned : OffersOnly s { s with firePin := level } := self.same rfl
    refine of_next ?_ e
    split
    · exact offers pinned.takeFire
    · exact offers pinned
  | ringCopyReceived port copy => exact of_next (kept (u := { s with drm := s.drm.takeCopy port copy }) h) e
  | cycleClose order => exact of_next (kept (offers (self.closeCycle order))) e
  | motionTimeout d => exact of_next (offers (self.motionExpiry d)) e
  | lockProofTimeout d => exact of_next (offers (self.lockProofExpiry d)) e
  | recloseTimeout d => exact of_next (offers (self.recloseExpiry d)) e
  | proofTimeout b => exact of_next (kept (offers ((self.setBerth b _).raise _ _ _))) e
  | autoSnapshotTimeout =>
    refine of_next ?_ e
    split <;> exact h
  | supplyFall => exact of_next (linkInv_resetAll _ _ _) e

/-- Settles O52: the working part only offers telegrams to the link interface, and the link's own commands, an EDGE_STATUS that is
admitted, a snapshot and the resets each keep or make the bounds. -/
theorem linkInvKept : Obligations.LinkInvKept := by
  intro s t h e
  rcases step_cases e with ⟨c, rest, -, carried⟩ | ⟨-, rfl⟩
  · exact exec_keeps_link (s := { s with pending := rest }) c h carried
  · exact h

end Sys2Proof.Machine

namespace Sys2Proof.Machine

/-! # The receive checker (R23, R36) -/

theorem judgeRun_length {run : List Byte}
    (h : run.take 2 ≠ [0xC3, 0x3C] ∨ run.length < 8 ∨ 240 < u8 run 5 ∨ run.length ≠ 8 + u8 run 5) :
    judgeRun run = .lengthError := by
  unfold judgeRun
  iterate 4 (split; · rfl)
  next sync short size fits =>
    rcases h with bad | bad | bad | bad
    · exact absurd bad sync
    · exact absurd bad short
    · exact absurd bad size
    · exact absurd bad fits

/-- A run that passes the checks of framing, length and size is judged by its check. -/
theorem judgeRun_framed {run : List Byte} (sync : run.take 2 = [0xC3, 0x3C]) (size : u8 run 5 ≤ 240)
    (fits : run.length = 8 + u8 run 5) :
    judgeRun run = if encWord (crc16 ((run.drop 2).take (4 + u8 run 5))) ≠ run.drop (6 + u8 run 5) then .crcError
      else .valid (run.getD 2 0) (run.getD 3 0) (run.getD 4 0) ((run.drop 6).take (u8 run 5)) := by
  unfold judgeRun
  rw [if_neg (not_not.mpr sync), if_neg (by omega), if_neg (by omega), if_neg (not_not.mpr fits)]

theorem telegramOf_length (cls src kind : Byte) (payload : List Byte) :
    (telegramOf cls src kind payload).length = 8 + payload.length := by
  simp only [telegramOf, List.length_append, List.length_cons, List.length_nil, encWord_length]
  omega

/-- The size byte of a telegram framed as R36 lays down is its payload's. -/
theorem telegramOf_size (cls src kind : Byte) {payload : List Byte} (fits : payload.length ≤ 240) :
    u8 (telegramOf cls src kind payload) 5 = payload.length := by
  show (BitVec.ofNat 8 payload.length).toNat = payload.length
  rw [BitVec.toNat_ofNat]
  omega

/-- Such a telegram passes every check, and its fields are read back. -/
theorem judgeRun_telegramOf (cls src kind : Byte) {payload : List Byte} (fits : payload.length ≤ 240) :
    judgeRun (telegramOf cls src kind payload) = .valid cls src kind payload := by
  have size := telegramOf_size cls src kind fits
  have length := telegramOf_length cls src kind payload
  have header : ([cls, src, kind, BitVec.ofNat 8 payload.length] ++ payload).length = 4 + payload.length := by
    rw [List.length_append]; rfl
  have body : ((telegramOf cls src kind payload).drop 2).take (4 + payload.length)
      = [cls, src, kind, BitVec.ofNat 8 payload.length] ++ payload := List.take_left' header
  have check : (telegramOf cls src kind payload).drop (6 + payload.length)
      = encWord (crc16 ([cls, src, kind, BitVec.ofNat 8 payload.length] ++ payload)) :=
    List.drop_left' (by rw [List.length_append, header, ← Nat.add_assoc]; rfl)
  have data : ((telegramOf cls src kind payload).drop 6).take payload.length = payload := List.take_left
  rw [judgeRun_framed rfl (by omega) (by omega), size, if_neg (not_not.mpr (by rw [body, check])), data]
  rfl

/-! # Runs (R23, R24, R27) -/

/-- While the part runs, a run is taken. -/
theorem exec_run {s : State} (h : s.phase = .running) (run : List Byte) :
    exec (.lineRunReceived run) s = .next (s.takeRun run) := congrArg Host.Outcome.next (if_pos h)

/-- Settles O5: a run is not looked at unless the part runs, fails a check of framing, length or size, or the check comparison
alone. -/
theorem lineRunDiscarded : Obligations.LineRunDiscarded := by
  intro s run
  refine ⟨fun idle => congrArg Host.Outcome.next (if_neg idle), fun running => ⟨fun bad => ?_, fun sync fits size bad => ?_⟩⟩
  · rw [exec_run running, State.takeRun, judgeRun_length bad]
    rfl
  · have framed := judgeRun_framed sync size fits
    rw [List.drop_take, show 6 + u8 run 5 - 2 = 4 + u8 run 5 by omega] at bad
    rw [if_pos bad.symm] at framed
    rw [exec_run running, State.takeRun, framed]
    rfl

/-- What a valid telegram leaves of the link interface once it has restarted the link timer: a request waits, if it can (R27). -/
def LineLink.receive (l : LineLink) (cls src kind : Byte) (payload : List Byte) : LineLink :=
  if cls = 0x01 then l.await { src := src, kind := kind, payload := payload } else l

/-- A valid telegram supervises the link, and then waits if it is a request that can (R24, R27). -/
theorem exec_telegram {s t : State} {l : LineLink} {cls src kind : Byte} {payload : List Byte} (running : s.phase = .running)
    (fits : payload.length ≤ 240) (supervised : s.superviseLink = t) (received : t.lli.receive cls src kind payload = l) :
    exec (.lineRunReceived (telegramOf cls src kind payload)) s = .next { t with lli := l } := by
  rw [exec_run running, State.takeRun, judgeRun_telegramOf cls src kind fits, ← received, ← supervised]
  refine congrArg Host.Outcome.next ?_
  unfold LineLink.receive
  by_cases request : cls = 0x01
  · rw [if_pos request]; exact if_pos request
  · rw [if_neg request]; exact if_neg request

theorem LineLink.receive_up {l : LineLink} (up : l.link = .up) (cls src kind : Byte) (payload : List Byte) :
    l.receive cls src kind payload = { l with waiting := if cls = 0x01 ∧ l.waiting.length < 16
      then l.waiting ++ [{ src := src, kind := kind, payload := payload }] else l.waiting } := by
  unfold LineLink.receive LineLink.await
  by_cases request : cls = 0x01
  · by_cases room : l.waiting.length < 16
    · rw [if_pos request, if_pos ⟨up, room⟩, if_pos ⟨request, room⟩]
    · rw [if_pos request, if_neg fun h => room h.2, if_neg fun h => room h.2]
  · rw [if_neg request, if_neg fun h => request h.1]

theorem LineLink.receive_lost {l : LineLink} (lost : l.link = .lost) (cls src kind : Byte) (payload : List Byte) :
    l.receive cls src kind payload = l := by
  have ignored : ∀ r : Request, l.await r = l := fun r => if_neg fun h => not_lost h.1 lost
  unfold LineLink.receive
  rw [ignored, ite_self]

theorem State.superviseLink_up {s : State} (up : s.lli.link = .up) :
    s.superviseLink = { s with lli := { s.lli with linkTimer := .running s.settings.linkTimeout } } := if_pos up

theorem State.superviseLink_counts {s : State} (lost : s.lli.link = .lost) (few : s.lli.validRun < 2) :
    s.superviseLink = { s with lli := { s.lli with
      linkTimer := .running s.settings.linkTimeout, validRun := s.lli.validRun + 1 } } := by
  unfold State.superviseLink
  dsimp only
  rw [if_neg (by rw [lost]; decide), if_pos (by omega)]

theorem State.superviseLink_recovers {s : State} (lost : s.lli.link = .lost) (third : s.lli.validRun = 2) :
    s.superviseLink
      = State.recoverLink { s with lli := { s.lli with linkTimer := .running s.settings.linkTimeout } } := by
  unfold State.superviseLink
  dsimp only
  rw [if_neg (by rw [lost]; decide), if_neg (by omega)]

/-- Settles O6: a valid telegram restarts the link timer, and a request then waits if it can. -/
theorem validTelegramWaits : Obligations.ValidTelegramWaits := by
  intro s cls src kind payload running up fits
  rw [exec_telegram running fits (State.superviseLink_up up)
    (LineLink.receive_up (l := { s.lli with linkTimer := .running s.settings.linkTimeout }) up cls src kind payload)]

/-! # The recovery of the link (R32, R33) -/

/-- A telegram is taken in while the link is UP and its class has a place left (R31). -/
theorem LineLink.offer_up {l : LineLink} {t : Telegram} (up : l.link = .up) (room : l.txQueue.length < t.cls.places) :
    l.offer t = LineLink.pump { l with txQueue := l.txQueue ++ [t] } := if_pos ((l.admits_iff _).mpr ⟨up, room⟩)

/-- With a telegram being sent, one admitted waits last (R30). -/
theorem LineLink.offer_waits {l : LineLink} {t : Telegram} (up : l.link = .up) (room : l.txQueue.length < t.cls.places)
    (busy : l.sending ≠ none) : l.offer t = { l with txQueue := l.txQueue ++ [t] } := by
  rw [LineLink.offer_up up room]
  rcases LineLink.pump_cases { l with txQueue := l.txQueue ++ [t] } with ⟨free, -⟩ | ⟨-, e⟩
  · exact absurd free busy
  · exact e

/-- A free transmitter with nothing waiting sends one admitted at once (R30). -/
theorem LineLink.offer_sent {l : LineLink} {t : Telegram} (up : l.link = .up) (free : l.sending = none) (empty : l.txQueue = []) :
    l.offer t = { l with sending := some t.wire } := by
  have room : l.txQueue.length < t.cls.places := by
    rw [empty]
    cases t.cls <;> decide
  rw [LineLink.offer_up up room]
  rcases LineLink.pump_cases { l with txQueue := l.txQueue ++ [t] } with ⟨-, x, rest, queue, e⟩ | ⟨idle, -⟩
  · simp only [empty, List.nil_append, List.cons.injEq] at queue
    obtain ⟨rfl, rfl⟩ := queue
    rw [e, empty]
  · rcases idle with busy | none
    · exact absurd free busy
    · exact absurd none (by simp)

/-- Two reports wait behind a telegram being sent. -/
theorem LineLink.offer_two {l : LineLink} {y z : Telegram} (up : l.link = .up) (busy : l.sending ≠ none)
    (room : l.txQueue.length ≤ 1) (second : y.cls = .report) (third : z.cls = .report) :
    (l.offer y).offer z = { l with txQueue := l.txQueue ++ [y, z] } := by
  have places : ∀ {t : Telegram} {n : Nat}, t.cls = .report → n ≤ 2 → n < t.cls.places := fun e few => by
    rw [e]; exact Nat.lt_of_le_of_lt few (by decide)
  rw [LineLink.offer_waits up (places second (by omega)) busy]
  refine (LineLink.offer_waits (l := { l with txQueue := l.txQueue ++ [y] }) up (places third ?_) busy).trans ?_
  · rw [List.length_append, List.length_singleton]; omega
  · simp only [List.append_assoc, List.cons_append, List.nil_append]

/-- The three reports of a recovery, offered to a link that is UP with nothing waiting, the degraded flag cleared by the first: a
free transmitter sends the first at once, and the others wait (R30, R33, R34). -/
theorem LineLink.offer_recovery {l : LineLink} (up : l.link = .up) (empty : l.txQueue = []) {x y z : Telegram}
    (first : x.cls = .report) (second : y.cls = .report) (third : z.cls = .report) :
    (LineLink.offer { l.offer x with degraded := false } y).offer z = { l with
      degraded := false, sending := some (l.sending.getD x.wire)
      txQueue := (if l.sending = none then [] else [x]) ++ [y, z] } := by
  cases sending : l.sending with
  | none =>
    rw [LineLink.offer_sent up sending empty]
    refine (LineLink.offer_two (l := { l with sending := some x.wire, degraded := false }) up (Option.some_ne_none _) ?_ second
      third).trans ?_
    · rw [empty]; exact Nat.zero_le _
    · simp only [empty, Option.getD_none, if_true]
  | some bytes =>
    have busy : l.sending ≠ none := by rw [sending]; exact Option.some_ne_none _
    have room : l.txQueue.length < x.cls.places := by rw [empty, first]; decide
    rw [LineLink.offer_waits up room busy]
    refine (LineLink.offer_two (l := { l with txQueue := l.txQueue ++ [x], degraded := false }) up busy ?_ second third).trans ?_
    · rw [empty]; exact Nat.le_refl _
    · simp only [empty, sending, Option.getD_some, reduceCtorEq, if_false, List.nil_append]

/-- The link comes UP: EDGE_STATUS and both BERTH_STATUS are taken in, and the EDGE_STATUS clears the two loss flags (R33, R34). -/
theorem State.recoverLink_eq {s : State} (empty : s.lli.txQueue = []) :
    s.recoverLink = { s with
      er := { s.er with eventsLost := false }
      lli := { s.lli with
        link := .up, validRun := 3, degraded := false, sending := some (s.lli.sending.getD (edgeStatusReport s).wire)
        txQueue := (if s.lli.sending = none then [] else [edgeStatusReport s])
          ++ [berthStatusReport .A s.berthA, berthStatusReport .B s.berthB] } } := by
  have taken : LineLink.admits { s.lli with link := .up, validRun := 3 } .report = true :=
    (LineLink.admits_iff _ _).mpr ⟨rfl, by rw [show _ = s.lli.txQueue from rfl, empty]; decide⟩
  have told := LineLink.offer_recovery (l := { s.lli with link := .up, validRun := 3 }) rfl empty
    (x := edgeStatusReport s) (y := berthStatusReport .A s.berthA) (z := berthStatusReport .B s.berthB) rfl rfl rfl
  unfold State.recoverLink State.offerEdgeStatus
  dsimp only
  rw [if_pos taken]
  exact congrArg (fun l : LineLink => { s with er := { s.er with eventsLost := false }, lli := l }) told

/-- Settles O7: the first two valid telegrams are counted, and the third recovers the link before its request waits. -/
theorem linkRecovers : Obligations.LinkRecovers := by
  intro s cls src kind payload running lost fits
  refine ⟨fun few => ?_, fun third queue waiting => ?_⟩
  · rw [exec_telegram running fits (State.superviseLink_counts lost few)
      (LineLink.receive_lost (l := { s.lli with linkTimer := .running s.settings.linkTimeout, validRun := s.lli.validRun + 1 })
        lost cls src kind payload)]
  · have recovered := (State.superviseLink_recovers lost third).trans (State.recoverLink_eq queue)
    rw [exec_telegram running fits recovered (LineLink.receive_up rfl cls src kind payload)]
    simp only [waiting, List.length_nil, Nat.zero_lt_succ, and_true, List.nil_append]
    rfl

/-! # The link timer and the transmitter (R30 to R32) -/

/-- Settles O8: the timer does not run, or it runs out in UP, or in LOST. -/
theorem linkTimeoutLosesLink : Obligations.LinkTimeoutLosesLink := by
  intro s
  have expires : s.lli.linkTimer ≠ .stopped → exec .linkTimeout s = .next s.expireLink := fun runs =>
    congrArg Host.Outcome.next (if_neg runs)
  refine ⟨fun runs up => ?_, fun runs lost => ?_, fun stopped => congrArg Host.Outcome.next (if_pos stopped)⟩
  · rw [expires runs, State.expireLink, up]
  · rw [expires runs, State.expireLink, lost]

/-- An event takes 12 of the queue's places, an answer or report 16 (R31). -/
theorem TxClass.places_eq (c : TxClass) : c.places = if c = .event then 12 else 16 := by cases c <;> rfl

/-- A telegram that finds no place is counted where it is an answer or report and the link is UP, and otherwise leaves no trace
(R31). -/
theorem LineLink.offer_dropped {l : LineLink} {t : Telegram} (h : ¬ (l.link = .up ∧ l.txQueue.length < t.cls.places)) :
    l.offer t = if l.link = .up ∧ t.cls ≠ .event then { l with txDrops := satInc l.txDrops } else l :=
  if_neg fun taken => h ((l.admits_iff _).mp taken)

theorem State.raise_unmasked {s : State} {e : EventKind} (h : s.er.mask[e.idx] = false) (n : Nat) (items : List Byte) :
    s.raise e n items = { s with
      lli := s.lli.offer { cls := .event, kind := e.code, payload := enc1 n ++ items }
      er := { s.er with eventsLost := s.er.eventsLost || !s.lli.admits .event } } := if_neg (by rw [h]; decide)

theorem exec_transmitComplete {s : State} (busy : s.lli.sending ≠ none) :
    exec .transmitComplete s = .next { s with lli := LineLink.pump { s.lli with sending := none } } :=
  congrArg Host.Outcome.next (if_pos (Option.isSome_iff_ne_none.mpr busy))

/-- Settles O9: the transmitter, an offer and an event, each by its own rule. -/
theorem transmitCompleteTakesOldest : Obligations.TransmitCompleteTakesOldest := by
  refine ⟨fun s busy => ⟨fun empty => ?_, fun t rest waiting => ?_⟩, fun l t => ?_, fun s e subject items => ?_⟩
  · rw [exec_transmitComplete busy]
    simp only [LineLink.pump, empty]
  · rw [exec_transmitComplete busy]
    simp only [LineLink.pump, waiting]
  · rw [← TxClass.places_eq]
    refine ⟨fun fits busy => LineLink.offer_waits fits.1 fits.2 busy, fun fits free empty => LineLink.offer_sent fits.1 free empty,
      fun full up other => ?_, fun full dropped => ?_⟩
    · rw [LineLink.offer_dropped full, if_pos ⟨up, other⟩]; rfl
    · rw [LineLink.offer_dropped full, if_neg fun h => dropped.elim (LineLink.not_lost h.1) h.2]
  · refine ⟨fun masked => if_pos masked, fun unmasked up room => ?_, fun unmasked dropped => ?_⟩
    · have taken : s.lli.admits .event = true := (s.lli.admits_iff _).mpr ⟨up, room⟩
      rw [State.raise_unmasked unmasked, taken, Bool.not_true, Bool.or_false]
    · have noPlace : ¬ (s.lli.link = .up ∧ s.lli.txQueue.length < 12) := fun h =>
        dropped.elim (LineLink.not_lost h.1) (Nat.not_le.mpr h.2)
      have refused : s.lli.admits .event = false := Bool.eq_false_iff.mpr fun h => noPlace ((s.lli.admits_iff _).mp h)
      rw [State.raise_unmasked unmasked, refused, LineLink.offer_dropped noPlace, if_neg fun h => h.2 rfl, Bool.not_false,
        Bool.or_true]

/-! # Requests: the checks of R25, and EDGE_QUERY -/

theorem State.nextRequest_stands {s : State} {kind src : Byte} {p : List Byte} (h : Stands s kind src p) :
    s.nextRequest = some { src := src, kind := kind, payload := p } := by
  obtain ⟨running, up, first⟩ := h
  rw [State.nextRequest, if_pos ⟨running, up⟩, first]

/-- The command of each request kind is the taking of a request of that kind by some owner. -/
theorem exec_requestCmd (k : Kind) (src : Byte) (p : List Byte) :
    ∃ owner : State → State × Answer, ∀ s : State, exec (requestCmd k src p) s = .next (s.takeRequest k src p owner) := by
  cases k <;> exact ⟨_, fun s => rfl⟩

/-- A request that stands first and fails a check of R25 is answered so, and its owner does not see it. -/
theorem State.takeRequest_denied {s : State} {k : Kind} {src : Byte} {p : List Byte} (h : Stands s k.code src p) {a : Answer}
    (denied : accessRefusal k src p = some a) (owner : State → State × Answer) :
    s.takeRequest k src p owner = s.popRequest.answer src k.code a := by
  rw [State.takeRequest, if_pos (State.nextRequest_stands h), denied]

/-- Settles O10: the checks on the kind, the source and the size, in their order. -/
theorem accessChecksRefuse : Obligations.AccessChecksRefuse := by
  refine ⟨fun s src kind p stands unknown => ?_, fun s k src p stands => ⟨fun sender => ?_, fun sender size => ?_⟩⟩
  · have notKnown : isRequestKind kind = false := by
      unfold isRequestKind
      simp only [Bool.and_eq_false_iff, decide_eq_false_iff_not]
      omega
    exact congrArg Host.Outcome.next (if_pos ⟨State.nextRequest_stands stands, notKnown⟩)
  · obtain ⟨owner, e⟩ := exec_requestCmd k src p
    have refusal : accessRefusal k src p = some (.refused .notPermitted 0) := if_pos sender
    rw [e s, State.takeRequest_denied stands refusal]
    rfl
  · obtain ⟨owner, e⟩ := exec_requestCmd k src p
    have permitted : ¬ k.senders.permit src = false := by rw [sender]; decide
    have refusal : accessRefusal k src p = some (.range 0) := (if_neg permitted).trans (if_pos size)
    rw [e s, State.takeRequest_denied stands refusal]
    rfl

/-- Settles O46: the answer is admitted and clears both loss flags, or it finds 16 that wait. -/
theorem edgeQueryReads : Obligations.EdgeQueryReads := by
  intro s src p taken
  have ⟨⟨_, up, _⟩, _⟩ := taken
  refine ⟨fun room => ?_, fun full => ?_⟩
  · have admitted : s.popRequest.lli.admits .answer = true := (LineLink.admits_iff _ _).mpr ⟨up, room⟩
    exact congrArg Host.Outcome.next (State.takeRequest_accepted taken (by rw [State.edgeQuery, if_pos admitted]; rfl))
  · have noPlace : ¬ (s.popRequest.lli.link = .up ∧ s.popRequest.lli.txQueue.length < TxClass.answer.places) := fun h =>
      Nat.not_le.mpr h.2 full
    have refused : ¬ s.popRequest.lli.admits .answer = true := fun h => noPlace ((LineLink.admits_iff _ _).mp h)
    have answered := State.takeRequest_accepted taken (owner := fun s => s.edgeQuery) (t := s.popRequest)
      (data := edgeStatusData s.popRequest) (by rw [State.edgeQuery, if_neg refused])
    refine congrArg Host.Outcome.next (answered.trans ?_)
    rw [State.accepted, State.offer, LineLink.offer_dropped noPlace, if_pos ⟨up, by simp⟩]
    rfl

end Sys2Proof.Machine

namespace Sys2Proof.Machine

/-! # Telegrams offered in their order (R30, R31, R206) -/

/-- The state once telegrams have been offered in their order, EVENTS_LOST set where one of their events is dropped. -/
def State.tell (s : State) (ts : List Telegram) : State :=
  { s with lli := s.lli.offers ts, er := { s.er with eventsLost := s.er.eventsLost || s.lli.losesEvent ts } }

theorem LineLink.losesEvent_append (l : LineLink) (ts us : List Telegram) :
    l.losesEvent (ts ++ us) = (l.losesEvent ts || (l.offers ts).losesEvent us) := by
  induction ts generalizing l with
  | nil => simp [LineLink.losesEvent]
  | cons t ts ih => simp [LineLink.losesEvent, ih, Bool.or_assoc]

theorem State.tell_nil (s : State) : s.tell [] = s := by simp [State.tell, LineLink.losesEvent]

theorem State.tell_tell (s : State) (ts us : List Telegram) : (s.tell ts).tell us = s.tell (ts ++ us) := by
  simp [State.tell, LineLink.offers_append, LineLink.losesEvent_append, Bool.or_assoc]

theorem State.raise_eq_tell (s : State) (e : EventKind) (n : Nat) (items : List Byte) :
    s.raise e n items = s.tell (s.eventOf e n items) := s.raise_eq e n items

/-- An answer or a report that is dropped is no event lost (R31). -/
theorem State.offer_eq_tell (s : State) {x : Telegram} (h : x.cls ≠ .event) : s.offer x = s.tell [x] := by
  simp [State.offer, State.tell, LineLink.losesEvent, h]

@[simp] theorem State.popRequest_berth (s : State) (b : BerthId) : s.popRequest.berth b = s.berth b := by cases b <;> rfl
@[simp] theorem State.popRequest_door (s : State) (d : DoorNo) : s.popRequest.door d = s.door d := rfl
@[simp] theorem State.popRequest_limits (s : State) : s.popRequest.limits = s.limits := rfl
@[simp] theorem State.tell_ts (s : State) (ts : List Telegram) : (s.tell ts).ts = s.ts := rfl
@[simp] theorem State.tell_berth (s : State) (ts : List Telegram) (b : BerthId) : (s.tell ts).berth b = s.berth b := by
  cases b <;> rfl
@[simp] theorem State.tell_eventOf (s : State) (ts : List Telegram) : (s.tell ts).eventOf = s.eventOf := rfl
theorem State.setBerth_tell (s : State) (ts : List Telegram) (b : BerthId) (r : Berth) :
    (s.tell ts).setBerth b r = (s.setBerth b r).tell ts := by cases b <;> rfl

theorem State.tells_tell (s : State) (ts : List Telegram) : Tells s (s.tell ts) ts := ⟨rfl, rfl⟩

/-- What is told from `s` to `t`, and from `t` to `u`. -/
theorem tells_append {s t u : State} {ts us : List Telegram} (h : Tells s t ts) (k : Tells t u us) : Tells s u (ts ++ us) := by
  obtain ⟨lli, lost⟩ := h
  obtain ⟨lli', lost'⟩ := k
  exact ⟨by rw [lli', lli, LineLink.offers_append], by rw [lost', lost, lli, LineLink.losesEvent_append, Bool.or_assoc]⟩

/-! # A berth's record replaced and told (R45, R205, R206) -/

/-- A berth's change flag set (R205). -/
def State.flagBerth (s : State) (b : BerthId) : State := { s with er := s.er.setBerthFlag b true }

@[simp] theorem State.flagBerth_berth (s : State) (b c : BerthId) : (s.flagBerth b).berth c = s.berth c := by cases c <;> rfl
@[simp] theorem State.flagBerth_eventOf (s : State) (b : BerthId) : (s.flagBerth b).eventOf = s.eventOf := by cases b <;> rfl
@[simp] theorem State.setBerth_eventOf (s : State) (b : BerthId) (r : Berth) : (s.setBerth b r).eventOf = s.eventOf := by
  cases b <;> rfl

theorem State.reportBerth_eq (s : State) (b : BerthId) (st : BerthState) (c : Option CloseCause) (n : Nat) :
    s.reportBerth b st c n = (s.flagBerth b).tell (s.berthChangeTo b st c n) := by
  rw [State.reportBerth, State.raise_eq_tell]
  cases b <;> rfl

theorem State.offerBerthStatus_eq (s : State) (b : BerthId) :
    s.offerBerthStatus b = s.tell [berthStatusReport b (s.berth b)] := s.offer_eq_tell (by simp [berthStatusReport])

/-- Berth `b` holds the record `r`, its change flag is set, and telegrams are offered. -/
def State.moved (s : State) (b : BerthId) (r : Berth) (ts : List Telegram) : State := ((s.setBerth b r).flagBerth b).tell ts

section
variable (s : State) (b : BerthId) (r : Berth) (ts : List Telegram)

@[simp] theorem State.moved_berth : (s.moved b r ts).berth b = r := by simp [State.moved]
@[simp] theorem State.moved_other : (s.moved b r ts).berth (otherBerth b) = s.berth (otherBerth b) := by simp [State.moved]
@[simp] theorem State.moved_eventOf : (s.moved b r ts).eventOf = s.eventOf := by simp [State.moved]

theorem State.moved_berthChange :
    (s.moved b r ts).berthChange b = s.berthChangeTo b r.state r.closeCause (r.trainNumber.getD 0) := by
  simp [State.berthChange, State.berthChangeTo]

theorem State.moved_tells : Tells s (s.moved b r ts) ts := by cases b <;> exact ⟨rfl, rfl⟩

theorem State.moved_flags : FlagsBerth s (s.moved b r ts) b := by cases b <;> exact ⟨rfl, rfl, rfl⟩

theorem State.moved_only : BerthsOnly s (s.moved b r ts) := by
  cases b <;> exact ⟨rfl, s.lli.offers_queueOnly ts, rfl⟩

end

/-- The taking of a request out of the request order is none of the berths' business. -/
theorem berthsOnly_of_popRequest {s t : State} (h : BerthsOnly s.popRequest t) : BerthsOnly s t := by
  obtain ⟨frame, lli, er⟩ := h
  exact ⟨frame.trans rfl, lli.trans rfl, er⟩

/-- A berth record written, told by BERTH_CHANGE and one BERTH_STATUS (R45). -/
theorem State.setBerth_reported (s : State) (b : BerthId) (r : Berth) :
    ((s.setBerth b r).reportBerthNow b).offerBerthStatus b
      = s.moved b r (s.berthChangeTo b r.state r.closeCause (r.trainNumber.getD 0) ++ [berthStatusReport b r]) := by
  rw [State.reportBerthNow, State.reportBerth_eq, State.offerBerthStatus_eq, State.tell_tell, State.moved]
  simp [State.berthChangeTo]

theorem State.announce_eq (s : State) (b : BerthId) (sp : Span) (train : Nat) (consist : List TrainUnit) :
    s.announce b sp train consist
      = s.moved b { Berth.vacantRec with state := .announced, span := some sp, trainNumber := some train, consist := consist }
          (s.berthChangeTo b .announced none train ++ [berthStatusReport b
            { Berth.vacantRec with state := .announced, span := some sp, trainNumber := some train, consist := consist }]) :=
  s.setBerth_reported b _

/-- A berth becomes VACANT; its BERTH_CHANGE carries the train number it held (R64, R206). -/
theorem State.vacate_eq (s : State) (b : BerthId) :
    s.vacate b = s.moved b .vacantRec
      (s.berthChangeTo b .vacant none ((s.berth b).trainNumber.getD 0) ++ [berthStatusReport b .vacantRec]) := by
  rw [State.vacate, State.reportBerth_eq, State.offerBerthStatus_eq, State.tell_tell, State.moved]
  simp [State.berthChangeTo]

/-! # Fields of the berth requests -/

theorem berthAt_eq (p : List Byte) : berthAt p 0 = if 1 < u8 p 0 then none else some (berthNamed p) := by
  unfold berthAt berthNamed
  match u8 p 0 with
  | 0 => rfl
  | 1 => rfl
  | n + 2 => simp [berthOf]

theorem spanAt_eq (p : List Byte) : spanAt p 1 = if 2 < u8 p 1 then none else some (spanNamed p) := by
  unfold spanAt spanNamed
  match u8 p 1 with
  | 0 => rfl
  | 1 => rfl
  | 2 => rfl
  | n + 3 => simp

theorem flagAt_eq (p : List Byte) (i : Nat) : flagAt p i = if 1 < u8 p i then none else some (decide (u8 p i = 1)) := by
  unfold flagAt
  match u8 p i with
  | 0 => rfl
  | 1 => rfl
  | n + 2 => simp

theorem unitAt_eq (p : List Byte) (i : Nat) :
    unitAt p i = if 15 < u8 p i ∨ 1 < u8 p (i + 1) then none
      else some { profile := Fin.ofNat 16 (u8 p i), orientation := if u8 p (i + 1) = 0 then .forward else .reversed } := by
  unfold unitAt
  rw [profileAt_eq]
  by_cases id : 15 < u8 p i
  · simp [id]
  · by_cases forward : u8 p (i + 1) = 0
    · simp [id, forward]
    · by_cases reversed : u8 p (i + 1) = 1
      · simp [id, reversed]
      · have bad : 1 < u8 p (i + 1) := by omega
        simp only [id, bad, if_false, or_true, if_true]
        split <;> simp_all

/-- A list read place by place, each place out of range or not. -/
theorem mapM_ite {α β : Type} (bad : α → Bool) (f : α → β) (l : List α) :
    (l.mapM fun x => if bad x then none else some (f x)) = if l.any bad then none else some (l.map f) := by
  induction l with
  | nil => rfl
  | cons x l ih =>
    rw [List.mapM_cons, ih]
    cases h : bad x <;> cases h' : l.any bad <;> simp [h, h']

/-- The units of an ARRIVAL are all in range, or there is no list of them (R46, check 4). -/
theorem unitsAt_eq (p : List Byte) :
    unitsAt p = if (List.range (u8 p 4)).any (fun k => decide (15 < u8 p (5 + 2 * k) ∨ 1 < u8 p (6 + 2 * k))) then none
      else some (consistNamed p) := by
  have each : (fun k => unitAt p (5 + 2 * k)) = fun k =>
      if decide (15 < u8 p (5 + 2 * k) ∨ 1 < u8 p (6 + 2 * k)) then none
      else some { profile := Fin.ofNat 16 (u8 p (5 + 2 * k))
                  orientation := if u8 p (6 + 2 * k) = 0 then .forward else .reversed } := by
    funext k
    have place : 5 + 2 * k + 1 = 6 + 2 * k := by omega
    rw [unitAt_eq, place]
    simp only [decide_eq_true_eq]
  rw [unitsAt, each, mapM_ite]
  rfl

/-! # The two berths -/

theorem eq_otherBerth {b c : BerthId} (h : c ≠ b) : c = otherBerth b := by revert h; cases b <;> cases c <;> decide

theorem State.setBerth_setBerth (s : State) (b : BerthId) (r r' : Berth) : (s.setBerth b r).setBerth b r' = s.setBerth b r' := by
  cases b <;> rfl

theorem State.berth_setBerth_ne (s : State) {b c : BerthId} (r : Berth) (h : c ≠ b) : (s.setBerth b r).berth c = s.berth c := by
  rw [eq_otherBerth h, State.berth_setBerth_other]

end Sys2Proof.Machine

namespace Sys2Proof.Machine

/-! # The owners of the berth requests: refused by their checks, or carried out (R46, R49, R56, R59, R65, R66) -/

/-- An ARRIVAL is refused by its first check that fails, or fills the berth (R46, R48). -/
theorem State.arrival_eq (s : State) (p : List Byte) :
    s.arrival p = s.unlessRefused (arrivalRefusal s p)
      (s.announce (berthNamed p) (spanNamed p) (u16 p 2) (consistNamed p), .ok) := by
  unfold State.arrival arrivalRefusal
  rw [berthAt_eq, spanAt_eq, unitsAt_eq]
  simp only [State.unlessRefused_ite, State.unlessRefused_some, State.unlessRefused_none, State.present, decide_eq_true_eq]
  by_cases berth : 1 < u8 p 0
  · simp only [berth, if_true]
  by_cases span : 2 < u8 p 1
  · simp only [berth, span, if_true, if_false]
  by_cases count : u8 p 4 < 1 ∨ 3 < u8 p 4
  · simp only [berth, span, count, if_true, if_false]
  by_cases unit : ((List.range (u8 p 4)).any fun k => decide (15 < u8 p (5 + 2 * k) ∨ 1 < u8 p (6 + 2 * k))) = true
  · simp only [berth, span, count, unit, if_true, if_false]
  simp only [berth, span, count, unit, Bool.false_eq_true, if_false]
  have overlap : s.otherOverlaps (berthNamed p) (spanNamed p) = true ↔ (s.berth (otherBerth (berthNamed p))).state ≠ .vacant
      ∧ ((s.berth (otherBerth (berthNamed p))).span.map fun x => x.overlaps (spanNamed p)) = some true := by
    simp [State.otherOverlaps]
    cases (s.berth (otherBerth (berthNamed p))).span <;> simp
  have invalid : s.anyInvalid (consistNamed p)
      = (consistNamed p).any fun x => decide ((s.stock x.profile).state ≠ .valid) := by
    unfold State.anyInvalid
    congr 1
    funext x
    cases (s.stock x.profile).state <;> rfl
  simp only [overlap, invalid]

theorem saturate_ne (e : Int) : saturate e ≠ e ↔ e < -3000 ∨ 3000 < e := by
  unfold saturate
  omega

/-- A report stored is the record R49 says. -/
theorem Berth.store_eq (b : Berth) (p : List Byte) : b.store (i16 p 1) (decide (u8 p 3 = 1)) = b.stored p := by
  simp only [Berth.store, Berth.stored, saturate_ne]
  rfl

/-- A STOP_REPORT is refused by its first check that fails, or is stored and acted on (R49). -/
theorem State.stopReport_eq (s : State) (p : List Byte) :
    s.stopReport p = s.unlessRefused (stopReportRefusal s p)
      ((s.setBerth (berthNamed p) ((s.berth (berthNamed p)).stored p)).actOnReport (berthNamed p) (reportedOffset p)
        (decide (u8 p 3 = 1)), .ok) := by
  unfold State.stopReport stopReportRefusal
  rw [berthAt_eq, flagAt_eq]
  simp only [State.unlessRefused_ite, State.unlessRefused_some, State.unlessRefused_none]
  by_cases berth : 1 < u8 p 0
  · simp only [berth, if_true]
  by_cases flag : 1 < u8 p 3
  · simp only [berth, flag, if_true, if_false]
  simp only [berth, flag, if_false, Berth.store_eq]
  rfl

theorem natCast_lt_abs (c : Nat) (x : Int) : (c : Int) < |x| ↔ c < x.natAbs := by
  rw [← Int.natCast_natAbs]; exact Int.ofNat_lt

/-- The last check of a RELEASE of a PROVEN berth (R56, check 6). -/
theorem Berth.standsAsUsed_eq_false (b : Berth) (creepTol : Nat) : b.standsAsUsed creepTol = false ↔ b.movedOff creepTol := by
  unfold Berth.standsAsUsed Berth.movedOff
  cases b.lastReport with
  | none => simp
  | some e =>
    cases b.eUsed with
    | none => simp
    | some u =>
      cases b.standstill
      · simp
      · simp [natCast_lt_abs]

/-- A RELEASE is refused by its first check that fails, or releases the berth (R56, R57). -/
theorem State.release_eq (s : State) (p : List Byte) :
    s.release p = s.unlessRefused (releaseRefusal s p)
      (if (s.berth (berthNamed p)).state = .proven ∧ (s.berth (berthNamed p)).standsAsUsed s.settings.creepTol = false
        then refuse s .wrongState else (s.releaseBerth (berthNamed p), .ok)) := by
  unfold State.release releaseRefusal
  rw [berthAt_eq, flagAt_eq]
  simp only [State.unlessRefused_ite, State.unlessRefused_some, State.unlessRefused_none]
  by_cases berth : 1 < u8 p 0
  · simp only [berth, if_true]
  by_cases flag : 1 < u8 p 1
  · simp only [berth, flag, if_true, if_false]
  have partly : decide (u8 p 1 = 1) = false ↔ u8 p 1 = 0 := by rw [decide_eq_false_iff_not]; omega
  simp only [berth, flag, if_false, partly, or_comm (b := _ = none)]

/-- A CLOSE is refused by its first check that fails, or shuts the doors of the span, a RELEASED berth going to PROVING (R59, R60). -/
theorem State.close_eq (s : State) (p : List Byte) :
    s.close p = s.unlessRefused (closeRefusal s p)
      (if (s.berth (berthNamed p)).state = .released
        then (((s.shutDoors (s.spanDoors (berthNamed p)) closeReasons).enterProving (berthNamed p) .order).finishProving
          (berthNamed p), .ok)
        else (s.shutDoors (s.spanDoors (berthNamed p)) closeReasons, .ok)) := by
  unfold State.close closeRefusal
  rw [berthAt_eq]
  simp only [State.unlessRefused_ite, State.unlessRefused_some, State.unlessRefused_none, State.present, decide_eq_true_eq]
  by_cases berth : 1 < u8 p 0
  · simp only [berth, if_true]
  simp only [berth, if_false]
  cases (s.berth (berthNamed p)).state <;> simp

/-- A CANCEL vacates an ANNOUNCED or BERTHED berth (R65). -/
theorem State.cancel_eq (s : State) (p : List Byte) :
    s.cancel p = if 1 < u8 p 0 then refuse s .range 1
      else if (s.berth (berthNamed p)).state = .announced ∨ (s.berth (berthNamed p)).state = .berthed
        then (s.vacate (berthNamed p), .ok) else refuse s .wrongState := by
  unfold State.cancel
  rw [berthAt_eq]
  by_cases berth : 1 < u8 p 0
  · simp only [berth, if_true]
  simp only [berth, if_false]
  cases (s.berth (berthNamed p)).state <;> simp

/-- What DEPARTED does to a PROVEN berth (R66): the permit withdrawn with its report, then the berth VACANT. -/
def State.depart (s : State) (b : BerthId) : State :=
  ((s.setBerth b { s.berth b with permit := .withdrawn }).offer (permitWithdrawn b (s.berth b) .departed)).vacate b

theorem State.departed_eq (s : State) (p : List Byte) :
    s.departed p = if 1 < u8 p 0 then refuse s .range 1
      else if (s.berth (berthNamed p)).state = .proven then (s.depart (berthNamed p), .ok) else refuse s .wrongState := by
  unfold State.departed State.depart
  rw [berthAt_eq]
  by_cases berth : 1 < u8 p 0 <;> simp only [berth, if_true, if_false]

theorem State.depart_eq (s : State) (b : BerthId) :
    s.depart b = s.moved b .vacantRec ([permitWithdrawn b (s.berth b) .departed]
      ++ s.berthChangeTo b .vacant none ((s.berth b).trainNumber.getD 0) ++ [berthStatusReport b .vacantRec]) := by
  rw [State.depart, State.offer_eq_tell _ (by simp [permitWithdrawn]), State.vacate_eq, State.moved, State.setBerth_tell,
    State.moved]
  have flagged : ∀ (u : State) (ts : List Telegram), (u.tell ts).flagBerth b = (u.flagBerth b).tell ts := by
    intro u ts; cases b <;> rfl
  rw [State.setBerth_setBerth, flagged, State.tell_tell, List.append_assoc]
  simp [State.berthChangeTo]

/-! # Requests that change a berth's record alone -/

/-- A request taken whose owner replaces one berth's record, and tells it: what the state is then, up to the ANSWER. -/
theorem exec_moved {s : State} {k : Kind} {src : Byte} {p : List Byte} (taken : Taken s k src p) {owner : State → State × Answer}
    {b : BerthId} {r : Berth} {ts : List Telegram} (e : owner s.popRequest = (s.popRequest.moved b r ts, .ok)) :
    s.takeRequest k src p owner = (s.popRequest.moved b r ts).accepted k src []
      ∧ (s.popRequest.moved b r ts).berth b = r
      ∧ (s.popRequest.moved b r ts).berth (otherBerth b) = s.berth (otherBerth b)
      ∧ Tells s.popRequest (s.popRequest.moved b r ts) ts
      ∧ FlagsBerth s (s.popRequest.moved b r ts) b ∧ BerthsOnly s (s.popRequest.moved b r ts) :=
  ⟨State.takeRequest_accepted taken e, State.moved_berth .., State.moved_other .., State.moved_tells .., State.moved_flags ..,
    berthsOnly_of_popRequest (State.moved_only ..)⟩

/-- Settles O11: an ARRIVAL whose checks pass fills the berth, and the berth is told. -/
theorem arrivalAnnounces : Obligations.ArrivalAnnounces := by
  intro s src p taken passes
  have owner := (State.arrival_eq s.popRequest p).trans (congrArg (State.unlessRefused _ · _) passes)
  rw [State.unlessRefused_none, State.announce_eq] at owner
  obtain ⟨e, record, other, tells, flags, only⟩ := exec_moved taken (owner := fun s => s.arrival p) owner
  refine ⟨_, congrArg Host.Outcome.next e, record, other, ?_, flags, only⟩
  rw [record, State.moved_berthChange]
  exact tells

/-- Settles O12: each owner refuses by its first check that fails. -/
theorem berthOrdersRefused : Obligations.BerthOrdersRefused := by
  intro s src p c f
  refine ⟨fun taken fails => ?_, fun taken fails => ?_, fun taken fails => ?_, fun taken passes proven moved => ?_,
    fun taken fails => ?_⟩ <;> refine congrArg Host.Outcome.next (State.takeRequest_refused taken ?_)
  · exact (State.arrival_eq _ p).trans (congrArg (State.unlessRefused _ · _) fails)
  · exact (State.stopReport_eq _ p).trans (congrArg (State.unlessRefused _ · _) fails)
  · exact (State.release_eq _ p).trans (congrArg (State.unlessRefused _ · _) fails)
  · have owner := (State.release_eq s.popRequest p).trans (congrArg (State.unlessRefused _ · _) passes)
    exact owner.trans (if_pos ⟨proven, (Berth.standsAsUsed_eq_false _ _).mpr moved⟩)
  · exact (State.close_eq _ p).trans (congrArg (State.unlessRefused _ · _) fails)

/-- Settles O18: the range of the berth, then its state. -/
theorem cancelVacates : Obligations.CancelVacates := by
  intro s src p taken b st
  have owner := State.cancel_eq s.popRequest p
  rw [State.popRequest_berth] at owner
  refine ⟨fun range => ?_, fun range state => ?_, fun range notAnnounced notBerthed => ?_⟩
  · rw [if_pos range] at owner
    exact congrArg Host.Outcome.next (State.takeRequest_refused taken (owner := fun s => s.cancel p) owner)
  · rw [if_neg (by omega), if_pos state, State.vacate_eq, State.popRequest_berth] at owner
    obtain ⟨e, record, other, tells, flags, only⟩ := exec_moved taken (owner := fun s => s.cancel p) owner
    refine ⟨_, congrArg Host.Outcome.next e, ?_, ?_, other, flags, only⟩ <;> rw [record]
    · exact Berth.vacantRec_reset
    · exact tells
  · rw [if_neg (by omega), if_neg (not_or.mpr ⟨notAnnounced, notBerthed⟩)] at owner
    exact congrArg Host.Outcome.next (State.takeRequest_refused taken (owner := fun s => s.cancel p) owner)

/-- Settles O19: the range of the berth, then its state; the permit is withdrawn before the berth is VACANT. -/
theorem departedVacates : Obligations.DepartedVacates := by
  intro s src p taken b r
  have owner := State.departed_eq s.popRequest p
  rw [State.popRequest_berth] at owner
  refine ⟨fun range => ?_, fun range proven => ?_, fun range notProven => ?_⟩
  · rw [if_pos range] at owner
    exact congrArg Host.Outcome.next (State.takeRequest_refused taken (owner := fun s => s.departed p) owner)
  · rw [if_neg (by omega), if_pos proven, State.depart_eq, State.popRequest_berth] at owner
    obtain ⟨e, record, other, tells, flags, only⟩ := exec_moved taken (owner := fun s => s.departed p) owner
    refine ⟨_, congrArg Host.Outcome.next e, ?_, other, flags, ?_, only⟩ <;> rw [record]
    · exact Berth.vacantRec_reset
    · exact tells
  · rw [if_neg (by omega), if_neg notProven] at owner
    exact congrArg Host.Outcome.next (State.takeRequest_refused taken (owner := fun s => s.departed p) owner)

/-- Settles O20: a berth that is neither A nor B is refused, and the record is read as it stands. -/
theorem berthQueryReads : Obligations.BerthQueryReads := by
  intro s src p taken
  have owner : s.popRequest.berthQuery p = if 1 < u8 p 0 then refuse s.popRequest .range 1
      else (s.popRequest, .accepted (berthStatusData (berthNamed p) (s.berth (berthNamed p)))) := by
    unfold State.berthQuery
    rw [berthAt_eq]
    by_cases range : 1 < u8 p 0 <;> simp only [range, if_true, if_false, State.popRequest_berth]
  refine ⟨fun range => ?_, fun range => ?_⟩
  · rw [if_pos range] at owner
    exact congrArg Host.Outcome.next (State.takeRequest_refused taken (owner := fun s => s.berthQuery p) owner)
  · rw [if_neg (by omega)] at owner
    exact congrArg Host.Outcome.next (State.takeRequest_accepted taken (owner := fun s => s.berthQuery p) owner)

end Sys2Proof.Machine

namespace Sys2Proof.Machine

/-! # The proof condition (R197) -/

theorem State.mem_spanDoors {s : State} {b : BerthId} {d : DoorNo} : d ∈ s.spanDoors b ↔ InSpan s b d := by
  unfold State.spanDoors InSpan State.zoneOf
  rw [mem_allDoors_filter]
  cases (s.berth b).span <;> simp

/-- A gap zone that is not CLEAR blocks the proof. -/
theorem State.gapBlocked_eq_false (s : State) (d : DoorNo) :
    s.gapBlocked d = false ↔ ∀ z : ZoneId, z.isGap = true → s.zoneState d z = .clear := by
  have one : ∀ z : ZoneId, ((s.zone d z).map ZoneRec.blocks).getD false = false ↔ s.zoneState d z = .clear := by
    intro z
    unfold State.zoneState ZoneRec.blocks
    cases s.zone d z <;> simp
  have all : ∀ z : ZoneId, z ∈ allZoneIds := by intro z; cases z <;> decide
  unfold State.gapBlocked
  simp only [List.any_eq_false, Bool.and_eq_true, not_and, Bool.not_eq_true, one]
  exact ⟨fun h z => h z (all z), fun h z _ => h z⟩

/-- The proof condition in the manual's terms (R197). -/
theorem State.proofCondition_iff (s : State) (b : BerthId) : s.proofCondition b = true ↔ ProofHolds s b := by
  have zones : ∀ sp : Span, ((!sp.has .front || s.loopFront) && (!sp.has .rear || s.loopRear)) = true
      ↔ ∀ z : Zone, sp.has z = true → s.loop z = true := by
    intro sp
    simp only [Bool.and_eq_true, Bool.or_eq_true, Bool.not_eq_true']
    refine ⟨fun ⟨front, rear⟩ z has => ?_, fun h => ⟨?_, ?_⟩⟩
    · cases z
      · exact front.resolve_left (by rw [has]; decide)
      · exact rear.resolve_left (by rw [has]; decide)
    · cases has : sp.has .front
      · exact .inl rfl
      · exact .inr (h .front has)
    · cases has : sp.has .rear
      · exact .inl rfl
      · exact .inr (h .rear has)
  have doors : ((s.spanDoors b).all fun d => !s.inService d || !s.gapBlocked d) = true
      ↔ ∀ (d : DoorNo) (z : ZoneId), InSpan s b d → (s.door d).state ≠ .outOfService → z.isGap = true →
          s.zoneState d z = .clear := by
    simp only [List.all_eq_true, State.mem_spanDoors, State.inService, Bool.or_eq_true, Bool.not_eq_true',
      State.gapBlocked_eq_false, bne_eq_false_iff_eq]
    exact ⟨fun h d z inSpan serves => (h d inSpan).resolve_left serves z,
      fun h d inSpan => (em _).imp_right fun serves z => h d z inSpan serves⟩
  unfold State.proofCondition ProofHolds
  rw [Bool.and_eq_true, doors]
  refine and_congr_left fun _ => ?_
  cases (s.berth b).span <;> simp [zones]

/-- The proof condition of a berth looks at its span, the loops of its zones, and the service and the gap zones of its span doors. -/
theorem proofHolds_congr {s t : State} {b : BerthId} (span : (t.berth b).span = (s.berth b).span)
    (zone : ∀ d, (t.pdt d).zone = (s.pdt d).zone)
    (loop : ∀ sp z, (s.berth b).span = some sp → sp.has z = true → t.loop z = s.loop z)
    (service : ∀ d, InSpan s b d → ((t.door d).state = .outOfService ↔ (s.door d).state = .outOfService))
    (gaps : ∀ d, InSpan s b d → (s.door d).state ≠ .outOfService → ∀ z, t.zoneState d z = s.zoneState d z) :
    ProofHolds t b ↔ ProofHolds s b := by
  have inSpan : ∀ d, InSpan t b d ↔ InSpan s b d := by intro d; unfold InSpan; rw [span, zone d]
  unfold ProofHolds
  rw [span]
  refine and_congr (exists_congr fun sp => and_congr_right fun e => forall₂_congr fun z has => by rw [loop sp z e has]) ?_
  refine forall₂_congr fun d z => ?_
  rw [inSpan d]
  refine forall_congr' fun here => ?_
  rw [ne_eq, service d here]
  exact forall_congr' fun serves => by rw [gaps d here serves z]

/-! # An evaluation of the proof (R198 to R202) -/

/-- The record of a berth whose proof is gained, and lost (R199, R200). -/
def Berth.gained (r : Berth) : Berth := { r with state := .proven, proofTimer := .stopped, permit := .granted }
def Berth.lost (r : Berth) (ms : Nat) : Berth := { r with state := .proving, permit := .withdrawn, proofTimer := .running ms }

/-- The time a proof timer starts for, in milliseconds (R62). -/
def State.proofMs (s : State) : Nat := s.settings.proofTime * 1000

/-- A berth record written, a report offered, and the change told (R45). -/
theorem State.setBerth_offered_reported (s : State) (b : BerthId) (r : Berth) {x : Telegram} (h : x.cls ≠ .event) :
    (((s.setBerth b r).offer x).reportBerthNow b).offerBerthStatus b
      = s.moved b r ([x] ++ s.berthChangeTo b r.state r.closeCause (r.trainNumber.getD 0) ++ [berthStatusReport b r]) := by
  have flagged : ((s.setBerth b r).tell [x]).flagBerth b = ((s.setBerth b r).flagBerth b).tell [x] := by cases b <;> rfl
  rw [State.reportBerthNow, State.offer_eq_tell _ h, State.reportBerth_eq, State.offerBerthStatus_eq, flagged, State.tell_tell,
    State.tell_tell, State.moved]
  simp [State.berthChangeTo]

section
variable {s : State} {b : BerthId}

theorem State.evaluateProof_gains (proving : (s.berth b).state = .proving) (holds : ProofHolds s b) :
    s.evaluateProof b = (s.setBerth b (s.berth b).gained).offer (permitGranted b (s.berth b).gained) := by
  rw [State.evaluateProof, if_pos ⟨proving, s.proofCondition_iff b |>.mpr holds⟩, State.gainProof, State.berth_setBerth_same]
  rfl

theorem State.evaluateProof_loses (proven : (s.berth b).state = .proven) (fails : ¬ ProofHolds s b) :
    s.evaluateProof b
      = (s.setBerth b ((s.berth b).lost s.proofMs)).offer (permitWithdrawn b ((s.berth b).lost s.proofMs) .proofLost) := by
  have condition : s.proofCondition b = false := by
    rw [← Bool.not_eq_true, State.proofCondition_iff]; exact fails
  rw [State.evaluateProof, if_neg fun h => by rw [proven] at h; exact absurd h.1 (by decide), if_pos ⟨proven, condition⟩,
    State.loseProof, State.berth_setBerth_same]
  rfl

theorem State.evaluateProof_idle (noGain : ¬ ((s.berth b).state = .proving ∧ ProofHolds s b))
    (noLoss : ¬ ((s.berth b).state = .proven ∧ ¬ ProofHolds s b)) : s.evaluateProof b = s := by
  rw [← State.proofCondition_iff] at noGain noLoss
  rw [Bool.not_eq_true] at noLoss
  rw [State.evaluateProof, if_neg noGain, if_neg noLoss]

/-- A proof gained: the record, the grant, and the change told (R199). -/
theorem State.handProof_gains (proving : (s.berth b).state = .proving) (holds : ProofHolds s b) :
    s.handProof b = s.moved b (s.berth b).gained ([permitGranted b (s.berth b).gained]
      ++ s.berthChangeTo b .proven (s.berth b).closeCause ((s.berth b).trainNumber.getD 0)
      ++ [berthStatusReport b (s.berth b).gained]) := by
  have changed : ((s.evaluateProof b).berth b).state ≠ (s.berth b).state := by
    rw [State.evaluateProof_gains proving holds, proving, State.offer_eq_tell _ (by simp [permitGranted])]
    simp [Berth.gained]
  rw [State.handProof, if_neg changed, State.evaluateProof_gains proving holds,
    State.setBerth_offered_reported _ _ _ (by simp [permitGranted])]
  rfl

/-- A proof lost: the record, the withdrawal, and the change told (R200). -/
theorem State.handProof_loses (proven : (s.berth b).state = .proven) (fails : ¬ ProofHolds s b) :
    s.handProof b = s.moved b ((s.berth b).lost s.proofMs) ([permitWithdrawn b (s.berth b) .proofLost]
      ++ s.berthChangeTo b .proving (s.berth b).closeCause ((s.berth b).trainNumber.getD 0)
      ++ [berthStatusReport b ((s.berth b).lost s.proofMs)]) := by
  have changed : ((s.evaluateProof b).berth b).state ≠ (s.berth b).state := by
    rw [State.evaluateProof_loses proven fails, proven, State.offer_eq_tell _ (by simp [permitWithdrawn])]
    simp [Berth.lost]
  rw [State.handProof, if_neg changed, State.evaluateProof_loses proven fails,
    State.setBerth_offered_reported _ _ _ (by simp [permitWithdrawn])]
  rfl

theorem State.handProof_idle (noGain : ¬ ((s.berth b).state = .proving ∧ ProofHolds s b))
    (noLoss : ¬ ((s.berth b).state = .proven ∧ ¬ ProofHolds s b)) : s.handProof b = s := by
  rw [State.handProof, State.evaluateProof_idle noGain noLoss, if_pos rfl]

end

/-- An evaluation handed over gains the proof, loses it, or does nothing. -/
theorem State.handProof_cases (s : State) (b : BerthId) :
    ((s.berth b).state = .proving ∧ ProofHolds s b) ∨ ((s.berth b).state = .proven ∧ ¬ ProofHolds s b) ∨ s.handProof b = s := by
  by_cases gain : (s.berth b).state = .proving ∧ ProofHolds s b
  · exact .inl gain
  · by_cases loss : (s.berth b).state = .proven ∧ ¬ ProofHolds s b
    · exact .inr (.inl loss)
    · exact .inr (.inr (State.handProof_idle gain loss))

/-! ## What an evaluation leaves of the berths and of their proof conditions -/

theorem BerthsOnly.refl (s : State) : BerthsOnly s s := ⟨rfl, rfl, rfl⟩
theorem berthsOnly_trans {s t u : State} (h : BerthsOnly s t) (k : BerthsOnly t u) : BerthsOnly s u := by
  obtain ⟨frame, lli, er⟩ := h
  obtain ⟨frame', lli', er'⟩ := k
  refine ⟨?_, ?_, ?_⟩
  · rw [frame', frame]
  · rw [QueueOnly, lli', lli]
  · rw [MapOnly, er', er]

theorem State.handProof_berthsOnly (s : State) (b : BerthId) : BerthsOnly s (s.handProof b) := by
  rcases s.handProof_cases b with ⟨proving, holds⟩ | ⟨proven, fails⟩ | same
  · rw [State.handProof_gains proving holds]; exact s.moved_only ..
  · rw [State.handProof_loses proven fails]; exact s.moved_only ..
  · rw [same]; exact .refl s

/-- A berth whose proof is awaited or holds. -/
def Berth.Active (r : Berth) : Prop := r.state = .proving ∨ r.state = .proven

/-- What evaluations do to a berth's record: its proof is gained or lost, its timer then started for `ms`, or nothing. -/
def ProofMoved (ms : Nat) (r r' : Berth) : Prop := r' = r ∨ (r.Active ∧ (r' = r.gained ∨ r' = r.lost ms))

theorem ProofMoved.refl {ms : Nat} (r : Berth) : ProofMoved ms r r := .inl rfl
theorem ProofMoved.trans {ms : Nat} {q r t : Berth} (h : ProofMoved ms q r) (k : ProofMoved ms r t) : ProofMoved ms q t := by
  rcases k with rfl | ⟨still, k⟩
  · exact h
  · rcases h with rfl | ⟨active, rfl | rfl⟩
    · exact .inr ⟨still, k⟩
    · exact .inr ⟨active, k⟩
    · exact .inr ⟨active, k⟩
theorem ProofMoved.active {ms : Nat} {r r' : Berth} (h : ProofMoved ms r r') : r'.Active ↔ r.Active := by
  rcases h with rfl | ⟨active, rfl | rfl⟩
  · exact .rfl
  · exact ⟨fun _ => active, fun _ => .inr rfl⟩
  · exact ⟨fun _ => active, fun _ => .inl rfl⟩
theorem ProofMoved.span {ms : Nat} {r r' : Berth} (h : ProofMoved ms r r') : r'.span = r.span := by
  rcases h with rfl | ⟨-, rfl | rfl⟩ <;> rfl
/-- A berth that no evaluation concerns keeps its record. -/
theorem ProofMoved.of_not_active {ms : Nat} {r r' : Berth} (h : ProofMoved ms r r') (idle : ¬ r.Active) : r' = r :=
  h.resolve_right fun k => idle k.1

theorem State.handProof_moved (s : State) (b c : BerthId) : ProofMoved s.proofMs (s.berth c) ((s.handProof b).berth c) := by
  have other : ∀ (r : Berth) (ts : List Telegram), c ≠ b → (s.moved b r ts).berth c = s.berth c := by
    intro r ts ne
    rw [eq_otherBerth ne, State.moved_other]
  rcases s.handProof_cases b with ⟨proving, holds⟩ | ⟨proven, fails⟩ | same
  · rw [State.handProof_gains proving holds]
    by_cases e : c = b
    · rw [e, State.moved_berth]; exact .inr ⟨.inl proving, .inl rfl⟩
    · exact .inl (other _ _ e)
  · rw [State.handProof_loses proven fails]
    by_cases e : c = b
    · rw [e, State.moved_berth]; exact .inr ⟨.inr proven, .inr rfl⟩
    · exact .inl (other _ _ e)
  · rw [same]; exact .refl _

/-- A state that differs in berth records, the transmit queue and the Event Reporter alone has the same proof conditions, the spans
being the same. -/
theorem proofHolds_of_berthsOnly {s t : State} (h : BerthsOnly s t) {b : BerthId} (span : (t.berth b).span = (s.berth b).span) :
    ProofHolds t b ↔ ProofHolds s b := by
  obtain ⟨frame, -⟩ := h
  refine proofHolds_congr span (fun d => ?_) (fun _ z _ _ => ?_) (fun d _ => ?_) (fun d _ _ z => ?_) <;> rw [frame]
  · rfl
  · cases z <;> rfl
  · rfl
  · rfl

theorem State.handProof_proofHolds (s : State) (b c : BerthId) : ProofHolds (s.handProof b) c ↔ ProofHolds s c :=
  proofHolds_of_berthsOnly (s.handProof_berthsOnly b) (s.handProof_moved b c).span

/-- The proof condition of a PROVEN berth holds, and that of a PROVING one fails (R197 to R200). -/
def ProofSound (s : State) (b : BerthId) : Prop :=
  ((s.berth b).state = .proven → ProofHolds s b) ∧ ((s.berth b).state = .proving → ¬ ProofHolds s b)

theorem ProofSound.congr {s t : State} {b : BerthId} (h : ProofSound s b) (state : (t.berth b).state = (s.berth b).state)
    (holds : ProofHolds t b ↔ ProofHolds s b) : ProofSound t b := by
  unfold ProofSound
  rw [state, holds]
  exact h

theorem proofSound_of_idle {s : State} {b : BerthId} (h : ¬ (s.berth b).Active) : ProofSound s b :=
  ⟨fun proven => absurd (.inr proven) h, fun proving => absurd (.inl proving) h⟩

/-- An evaluation makes the berth's proof sound (R198). -/
theorem State.handProof_sound (s : State) (b : BerthId) : ProofSound (s.handProof b) b := by
  unfold ProofSound
  rw [State.handProof_proofHolds]
  by_cases gain : (s.berth b).state = .proving ∧ ProofHolds s b
  · rw [State.handProof_gains gain.1 gain.2, State.moved_berth]
    exact ⟨fun _ => gain.2, fun h => absurd h (by simp [Berth.gained])⟩
  · by_cases loss : (s.berth b).state = .proven ∧ ¬ ProofHolds s b
    · rw [State.handProof_loses loss.1 loss.2, State.moved_berth]
      exact ⟨fun h => absurd h (by simp [Berth.lost]), fun _ => loss.2⟩
    · rw [State.handProof_idle gain loss]
      exact ⟨fun proven => by_contra fun fails => loss ⟨proven, fails⟩, fun proving holds => gain ⟨proving, holds⟩⟩

theorem State.handProof_keeps_sound {s : State} {c : BerthId} (h : ProofSound s c) (b : BerthId) :
    ProofSound (s.handProof b) c := by
  by_cases same : c = b
  · rw [same]; exact s.handProof_sound b
  · have e := eq_otherBerth same
    have kept : (s.handProof b).berth c = s.berth c := by
      rcases s.handProof_cases b with ⟨proving, holds⟩ | ⟨proven, fails⟩ | idle
      · rw [State.handProof_gains proving holds, e, State.moved_other]
      · rw [State.handProof_loses proven fails, e, State.moved_other]
      · rw [idle]
    exact h.congr (by rw [kept]) (s.handProof_proofHolds b c)

/-! ## The berths of a zone (R196, R198) -/

/-- A span, if there is one, contains a zone. -/
def Berth.spans (r : Berth) (z : Zone) : Prop := (r.span.map (Span.has · z)).getD false = true

theorem Berth.spans_iff {r : Berth} {z : Zone} : r.spans z ↔ ∃ sp : Span, r.span = some sp ∧ sp.has z = true := by
  unfold Berth.spans
  cases r.span <;> simp

theorem inSpan_iff {s : State} {b : BerthId} {d : DoorNo} : InSpan s b d ↔ (s.berth b).spans (s.zoneOf d) := Berth.spans_iff.symm

/-- One berth is evaluated where its span contains the zone. -/
def State.handProofIn (z : Zone) (s : State) (b : BerthId) : State :=
  if (((s.berth b).span.map (Span.has · z)).getD false) then s.handProof b else s

theorem State.handProofOfZone_eq (s : State) (z : Zone) :
    s.handProofOfZone z = State.handProofIn z (State.handProofIn z s .A) .B := rfl

section
variable (z : Zone) (s : State) (b c : BerthId)

theorem State.handProofIn_cases : ((s.berth b).spans z ∧ State.handProofIn z s b = s.handProof b)
    ∨ (¬ (s.berth b).spans z ∧ State.handProofIn z s b = s) := by
  unfold State.handProofIn
  split
  next h => exact .inl ⟨h, rfl⟩
  next h => exact .inr ⟨h, rfl⟩

theorem State.handProofIn_berthsOnly : BerthsOnly s (State.handProofIn z s b) := by
  rcases State.handProofIn_cases z s b with ⟨-, e⟩ | ⟨-, e⟩ <;> rw [e]
  · exact s.handProof_berthsOnly b
  · exact .refl s

theorem State.handProofIn_moved : ProofMoved s.proofMs (s.berth c) ((State.handProofIn z s b).berth c) := by
  rcases State.handProofIn_cases z s b with ⟨-, e⟩ | ⟨-, e⟩ <;> rw [e]
  · exact s.handProof_moved b c
  · exact .refl _

theorem State.handProofIn_sound (h : ProofSound s c ∨ (c = b ∧ (s.berth b).spans z)) :
    ProofSound (State.handProofIn z s b) c := by
  rcases State.handProofIn_cases z s b with ⟨-, e⟩ | ⟨off, e⟩ <;> rw [e]
  · rcases h with sound | ⟨rfl, -⟩
    · exact State.handProof_keeps_sound sound b
    · exact s.handProof_sound c
  · exact h.resolve_right fun k => off k.2

theorem State.handProofIn_proofMs : (State.handProofIn z s b).proofMs = s.proofMs := by
  rw [(State.handProofIn_berthsOnly z s b).1]; rfl

end

theorem State.handProofOfZone_berthsOnly (s : State) (z : Zone) : BerthsOnly s (s.handProofOfZone z) :=
  berthsOnly_trans (State.handProofIn_berthsOnly z s .A) (State.handProofIn_berthsOnly z _ .B)

theorem State.handProofOfZone_moved (s : State) (z : Zone) (b : BerthId) :
    ProofMoved s.proofMs (s.berth b) ((s.handProofOfZone z).berth b) :=
  (State.handProofIn_moved z s .A b).trans (State.handProofIn_proofMs z s .A ▸ State.handProofIn_moved z _ .B b)

/-- Once the berths of a zone are evaluated, the proof of each that spans it is sound, and of each whose proof was. -/
theorem State.handProofOfZone_sound {s : State} {z : Zone} {b : BerthId} (h : ProofSound s b ∨ (s.berth b).spans z) :
    ProofSound (s.handProofOfZone z) b := by
  rw [State.handProofOfZone_eq]
  refine State.handProofIn_sound z _ .B b ?_
  cases b
  · exact .inl (State.handProofIn_sound z s .A .A (h.imp_right fun spans => ⟨rfl, spans⟩))
  · refine h.imp (fun sound => State.handProofIn_sound z s .A .B (.inl sound)) fun spans => ⟨rfl, ?_⟩
    unfold Berth.spans
    rw [(State.handProofIn_moved z s .A .B).span]
    exact spans

/-! ## A loop judged, and a door handed over (R116, R196) -/

theorem State.loop_setLoop_ne (s : State) {y z : Zone} (v : Bool) (ne : y ≠ z) : (s.setLoop z v).loop y = s.loop y := by
  cases z with
  | front => cases y; exacts [absurd rfl ne, rfl]
  | rear => cases y; exacts [rfl, absurd rfl ne]

theorem State.setLoop_proofHolds {s : State} {z : Zone} {b : BerthId} (off : ¬ (s.berth b).spans z) (v : Bool) :
    ProofHolds (s.setLoop z v) b ↔ ProofHolds s b := by
  refine proofHolds_congr ?_ (fun d => ?_) (fun sp y e has => ?_) (fun d _ => ?_) (fun d _ _ y => ?_)
  · cases z <;> cases b <;> rfl
  · cases z <;> rfl
  · have ne : y ≠ z := fun same => off (Berth.spans_iff.mpr ⟨sp, e, same ▸ has⟩)
    exact s.loop_setLoop_ne v ne
  · cases z <;> rfl
  · cases z <;> rfl

@[simp] theorem State.setLoop_berth (s : State) (z : Zone) (v : Bool) (b : BerthId) : (s.setLoop z v).berth b = s.berth b := by
  cases z <;> cases b <;> rfl

theorem State.judgeLoop_moved (s : State) (z : Zone) (b : BerthId) :
    ProofMoved s.proofMs (s.berth b) ((s.judgeLoop z).berth b) := by
  unfold State.judgeLoop
  split
  · exact .refl _
  · have moved := (s.setLoop z (s.loopCondition z)).handProofOfZone_moved z b
    have ms : (s.setLoop z (s.loopCondition z)).proofMs = s.proofMs := by cases z <;> rfl
    rw [ms, State.setLoop_berth] at moved
    exact moved

theorem State.judgeLoop_keeps_sound {s : State} {b : BerthId} (h : ProofSound s b) (z : Zone) : ProofSound (s.judgeLoop z) b := by
  unfold State.judgeLoop
  split
  · exact h
  · refine State.handProofOfZone_sound ?_
    rw [State.setLoop_berth]
    by_cases spans : (s.berth b).spans z
    · exact .inr spans
    · exact .inl (h.congr (by rw [State.setLoop_berth]) (State.setLoop_proofHolds spans _))

theorem State.judgeLoop_loop (s : State) (z : Zone) : (s.judgeLoop z).loop z = s.loopCondition z := by
  unfold State.judgeLoop
  split
  next same => exact same
  next =>
    have kept : ((s.setLoop z (s.loopCondition z)).handProofOfZone z).loop z = (s.setLoop z (s.loopCondition z)).loop z := by
      rw [(State.handProofOfZone_berthsOnly _ z).1]
      cases z <;> rfl
    rw [kept, State.loop_setLoop_same]

/-- A report of a door touches the link interface and the Event Reporter alone. -/
theorem State.reportDoor_berthsOnly (s : State) (d : DoorNo) : BerthsOnly s (s.reportDoor d) := by
  rw [State.reportDoor_eq]
  exact ⟨rfl, s.lli.offers_queueOnly _, rfl⟩
@[simp] theorem State.reportDoor_berth (s : State) (d : DoorNo) (b : BerthId) : (s.reportDoor d).berth b = s.berth b := by
  rw [State.reportDoor_eq]; cases b <;> rfl

theorem State.handDoor_moved (s : State) (d : DoorNo) (b : BerthId) :
    ProofMoved s.proofMs (s.berth b) ((s.handDoor d).berth b) := by
  have ms : (s.judgeLoop (s.zoneOf d)).proofMs = s.proofMs :=
    congrArg (· * 1000) (congrArg Settings.proofTime (State.settings_congr (s.judgeLoop_handed _).ts))
  have zone := (s.judgeLoop (s.zoneOf d)).handProofOfZone_moved (s.zoneOf d) b
  rw [ms] at zone
  rw [State.handDoor, State.reportDoor_berth]
  exact (s.judgeLoop_moved _ b).trans zone

/-- Once a door is handed over, the proof of each berth whose span holds it is sound, and of each whose proof was. -/
theorem State.handDoor_sound {s : State} {d : DoorNo} {b : BerthId} (h : ProofSound s b ∨ InSpan s b d) :
    ProofSound (s.handDoor d) b := by
  have handed : ProofSound ((s.judgeLoop (s.zoneOf d)).handProofOfZone (s.zoneOf d)) b := by
    refine State.handProofOfZone_sound (h.imp (fun sound => State.judgeLoop_keeps_sound sound _) fun here => ?_)
    unfold Berth.spans
    rw [(s.judgeLoop_moved _ b).span]
    exact inSpan_iff.mp here
  refine handed.congr (by rw [State.handDoor, State.reportDoor_berth]) ?_
  exact proofHolds_of_berthsOnly (State.reportDoor_berthsOnly _ d) (by rw [State.reportDoor_berth])

theorem State.handDoor_judged (s : State) (d : DoorNo) : LoopJudged (s.handDoor d) (s.pdt d).zone := by
  have after : ∀ u : State, ((u.handProofOfZone (s.zoneOf d)).reportDoor d).loop (s.zoneOf d) = u.loop (s.zoneOf d) := by
    intro u
    rw [(berthsOnly_trans (u.handProofOfZone_berthsOnly _) (State.reportDoor_berthsOnly _ d)).1]
    cases s.zoneOf d <;> rfl
  have handed := s.handDoor_handed d
  have loop : (s.handDoor d).loop (s.pdt d).zone = (s.handDoor d).loopCondition (s.pdt d).zone := by
    calc (s.handDoor d).loop (s.pdt d).zone = s.loopCondition (s.pdt d).zone := (after _).trans (s.judgeLoop_loop _)
      _ = (s.handDoor d).loopCondition (s.pdt d).zone := by
          rw [handed.frame]; rfl
  unfold LoopJudged
  rw [loop]
  exact (s.handDoor d).loopCondition_iff _

/-- A hand-over changes nothing but door records, the loops, the berths, the link's queue and the change map. -/
theorem Handed.doorsAndBerthsOnly {s t : State} (h : Handed s t) : DoorsAndBerthsOnly s t := by
  refine ⟨?_, h.lli, h.er⟩
  have doors := h.doors
  rw [doors]
  exact h.frame

/-- Settles O21: the proof timer's expiry; an evaluation that gains, loses or does nothing; and the hand-over of a door's record. -/
theorem proofTimeoutExpires : Obligations.ProofTimeoutExpires := by
  intro s b
  refine ⟨fun ms proving running => ?_, fun notRunning => ?_, ?_, fun d => ?_⟩
  · exact congrArg Host.Outcome.next (if_pos ⟨proving, by rw [running]; rfl⟩)
  · refine congrArg Host.Outcome.next (if_neg fun h => ?_)
    rcases notRunning with e | e
    · rw [e] at h; exact absurd h.2 (by decide)
    · rw [e] at h; exact absurd h.2 (by decide)
  · intro r t gains loses
    have other : ∀ (r : Berth) (ts : List Telegram), t = s.moved b r ts →
        FlagsBerth s t b ∧ BerthsOnly s t ∧ t.berth (otherBerth b) = s.berth (otherBerth b) := by
      intro r ts e
      rw [e]
      exact ⟨s.moved_flags b r ts, s.moved_only b r ts, s.moved_other b r ts⟩
    refine ⟨fun ⟨proving, holds⟩ => ?_, fun ⟨proven, fails⟩ => ?_, fun h => ?_, fun noGain noLoss => ?_⟩
    · have e : t = _ := State.handProof_gains proving holds
      rw [e, State.moved_berth, State.moved_berthChange]
      exact ⟨rfl, State.moved_tells ..⟩
    · have e : t = _ := State.handProof_loses proven fails
      rw [e, State.moved_berth, State.moved_berthChange]
      exact ⟨rfl, State.moved_tells ..⟩
    · rcases h with ⟨proving, holds⟩ | ⟨proven, fails⟩
      · exact other _ _ (State.handProof_gains proving holds)
      · exact other _ _ (State.handProof_loses proven fails)
    · exact State.handProof_idle noGain noLoss
  · intro t
    have handed := s.handDoor_handed d
    have flag : t.er.doorFlags[d] = true := by
      show (State.reportDoor _ d).er.doorFlags[d] = true
      rw [State.reportDoor_eq]
      simp
    refine ⟨s.handDoor_judged d, flag, handed.doorsAndBerthsOnly, handed.doors, fun here active => ?_⟩
    obtain ⟨proven, proving⟩ := State.handDoor_sound (.inr here : ProofSound s b ∨ InSpan s b d)
    rcases (s.handDoor_moved d b).active.mpr active with e | e
    · exact .inr ⟨e, proving e⟩
    · exact .inl ⟨e, proven e⟩

end Sys2Proof.Machine

namespace Sys2Proof.Machine

/-! # STOP_REPORTs that compute nothing (R50 to R52) -/

/-- A report stored that does nothing more: PROVING, PROVEN, ANNOUNCED without standstill, and RELEASED within CREEP_TOL. -/
theorem State.actOnReport_stored {s : State} {b : BerthId} {e : Int} {standstill : Bool}
    (h : (s.berth b).state = .proving ∨ (s.berth b).state = .proven ∨ ((s.berth b).state = .announced ∧ standstill = false)
      ∨ ((s.berth b).state = .released ∧ standstill = true
        ∧ ∃ u : Int, (s.berth b).eUsed = some u ∧ |e - u| ≤ (s.settings.creepTol : Int))) :
    s.actOnReport b e standstill = s := by
  unfold State.actOnReport
  rcases h with state | state | ⟨state, moving⟩ | ⟨state, stands, u, used, near⟩
  · simp only [state]
  · simp only [state]
  · simp only [state, moving, Bool.false_eq_true, if_false]
  · have within : ¬ s.settings.creepTol < (e - u).natAbs := by
      rw [← natCast_lt_abs]; omega
    simp only [state, stands, used, Option.getD_some, within, Bool.true_eq_false, if_false]

/-- Movement in BERTHED clears the alignment, and the berth is ANNOUNCED again (R51). -/
theorem State.actOnReport_clears {s : State} {b : BerthId} {e : Int} (berthed : (s.berth b).state = .berthed) :
    s.actOnReport b e false = s.moved b { (s.berth b).clearAlignment with state := .announced }
      (s.berthChangeTo b .announced (s.berth b).closeCause ((s.berth b).trainNumber.getD 0)
        ++ [berthStatusReport b { (s.berth b).clearAlignment with state := .announced }]) := by
  unfold State.actOnReport
  simp only [berthed, Bool.false_eq_true, if_false, State.setBerth_reported]
  rfl

/-- Settles O13: each state's rule for the reports that compute nothing. -/
theorem stopReportStores : Obligations.StopReportStores := by
  intro s src p taken passes b r
  have owner := (State.stopReport_eq s.popRequest p).trans (congrArg (State.unlessRefused _ · _) passes)
  rw [State.unlessRefused_none, State.popRequest_berth] at owner
  have record : ((s.popRequest.setBerth b (r.stored p)).berth b) = r.stored p := State.berth_setBerth_same ..
  have settings : (s.popRequest.setBerth b (r.stored p)).settings = s.settings :=
    State.settings_congr (State.setBerth_ts ..)
  refine ⟨fun stores => ?_, fun berthed moving => ?_⟩
  · rw [State.actOnReport_stored] at owner
    · exact congrArg Host.Outcome.next (State.takeRequest_accepted taken (owner := fun s => s.stopReport p) owner)
    · rw [record, settings]
      refine stores.imp id (Or.imp id (Or.imp (And.imp id fun moving => ?_) (And.imp id (And.imp (fun stands => ?_) id))))
      · rw [moving]; rfl
      · rw [stands]; rfl
  · have still : decide (u8 p 3 = 1) = false := by rw [moving]; rfl
    have state : ((s.popRequest.setBerth b (r.stored p)).berth b).state = .berthed := by rw [record]; exact berthed
    rw [still, State.actOnReport_clears state, record, State.moved, State.setBerth_setBerth, ← State.moved] at owner
    obtain ⟨e, told, other, tells, flags, only⟩ := exec_moved taken (owner := fun s => s.stopReport p) owner
    refine ⟨_, congrArg Host.Outcome.next e, told, ?_, other, flags, only⟩
    rw [told, State.moved_berthChange]
    refine tells.imp (fun lli => lli.trans ?_) fun lost => lost.trans ?_ <;> cases b <;> rfl

end Sys2Proof.Machine

namespace Sys2Proof.Machine

/-! # What is told of the doors and berths an event changes (R45, R116, R205) -/

/-- From `s` to `t` door records, loops and berths change at most, telegrams are offered, and every change of a door's standing and of
a berth's record is told; what is told of berth `x`, if there is such a one, is left open. -/
structure Told (x : Option BerthId) (s t : State) (ts : List Telegram) : Prop where
  only : DoorsAndBerthsOnly s t
  tells : Tells s t ts
  doorFlags : ∀ d : DoorNo, s.er.doorFlags[d] = true → t.er.doorFlags[d] = true
  berthFlags : ∀ b : BerthId, s.er.berthFlag b = true → t.er.berthFlag b = true
  doors : ∀ d : DoorNo, (t.door d).standing = (s.door d).standing ∨ (t.er.doorFlags[d] = true ∧ t.doorChange d ⊆ ts)
  berths : ∀ b : BerthId, x ≠ some b → t.berth b = s.berth b
    ∨ (t.er.berthFlag b = true ∧ t.berthChange b ⊆ ts ∧ berthStatusReport b (t.berth b) ∈ ts)

theorem doorsAndBerthsOnly_trans {s t u : State} (h : DoorsAndBerthsOnly s t) (k : DoorsAndBerthsOnly t u) :
    DoorsAndBerthsOnly s u := by
  obtain ⟨frame, lli, er⟩ := h
  obtain ⟨frame', lli', er'⟩ := k
  refine ⟨?_, ?_, ?_⟩
  · rw [frame', frame]
  · rw [QueueOnly, lli', lli]
  · rw [MapOnly, er', er]

theorem berthsOnly_doorsAndBerthsOnly {s t : State} (h : BerthsOnly s t) : DoorsAndBerthsOnly s t := by
  obtain ⟨frame, lli, er⟩ := h
  refine ⟨?_, lli, er⟩
  rw [frame]

/-- The taking of a request out of the request order changes none of these records. -/
theorem doorsAndBerthsOnly_of_popRequest {s t : State} (h : DoorsAndBerthsOnly s.popRequest t) : DoorsAndBerthsOnly s t := by
  obtain ⟨frame, lli, er⟩ := h
  exact ⟨frame.trans rfl, lli.trans rfl, er⟩

/-- The BERTH_CHANGE of a berth depends on its record and the event mask alone. -/
theorem State.berthChange_congr {s t : State} {b : BerthId} (mask : t.er.mask = s.er.mask) (record : t.berth b = s.berth b) :
    t.berthChange b = s.berthChange b := by
  unfold State.berthChange State.berthChangeTo
  rw [record, State.eventOf_congr mask]

theorem EventReporter.setBerthFlag_keeps {e : EventReporter} {c : BerthId} (h : e.berthFlag c = true) (b : BerthId) :
    (e.setBerthFlag b true).berthFlag c = true := by
  cases b with
  | A => cases c; exacts [rfl, h]
  | B => cases c; exacts [h, rfl]
@[simp] theorem EventReporter.setBerthFlag_doorFlags (e : EventReporter) (b : BerthId) (v : Bool) :
    (e.setBerthFlag b v).doorFlags = e.doorFlags := by cases b <;> rfl

namespace Told
variable {x : Option BerthId} {s t u : State} {ts us : List Telegram}

theorem mask (h : Told x s t ts) : t.er.mask = s.er.mask := by
  obtain ⟨-, -, er⟩ := h.only
  rw [er]

theorem ts_eq (h : Told x s t ts) : t.ts = s.ts := by
  obtain ⟨frame, -⟩ := h.only
  rw [frame]
theorem ou_eq (h : Told x s t ts) : t.ou = s.ou := by
  obtain ⟨frame, -⟩ := h.only
  rw [frame]

theorem refl (x : Option BerthId) (s : State) : Told x s s [] :=
  ⟨⟨rfl, rfl, rfl⟩, ⟨rfl, by simp [LineLink.losesEvent]⟩, fun _ h => h, fun _ h => h, fun _ => .inl rfl, fun _ _ => .inl rfl⟩

theorem trans (h : Told x s t ts) (k : Told x t u us) : Told x s u (ts ++ us) := by
  refine ⟨doorsAndBerthsOnly_trans h.only k.only, tells_append h.tells k.tells, fun d e => k.doorFlags d (h.doorFlags d e),
    fun b e => k.berthFlags b (h.berthFlags b e), fun d => ?_, fun b open_ => ?_⟩
  · rcases k.doors d with same | ⟨flag, change⟩
    · refine (h.doors d).imp same.trans fun ⟨flag, change⟩ => ⟨k.doorFlags d flag, ?_⟩
      rw [State.doorChange_congr k.mask same]
      exact List.subset_append_of_subset_left us change
    · exact .inr ⟨flag, List.subset_append_of_subset_right ts change⟩
  · rcases k.berths b open_ with same | ⟨flag, change, status⟩
    · refine (h.berths b open_).imp same.trans fun ⟨flag, change, status⟩ => ⟨k.berthFlags b flag, ?_, ?_⟩
      · rw [State.berthChange_congr k.mask same]
        exact List.subset_append_of_subset_left us change
      · rw [same]
        exact List.mem_append_left us status
    · exact .inr ⟨flag, List.subset_append_of_subset_right ts change, List.mem_append_right ts status⟩

theorem leaveOpen (h : Told none s t ts) (x : Option BerthId) : Told x s t ts :=
  ⟨h.only, h.tells, h.doorFlags, h.berthFlags, h.doors, fun b _ => h.berths b (by simp)⟩

/-- Every change is told, berth `b` told at the end or its state as it was. -/
theorem changesTold {b : BerthId} (h : Told (some b) s t ts) (own : (t.berth b).state = (s.berth b).state
    ∨ (t.er.berthFlag b = true ∧ t.berthChange b ⊆ ts ∧ berthStatusReport b (t.berth b) ∈ ts)) : ChangesTold s t ts := by
  refine ⟨fun d changed => (h.doors d).resolve_left changed, fun c changed => ?_⟩
  by_cases same : c = b
  · subst same
    exact own.resolve_left changed
  · have apart : some b ≠ some c := fun e => same (Option.some.inj e).symm
    exact (h.berths c apart).resolve_left fun e => changed (by rw [e])

theorem changesTold_all (h : Told none s t ts) : ChangesTold s t ts :=
  ⟨fun d changed => (h.doors d).resolve_left changed,
    fun b changed => (h.berths b (by simp)).resolve_left fun e => changed (by rw [e])⟩

end Told

/-! ## Single writes, telegrams, and the reports of a berth -/

theorem State.setBerth_told (s : State) (b : BerthId) (r : Berth) : Told (some b) s (s.setBerth b r) [] := by
  refine ⟨?_, ⟨by simp, by simp [LineLink.losesEvent]⟩, fun _ h => by simpa using h, fun _ h => by simpa using h,
    fun d => .inl (by rw [State.door_congr (State.setBerth_doors s b r)]), fun c apart => .inl ?_⟩
  · cases b <;> exact ⟨rfl, rfl, rfl⟩
  · exact s.berth_setBerth_ne r fun e => apart (by rw [e])

theorem State.setLoop_told (s : State) (z : Zone) (v : Bool) : Told none s (s.setLoop z v) [] := by
  refine ⟨?_, ⟨by simp, by simp [LineLink.losesEvent]⟩, fun _ h => by simpa using h, fun _ h => by simpa using h,
    fun d => .inl (by rw [State.door_congr (State.setLoop_doors s z v)]), fun b _ => .inl (s.setLoop_berth z v b)⟩
  cases z <;> exact ⟨rfl, rfl, rfl⟩

theorem State.tell_told (s : State) (ts : List Telegram) : Told none s (s.tell ts) ts :=
  ⟨⟨rfl, s.lli.offers_queueOnly ts, rfl⟩, s.tells_tell ts, fun _ h => h, fun b h => by cases b <;> exact h, fun _ => .inl rfl,
    fun b _ => .inl (s.tell_berth ts b)⟩

theorem State.flagBerth_told (s : State) (b : BerthId) : Told none s (s.flagBerth b) [] := by
  refine ⟨?_, ?_, fun d h => ?_, fun c h => EventReporter.setBerthFlag_keeps h b, fun d => .inl (by cases b <;> rfl),
    fun c _ => .inl (s.flagBerth_berth b c)⟩
  · cases b <;> exact ⟨rfl, rfl, rfl⟩
  · cases b <;> exact ⟨rfl, by simp [LineLink.losesEvent, State.flagBerth, EventReporter.setBerthFlag]⟩
  · simpa [State.flagBerth] using h

/-- A berth whose record is written, its flag set and its change offered with its status, is told. -/
theorem State.moved_told (s : State) {b : BerthId} {r : Berth} {ts : List Telegram}
    (change : s.berthChangeTo b r.state r.closeCause (r.trainNumber.getD 0) ⊆ ts) (status : berthStatusReport b r ∈ ts) :
    Told none s (s.moved b r ts) ts := by
  have steps := ((s.setBerth_told b r).trans ((State.flagBerth_told _ b).leaveOpen _)).trans ((State.tell_told _ ts).leaveOpen _)
  refine ⟨steps.only, steps.tells, steps.doorFlags, steps.berthFlags, steps.doors, fun c _ => ?_⟩
  by_cases same : c = b
  · subst same
    refine .inr ⟨?_, ?_, ?_⟩
    · cases c <;> rfl
    · rw [State.moved_berthChange]; exact change
    · rw [State.moved_berth]; exact status
  · refine .inl ?_
    rw [eq_otherBerth same]
    exact s.moved_other b r ts

/-- The reports that end an event at berth `b`: its BERTH_CHANGE, and its BERTH_STATUS last. -/
theorem Told.reported {b : BerthId} {s t : State} {ts : List Telegram} (h : Told (some b) s t ts) :
    Told none s ((t.reportBerthNow b).offerBerthStatus b) (ts ++ (t.berthChange b ++ [berthStatusReport b (t.berth b)])) := by
  have e : (t.reportBerthNow b).offerBerthStatus b = t.moved b (t.berth b) (t.berthChange b ++ [berthStatusReport b (t.berth b)]) := by
    have same : t.setBerth b (t.berth b) = t := by cases b <;> rfl
    have reported := t.setBerth_reported b (t.berth b)
    rw [same] at reported
    exact reported
  rw [e]
  have last : Told none t _ _ := t.moved_told (b := b) (r := t.berth b)
    (ts := t.berthChange b ++ [berthStatusReport b (t.berth b)]) (List.subset_append_left _ _) (by simp)
  have whole := h.trans (last.leaveOpen _)
  refine ⟨whole.only, whole.tells, whole.doorFlags, whole.berthFlags, whole.doors, fun c _ => ?_⟩
  by_cases same : c = b
  · subst same
    refine .inr ⟨(t.moved_flags c _ _).1, ?_, ?_⟩
    · rw [State.moved_berthChange]
      exact List.subset_append_of_subset_right ts (List.subset_append_left _ _)
    · simp
  · exact whole.berths c fun e => same (Option.some.inj e).symm

/-! ## Hand-overs -/

/-- From `s` to `t` hand-overs and door events have worked: all is told, and berths have moved by evaluations alone. -/
structure Worked (s t : State) : Prop where
  told : ∃ ts : List Telegram, Told none s t ts
  moved : ∀ b : BerthId, ProofMoved s.proofMs (s.berth b) (t.berth b)

theorem State.proofMs_congr {s t : State} (h : t.ts = s.ts) : t.proofMs = s.proofMs := by
  unfold State.proofMs; rw [State.settings_congr h]

namespace Worked
variable {s t u : State}

theorem refl (s : State) : Worked s s := ⟨⟨[], .refl _ s⟩, fun _ => .refl _⟩

theorem ts (h : Worked s t) : t.ts = s.ts := by
  obtain ⟨_, told⟩ := h.told
  exact told.ts_eq
theorem ou (h : Worked s t) : t.ou = s.ou := by
  obtain ⟨_, told⟩ := h.told
  exact told.ou_eq
theorem proofMs (h : Worked s t) : t.proofMs = s.proofMs := State.proofMs_congr h.ts

theorem trans (h : Worked s t) (k : Worked t u) : Worked s u := by
  obtain ⟨ts, told⟩ := h.told
  obtain ⟨us, told'⟩ := k.told
  exact ⟨⟨ts ++ us, told.trans told'⟩, fun b => (h.moved b).trans (h.proofMs ▸ k.moved b)⟩

/-- A berth that is not PROVING or PROVEN is not touched. -/
theorem berth (h : Worked s t) {b : BerthId} (idle : ¬ (s.berth b).Active) : t.berth b = s.berth b := (h.moved b).of_not_active idle

theorem foldl {α : Type} {act : State → α → State} (each : ∀ s x, Worked s (act s x)) (l : List α) (s : State) :
    Worked s (l.foldl act s) := by
  induction l generalizing s with
  | nil => exact .refl s
  | cons x l ih => exact (each s x).trans (ih _)

theorem forDoors {act : DoorNo → State → State} (each : ∀ d s, Worked s (act d s)) (ds : List DoorNo) (s : State) :
    Worked s (forDoors ds act s) := .foldl (fun s d => each d s) ds s

end Worked

theorem State.handProof_worked (s : State) (b : BerthId) : Worked s (s.handProof b) := by
  refine ⟨?_, s.handProof_moved b⟩
  rcases s.handProof_cases b with ⟨proving, holds⟩ | ⟨proven, fails⟩ | same
  · rw [State.handProof_gains proving holds]
    refine ⟨_, s.moved_told ?_ (by simp)⟩
    exact List.subset_append_of_subset_left _ (List.subset_append_right _ _)
  · rw [State.handProof_loses proven fails]
    refine ⟨_, s.moved_told ?_ (by simp)⟩
    exact List.subset_append_of_subset_left _ (List.subset_append_right _ _)
  · rw [same]; exact ⟨[], .refl _ s⟩

theorem State.handProofOfZone_worked (s : State) (z : Zone) : Worked s (s.handProofOfZone z) := by
  refine .foldl (fun s b => ?_) _ s
  split
  · exact s.handProof_worked b
  · exact .refl s

theorem State.judgeLoop_worked (s : State) (z : Zone) : Worked s (s.judgeLoop z) := by
  refine ⟨?_, s.judgeLoop_moved z⟩
  unfold State.judgeLoop
  split
  · exact ⟨[], .refl _ s⟩
  · obtain ⟨ts, told⟩ := ((s.setLoop z (s.loopCondition z)).handProofOfZone_worked z).told
    exact ⟨_, (s.setLoop_told z _).trans told⟩

theorem State.handDoor_before_report (s : State) (d : DoorNo) :
    ∃ u : State, Worked s u ∧ Handed s u ∧ s.handDoor d = u.reportDoor d :=
  ⟨_, (s.judgeLoop_worked _).trans (State.handProofOfZone_worked _ _),
    (s.judgeLoop_handed _).trans (State.handProofOfZone_handed _ _), rfl⟩

/-- One event on a door record that writes the record alone: where its standing changes, the change is told (R116). -/
theorem State.setDoor_doorEvent_worked {s : State} {d : DoorNo} {f : State → State} {r : Door} (act : f s = s.setDoor d r) :
    Worked s (s.doorEvent d f) := by
  have only : DoorsAndBerthsOnly s (s.setDoor d r) := ⟨rfl, rfl, rfl⟩
  have others : ∀ c, c ≠ d → ((s.setDoor d r).door c).standing = (s.door c).standing := fun c ne => by
    rw [State.door_setDoor_ne s r ne]
  unfold State.doorEvent
  rw [act]
  split
  next same =>
    refine ⟨⟨[], only, ⟨rfl, by simp [LineLink.losesEvent]⟩, fun _ h => h, fun _ h => h, fun c => .inl ?_, fun b _ => .inl ?_⟩,
      fun b => .inl ?_⟩
    · by_cases e : c = d
      · rw [e]; exact same
      · exact others c e
    · cases b <;> rfl
    · cases b <;> rfl
  next changed =>
    refine ⟨?_, fun b => ?_⟩
    · obtain ⟨u, worked, handed, e⟩ := (s.setDoor d r).handDoor_before_report d
      obtain ⟨ts, told⟩ := worked.told
      have berth : ∀ b, (s.setDoor d r).berth b = s.berth b := fun b => by cases b <;> rfl
      have door : ∀ c, (u.reportDoor d).door c = u.door c := fun c => by rw [State.reportDoor_eq]; rfl
      have flag : ∀ c : DoorNo, u.er.doorFlags[c] = true ∨ c = d → (u.reportDoor d).er.doorFlags[c] = true := fun c h => by
        rw [State.reportDoor_eq]
        by_cases same : c = d
        · subst same; simp
        · have ne : (d : Nat) ≠ c := fun e => same (Fin.ext e.symm)
          simpa [ne] using h.resolve_right same
      have mask : (u.reportDoor d).er.mask = u.er.mask := by rw [State.reportDoor_eq]
      have berthFlag : ∀ b, (u.reportDoor d).er.berthFlag b = u.er.berthFlag b := fun b => by
        rw [State.reportDoor_eq]; cases b <;> rfl
      rw [e]
      refine ⟨ts ++ u.doorChange d, doorsAndBerthsOnly_trans only (doorsAndBerthsOnly_trans told.only
          (berthsOnly_doorsAndBerthsOnly (u.reportDoor_berthsOnly d))), ?_, fun c h => flag c (.inl (told.doorFlags c h)),
        fun b h => by rw [berthFlag]; exact told.berthFlags b h, fun c => ?_, fun b open_ => ?_⟩
      · refine tells_append (s := s.setDoor d r) told.tells ?_
        rw [State.reportDoor_eq]
        exact ⟨rfl, rfl⟩
      · by_cases same : c = d
        · subst same
          refine .inr ⟨flag c (.inr rfl), ?_⟩
          rw [State.doorChange_congr mask (by rw [door])]
          exact List.subset_append_right _ _
        · rw [door]
          exact .inl ((congrArg Door.standing (handed.door c)).trans (others c same))
      · rw [State.reportDoor_berth, State.berthChange_congr mask (State.reportDoor_berth u d b), berthFlag, ← berth b]
        exact (told.berths b open_).imp_right fun ⟨f, change, status⟩ =>
          ⟨f, List.subset_append_of_subset_left _ change, List.mem_append_left _ status⟩
    · have moved := (s.setDoor d r).handDoor_moved d b
      have berth : (s.setDoor d r).berth b = s.berth b := by cases b <;> rfl
      rw [berth] at moved
      exact moved

theorem State.putReason_worked (s : State) (d : DoorNo) (v : Bool) (k : Reason) : Worked s (s.putReason d v k) :=
  State.setDoor_doorEvent_worked (f := fun s => s.setDoor d ((s.door d).withReasons (s.limits d) ((s.door d).reasons.put v k))) rfl

theorem State.addReason_worked (s : State) (d : DoorNo) (k : Reason) : Worked s (s.addReason d k) := s.putReason_worked d true k

theorem State.removeReasons_worked (s : State) (d : DoorNo) (ks : List Reason) : Worked s (s.removeReasons d ks) :=
  .foldl (fun s k => s.putReason_worked d false k) ks s

/-- What a latch reset makes of a door's record (R129). -/
def Door.latchReset (r : Door) (m : MotionLimits) : Door :=
  if r.state ≠ .held then r
  else if r.reasons = .empty then ({ r with reopenCount := 0 }).enterClosing m
  else r.enterOpening m

theorem State.latchReset_eq (s : State) (d : DoorNo) :
    s.latchReset d = s.doorEvent d fun s => s.setDoor d ((s.door d).latchReset (s.limits d)) := by
  unfold State.latchReset
  congr 1
  funext s
  unfold Door.latchReset
  dsimp only
  split
  · rw [State.setDoor_self]
  · split <;> rfl

theorem State.latchReset_worked (s : State) (d : DoorNo) : Worked s (s.latchReset d) := by
  rw [State.latchReset_eq]
  exact State.setDoor_doorEvent_worked rfl

theorem State.shutDoors_worked (s : State) (ds : List DoorNo) (ks : List Reason) : Worked s (s.shutDoors ds ks) :=
  (Worked.forDoors (fun d s => s.removeReasons_worked d ks) ds s).trans (.forDoors (fun d s => s.latchReset_worked d) ds _)

end Sys2Proof.Machine

namespace Sys2Proof.Machine

/-! # A change of a reason set, at the record (R119, R120) -/

section
variable (r : Door) (m : MotionLimits) (n : Reasons)

theorem Door.withReasons_reasons : (r.withReasons m n).reasons = if r.state = .outOfService then r.reasons else n := by
  unfold Door.withReasons Door.reasonsArise Door.reasonsCease
  split
  · rfl
  · split
    · dsimp only; split <;> rfl
    · split
      · dsimp only; split <;> rfl
      · rfl

theorem Door.withReasons_out : (r.withReasons m n).state = .outOfService ↔ r.state = .outOfService := by
  unfold Door.withReasons Door.reasonsArise Door.reasonsCease
  split
  · rfl
  · split
    · dsimp only
      split
      all_goals simp_all [Door.enterOpening]
    · split
      · dsimp only
        split
        all_goals simp_all [Door.enterClosing]
      · rfl

/-- A reason given to a CLOSED door that holds none opens it, and counts (R120, R136). -/
theorem Door.withReasons_opens {r : Door} {n : Reasons} (closed : r.state = .closed) (none : r.reasons = .empty) (some : n ≠ .empty) :
    (r.withReasons m n).state = .opening ∧ (r.withReasons m n).order = .opn
      ∧ (r.withReasons m n).counters.openCycles = min 65535 (r.counters.openCycles + 1) := by
  have notOut : ¬ r.state = .outOfService := by rw [closed]; decide
  unfold Door.withReasons
  rw [if_neg notOut, if_pos ⟨none, some⟩]
  unfold Door.reasonsArise
  simp only [closed]
  exact ⟨rfl, rfl, rfl⟩

/-- The last reason taken from an OPENING or OPEN door closes it (R120). -/
theorem Door.withReasons_ceases {r : Door} (held : r.reasons ≠ .empty) (motion : r.state = .opening ∨ r.state = .opened) :
    r.withReasons m .empty = ({ r with reasons := .empty }).enterClosing m := by
  have notOut : ¬ r.state = .outOfService := by rcases motion with e | e <;> rw [e] <;> decide
  unfold Door.withReasons
  rw [if_neg notOut, if_neg fun h => held h.1, if_pos ⟨held, rfl⟩]
  unfold Door.reasonsCease
  rcases motion with e | e <;> simp only [e]

/-- A reason set that stays non-empty, or stays empty, changes nothing else. -/
theorem Door.withReasons_stays {r : Door} {n : Reasons} (stays : r.reasons = .empty ↔ n = .empty)
    (serves : r.state ≠ .outOfService) : r.withReasons m n = { r with reasons := n } := by
  unfold Door.withReasons
  rw [if_neg serves, if_neg fun h => h.2 (stays.mp h.1), if_neg fun h => h.1 (stays.mpr h.2)]

/-- A reason set replaced by itself changes nothing. -/
theorem Door.withReasons_self : r.withReasons m r.reasons = r := by
  unfold Door.withReasons
  split
  · rfl
  · rw [if_neg fun h => h.2 h.1, if_neg fun h => h.1 h.2]

end

@[simp] theorem Reasons.put_release (r : Reasons) (v : Bool) : r.put v .release = { r with release := v } := rfl
@[simp] theorem Reasons.put_fire (r : Reasons) (v : Bool) : r.put v .fire = { r with fire := v } := rfl
@[simp] theorem Reasons.put_evac (r : Reasons) (v : Bool) : r.put v .evac = { r with evac := v } := rfl

theorem State.limits_congr {s t : State} (h : t.ts = s.ts) : t.limits = s.limits := by
  funext d; unfold State.limits; rw [State.settings_congr h, State.driveClass_congr h]

/-! # One act at each door of a list (notes/assumptions/32.md) -/

/-- Acts that work each its own door's record, as `g` says from the limits and the overrides that stand, have worked each door of a list
once. -/
theorem State.forDoors_door {act : DoorNo → State → State} {g : DoorNo → (DoorNo → MotionLimits) → OverrideUnit → Door → Door}
    (worked : ∀ d s, Worked s (act d s)) (own : ∀ d s, (act d s).door d = g d s.limits s.ou (s.door d))
    (other : ∀ d c s, c ≠ d → (act d s).door c = s.door c) {ds : List DoorNo} (distinct : ds.Nodup) (s : State) (d : DoorNo) :
    (forDoors ds act s).door d = if d ∈ ds then g d s.limits s.ou (s.door d) else s.door d := by
  refine foldl_each (read := State.door) (base := fun s => (s.limits, s.ou)) (g := fun d => g d s.limits s.ou)
    (act := fun s d => act d s) distinct (fun t d => ?_) (fun t e d _ => ?_) (fun t d c ne => other d c t ne) d
  · rw [State.limits_congr (worked d t).ts, (worked d t).ou]
  · obtain ⟨limits, ou⟩ := Prod.mk.inj e
    rw [own, limits, ou]

/-! # RELEASE (R56, R57) -/

/-- The record a RELEASE leaves (R57). -/
def Berth.releasedRec (r : Berth) : Berth :=
  if r.state = .proven then { r with state := .released, permit := .withdrawn, closeCause := none }
  else { r with state := .released }

theorem Berth.releasedRec_state (r : Berth) : r.releasedRec.state = .released := by unfold Berth.releasedRec; split <;> rfl
theorem Berth.releasedRec_enable (r : Berth) : r.releasedRec.platformEnable = r.platformEnable := by
  unfold Berth.releasedRec; split <;> rfl
theorem Berth.not_active {r : Berth} (h : r.state ≠ .proving) (h' : r.state ≠ .proven) : ¬ r.Active := fun a => a.elim h h'
theorem Berth.releasedRec_idle (r : Berth) : ¬ r.releasedRec.Active :=
  Berth.not_active (by rw [r.releasedRec_state]; decide) (by rw [r.releasedRec_state]; decide)

/-- What a withdrawal for a RELEASE reports (R57, R202). -/
def Berth.withdrawal (b : BerthId) (r : Berth) : List Telegram :=
  if r.state = .proven then [permitWithdrawn b r .released] else []

/-- The permit withdrawn and the berth RELEASED, before any door is worked (R57, steps 1 and 2). -/
theorem State.withdrawForRelease_released (s : State) (b : BerthId) :
    (s.withdrawForRelease b).setBerth b { (s.withdrawForRelease b).berth b with state := .released }
      = (s.setBerth b (s.berth b).releasedRec).tell ((s.berth b).withdrawal b) := by
  unfold State.withdrawForRelease Berth.releasedRec Berth.withdrawal
  split
  · rw [State.offer_eq_tell _ (by simp [permitWithdrawn]), State.setBerth_tell, State.setBerth_setBerth, State.tell_berth,
      State.berth_setBerth_same]
  · rw [State.tell_nil]

/-- A berth RELEASED, its permit withdrawn, its doors not yet worked. -/
def State.toRelease (s : State) (b : BerthId) : State :=
  (s.setBerth b (s.berth b).releasedRec).tell ((s.berth b).withdrawal b)

theorem State.toRelease_told (s : State) (b : BerthId) : Told (some b) s (s.toRelease b) ((s.berth b).withdrawal b) :=
  (s.setBerth_told b _).trans ((State.tell_told _ _).leaveOpen _)

@[simp] theorem State.toRelease_berth (s : State) (b : BerthId) : (s.toRelease b).berth b = (s.berth b).releasedRec := by
  rw [State.toRelease, State.tell_berth, State.berth_setBerth_same]

@[simp] theorem State.tell_door (s : State) (ts : List Telegram) (d : DoorNo) : (s.tell ts).door d = s.door d := rfl
@[simp] theorem State.setBerth_door (s : State) (b : BerthId) (r : Berth) (d : DoorNo) : (s.setBerth b r).door d = s.door d :=
  State.door_congr (State.setBerth_doors s b r) d
@[simp] theorem State.toRelease_door (s : State) (b : BerthId) (d : DoorNo) : (s.toRelease b).door d = s.door d := by
  rw [State.toRelease, State.tell_door, State.setBerth_door]

/-- The doors a RELEASE works, given RELEASE. -/
def State.releaseDoors (s : State) (b : BerthId) : State :=
  forDoors (s.berth b).enableDoors (fun d s => s.addReason d .release) (s.toRelease b)

theorem State.releaseBerth_eq (s : State) (b : BerthId) :
    s.releaseBerth b = ((s.releaseDoors b).reportBerthNow b).offerBerthStatus b := by
  unfold State.releaseBerth State.releaseDoors
  dsimp only
  rw [State.withdrawForRelease_released, ← State.toRelease, State.toRelease_berth, Berth.enableDoors, Berth.releasedRec_enable]
  rfl

theorem Berth.mem_enableDoors {r : Berth} {d : DoorNo} : d ∈ r.enableDoors ↔ r.platformEnable[d] = true := mem_allDoors_filter

theorem State.releaseDoors_worked (s : State) (b : BerthId) : Worked (s.toRelease b) (s.releaseDoors b) :=
  .forDoors (fun d s => s.addReason_worked d .release) _ _

theorem State.releaseDoors_berth (s : State) (b : BerthId) : (s.releaseDoors b).berth b = (s.berth b).releasedRec := by
  rw [(s.releaseDoors_worked b).berth (by rw [State.toRelease_berth]; exact Berth.releasedRec_idle _), State.toRelease_berth]

/-- Each door of the platform enable set is given RELEASE, and no other door is worked. -/
theorem State.releaseDoors_door (s : State) (b : BerthId) (d : DoorNo) :
    (s.releaseDoors b).door d = if (s.berth b).platformEnable[d] = true
      then (s.door d).withReasons (s.limits d) ((s.door d).reasons.put true .release) else s.door d := by
  have folded := State.forDoors_door (act := fun d s => s.addReason d .release)
    (g := fun d m _ r => r.withReasons (m d) (r.reasons.put true .release)) (fun d s => s.addReason_worked d .release)
    (fun d s => s.putReason_door d true .release) (fun d c s ne => s.putReason_other d c true .release ne)
    (ds := (s.berth b).enableDoors) (allDoors_filter_nodup _) (s.toRelease b) d
  simp only [Berth.mem_enableDoors, State.toRelease_door, State.limits_congr (s.toRelease_told b).ts_eq] at folded
  exact folded

@[simp] theorem State.setBerth_self (s : State) (b : BerthId) : s.setBerth b (s.berth b) = s := by cases b <;> rfl

/-- What the reports that end an event leave of the records. -/
theorem State.reported_eq (s : State) (b : BerthId) :
    (s.reportBerthNow b).offerBerthStatus b = s.moved b (s.berth b) (s.berthChange b ++ [berthStatusReport b (s.berth b)]) := by
  have reported := s.setBerth_reported b (s.berth b)
  rw [State.setBerth_self] at reported
  exact reported
@[simp] theorem State.moved_door (s : State) (b : BerthId) (r : Berth) (ts : List Telegram) (d : DoorNo) :
    (s.moved b r ts).door d = s.door d := by
  cases b <;> rfl

/-- Settles O16: the doors of the platform enable set are given RELEASE by a berth that is RELEASED, between the withdrawal and the
reports. -/
theorem releaseOpens : Obligations.ReleaseOpens := by
  intro s src p taken passes b r allowed
  have owner := (State.release_eq s.popRequest p).trans (congrArg (State.unlessRefused _ · _) passes)
  have stands : ¬ (r.state = .proven ∧ r.standsAsUsed s.settings.creepTol = false) := fun ⟨proven, moved⟩ =>
    allowed proven ((Berth.standsAsUsed_eq_false _ _).mp moved)
  rw [State.unlessRefused_none, State.popRequest_berth] at owner
  have accepted := State.takeRequest_accepted taken (owner := fun s => s.release p) (owner.trans (if_neg stands))
  rw [State.releaseBerth_eq] at accepted
  refine ⟨_, congrArg Host.Outcome.next accepted, ?_⟩
  obtain ⟨ts, worked⟩ := (s.popRequest.releaseDoors_worked b).told
  have before := (s.popRequest.toRelease_told b).trans (worked.leaveOpen _)
  have record := s.popRequest.releaseDoors_berth b
  have doors := s.popRequest.releaseDoors_door b
  rw [State.popRequest_berth] at before record
  simp only [State.popRequest_berth, State.popRequest_door, State.popRequest_limits] at doors
  have told := before.reported
  rw [record, State.reported_eq, record] at told
  rw [State.reported_eq, record]
  refine ⟨State.moved_berth .., fun d off => ?_, fun d on serves => ?_, fun d on closed none => ?_,
    ⟨_, told.tells, told.changesTold_all, fun proven => ?_, ?_⟩, (State.moved_flags ..).1,
    doorsAndBerthsOnly_of_popRequest told.only⟩
  · rw [State.moved_door, doors d, if_neg (by rw [off]; decide)]
  · rw [State.moved_door, doors d, if_pos on, Door.withReasons_reasons, if_neg serves]
    rfl
  · rw [State.moved_door, doors d, if_pos on]
    refine Door.withReasons_opens _ closed none fun empty => ?_
    exact absurd (congrArg Reasons.release empty) (by simp [Reasons.empty])
  · have report : Berth.withdrawal b (s.berth b) = [permitWithdrawn b r .released] := if_pos proven
    rw [report]
    rfl
  · rw [State.moved_berth, ← List.append_assoc]
    exact List.getLast?_concat

end Sys2Proof.Machine

namespace Sys2Proof.Machine

/-! # FIRE and EVAC given to the doors of a computation (R83) -/

/-- A door's record once it has been given FIRE and EVAC, each where that override is present. -/
def Door.given (m : MotionLimits) (o : OverrideUnit) (r : Door) : Door :=
  let r1 := if .fire ∈ o.list then r.withReasons m (r.reasons.put true .fire) else r
  if .evac ∈ o.list then r1.withReasons m (r1.reasons.put true .evac) else r1

section
variable (m : MotionLimits) (o : OverrideUnit) (r : Door)

theorem Door.given_none {o : OverrideUnit} (fire : .fire ∉ o.list) (evac : .evac ∉ o.list) : r.given m o = r := by
  simp only [Door.given, fire, evac, if_false]

/-- A door that serves holds the reasons it was given. -/
theorem Door.given_reasons {r : Door} (serves : r.state ≠ .outOfService) : (r.given m o).reasons
    = { r.reasons with fire := r.reasons.fire || decide (.fire ∈ o.list), evac := r.reasons.evac || decide (.evac ∈ o.list) } := by
  unfold Door.given
  dsimp only
  by_cases fire : OverrideKind.fire ∈ o.list <;> by_cases evac : OverrideKind.evac ∈ o.list <;>
    simp [fire, evac, Door.withReasons_reasons, Door.withReasons_out, serves]

end

/-- The doors of the new platform enable set are given FIRE and EVAC while those overrides are present. -/
def State.giveOverrides (d : DoorNo) (s : State) : State :=
  let s := if s.present .fire then s.addReason d .fire else s
  if s.present .evac then s.addReason d .evac else s

theorem State.computeAlignment_eq (s : State) (b : BerthId) :
    s.computeAlignment b = forDoors (s.computed b).enableDoors State.giveOverrides (s.setBerth b (s.computed b)) := by
  show forDoors ((s.setBerth b (s.computed b)).berth b).enableDoors State.giveOverrides _ = _
  rw [State.berth_setBerth_same]

/-- A reason given where an override is present. -/
theorem State.addReason_if_worked (s : State) (d : DoorNo) (k : OverrideKind) (reason : Reason) :
    Worked s (if s.present k then s.addReason d reason else s) := by
  split
  · exact s.addReason_worked d reason
  · exact .refl s

theorem State.giveOverrides_worked (d : DoorNo) (s : State) : Worked s (s.giveOverrides d) :=
  (s.addReason_if_worked d .fire .fire).trans (State.addReason_if_worked _ d .evac .evac)

theorem State.addReason_if_door (s : State) (d : DoorNo) (k : OverrideKind) (reason : Reason) :
    (if s.present k then s.addReason d reason else s).door d
      = if k ∈ s.ou.list then (s.door d).withReasons (s.limits d) ((s.door d).reasons.put true reason) else s.door d := by
  unfold State.present
  by_cases h : k ∈ s.ou.list
  · simp only [h, decide_true, if_true]; exact s.putReason_door d true reason
  · simp only [h, decide_false, Bool.false_eq_true, if_false]

theorem State.giveOverrides_door (d : DoorNo) (s : State) : (s.giveOverrides d).door d = (s.door d).given (s.limits d) s.ou := by
  have fire := s.addReason_if_worked d .fire .fire
  rw [State.giveOverrides, State.addReason_if_door, State.addReason_if_door, fire.ou, State.limits_congr fire.ts]
  rfl

theorem State.giveOverrides_other (d c : DoorNo) (s : State) (ne : c ≠ d) : (s.giveOverrides d).door c = s.door c := by
  have one : ∀ (s : State) (k : OverrideKind) (reason : Reason),
      (if s.present k then s.addReason d reason else s).door c = s.door c := by
    intro s k reason
    split
    · exact s.putReason_other d c true reason ne
    · rfl
  exact (one _ .evac .evac).trans (one s .fire .fire)

/-! # A computation (R69, R83) -/

theorem State.computeAlignment_worked (s : State) (b : BerthId) :
    Worked (s.setBerth b (s.computed b)) (s.computeAlignment b) := by
  rw [State.computeAlignment_eq]
  exact .forDoors State.giveOverrides_worked _ _

theorem State.computeAlignment_told (s : State) (b : BerthId) : ∃ ts : List Telegram, Told (some b) s (s.computeAlignment b) ts := by
  obtain ⟨ts, told⟩ := (s.computeAlignment_worked b).told
  exact ⟨_, (s.setBerth_told b _).trans (told.leaveOpen _)⟩

/-- A computation leaves its record in a berth that no evaluation concerns. -/
theorem State.computeAlignment_berth {s : State} {b : BerthId} (idle : ¬ (s.berth b).Active) :
    (s.computeAlignment b).berth b = s.computed b := by
  rw [(s.computeAlignment_worked b).berth (by rw [State.berth_setBerth_same]; exact idle), State.berth_setBerth_same]

theorem State.setBerth_limits (s : State) (b : BerthId) (r : Berth) : (s.setBerth b r).limits = s.limits :=
  State.limits_congr (s.setBerth_ts b r)

/-- Each door of the new platform enable set is given FIRE and EVAC, and no other door is worked. -/
theorem State.computeAlignment_door (s : State) (b : BerthId) (d : DoorNo) : (s.computeAlignment b).door d
    = if (s.computed b).platformEnable[d] = true then (s.door d).given (s.limits d) s.ou else s.door d := by
  have folded := State.forDoors_door (act := State.giveOverrides) (g := fun d m o r => r.given (m d) o)
    State.giveOverrides_worked State.giveOverrides_door State.giveOverrides_other
    (ds := (s.computed b).enableDoors) (allDoors_filter_nodup _) (s.setBerth b (s.computed b)) d
  rw [State.computeAlignment_eq]
  simp only [Berth.mem_enableDoors, State.setBerth_door, State.setBerth_limits, State.setBerth_ou] at folded
  exact folded

/-! # Standstill in ANNOUNCED or BERTHED (R50, R51) -/

/-- A berth's e_used set, before its computation. -/
def State.withUsed (s : State) (b : BerthId) (e : Int) : State := s.setBerth b { s.berth b with eUsed := some e }

theorem State.computeAt_eq (s : State) (b : BerthId) (e : Int) : s.computeAt b e = (s.withUsed b e).computeAlignment b := rfl

/-- A computation at standstill: the berth is BERTHED, and its BERTH_STATUS is told last. -/
theorem State.actOnReport_computes {s : State} {b : BerthId} (e : Int)
    (state : (s.berth b).state = .announced ∨ (s.berth b).state = .berthed) :
    ∃ ts : List Telegram, Told (some b) s (s.actOnReport b e true) ts
      ∧ (s.actOnReport b e true).berth b = { (s.withUsed b e).computed b with state := .berthed }
      ∧ (∀ d, (s.actOnReport b e true).door d = ((s.withUsed b e).computeAlignment b).door d)
      ∧ (((s.actOnReport b e true).berth b).state = (s.berth b).state
          ∨ ((s.actOnReport b e true).er.berthFlag b = true ∧ (s.actOnReport b e true).berthChange b ⊆ ts
            ∧ berthStatusReport b ((s.actOnReport b e true).berth b) ∈ ts))
      ∧ ts.getLast? = some (berthStatusReport b ((s.actOnReport b e true).berth b)) := by
  obtain ⟨us, computed⟩ := (s.withUsed b e).computeAlignment_told b
  have before : Told (some b) s (s.computeAt b e) ([] ++ us) := (s.setBerth_told b _).trans computed
  have idle : ¬ ((s.withUsed b e).berth b).Active := by
    have same : ((s.withUsed b e).berth b).state = (s.berth b).state := by rw [State.withUsed, State.berth_setBerth_same]
    refine Berth.not_active ?_ ?_ <;> rw [same] <;> rcases state with h | h <;> rw [h] <;> decide
  have record : (s.computeAt b e).berth b = (s.withUsed b e).computed b := State.computeAlignment_berth idle
  rcases state with announced | berthed
  · have act : s.actOnReport b e true = (((s.computeAt b e).setBerth b
        { (s.withUsed b e).computed b with state := .berthed }).reportBerthNow b).offerBerthStatus b := by
      unfold State.actOnReport
      simp only [announced, if_true, record]
    have told := (before.trans (State.setBerth_told _ b { (s.withUsed b e).computed b with state := .berthed })).reported
    rw [act]
    rw [State.reported_eq] at told ⊢
    rw [State.berth_setBerth_same] at told ⊢
    refine ⟨_, told.leaveOpen _, State.moved_berth .., fun d => ?_, .inr ⟨(State.moved_flags ..).1, ?_, ?_⟩, ?_⟩
    · rw [State.moved_door, State.setBerth_door]; rfl
    · rw [State.moved_berthChange, State.berthChange, State.berth_setBerth_same]
      exact List.subset_append_of_subset_right _ (List.subset_append_left _ _)
    · simp
    · rw [State.moved_berth, ← List.append_assoc]
      exact List.getLast?_concat
  · have act : s.actOnReport b e true = (s.computeAt b e).tell [berthStatusReport b ((s.withUsed b e).computed b)] := by
      unfold State.actOnReport
      simp only [berthed, if_true, State.offerBerthStatus_eq, record]
    have state : ((s.withUsed b e).computed b).state = .berthed := by
      show ((s.withUsed b e).berth b).state = .berthed
      rw [State.withUsed, State.berth_setBerth_same]
      exact berthed
    have same : (s.withUsed b e).computed b = { (s.withUsed b e).computed b with state := .berthed } := by rw [← state]
    have told := before.trans ((State.tell_told _ [berthStatusReport b ((s.withUsed b e).computed b)]).leaveOpen _)
    rw [act]
    refine ⟨_, told, ?_, fun d => rfl, .inl ?_, ?_⟩ <;> rw [State.tell_berth, record]
    · exact same
    · rw [state, berthed]
    · exact List.getLast?_concat

/-- A computation reads the part without the order of its requests. -/
theorem State.popRequest_computed (s : State) (b : BerthId) (r : Berth) :
    (s.popRequest.setBerth b r).computed b = (s.setBerth b r).computed b := by cases b <;> rfl

/-- Settles O14: a standstill is stored and its alignment computed, the doors of the new enable set given FIRE and EVAC. -/
theorem standstillComputes : Obligations.StandstillComputes := by
  intro s src p taken passes b r s1 state stands
  have owner := (State.stopReport_eq s.popRequest p).trans (congrArg (State.unlessRefused _ · _) passes)
  rw [State.unlessRefused_none, State.popRequest_berth, decide_eq_true stands] at owner
  have accepted := State.takeRequest_accepted taken (owner := fun s => s.stopReport p) owner
  have stored : (s.popRequest.setBerth b (r.stored p)).berth b = r.stored p := State.berth_setBerth_same ..
  have used : (s.popRequest.setBerth b (r.stored p)).withUsed b (reportedOffset p)
      = s.popRequest.setBerth b { r.stored p with eUsed := some (reportedOffset p) } := by
    rw [State.withUsed, stored, State.setBerth_setBerth]
  have computed : ((s.popRequest.setBerth b (r.stored p)).withUsed b (reportedOffset p)).computed b = s1.computed b := by
    rw [used]; exact State.popRequest_computed ..
  obtain ⟨ts, told, record, doors, own, last⟩ := State.actOnReport_computes
    (s := s.popRequest.setBerth b (r.stored p)) (reportedOffset p) (by rw [stored]; exact state)
  have door : ∀ d, ((s.popRequest.setBerth b (r.stored p)).actOnReport b (reportedOffset p) true).door d
      = if (s1.computed b).platformEnable[d] = true then (s.door d).given (s.limits d) s.ou else s.door d := by
    intro d
    rw [doors, State.computeAlignment_door, computed, used, State.setBerth_door, State.setBerth_limits, State.setBerth_ou]
    rfl
  rw [computed] at record
  have whole : Told (some b) s.popRequest _ ([] ++ ts) := (s.popRequest.setBerth_told b (r.stored p)).trans told
  refine ⟨_, congrArg Host.Outcome.next accepted, record, fun d none => ?_, fun d on serves => ?_, ⟨ts, whole.tells, ?_, last⟩,
    doorsAndBerthsOnly_of_popRequest whole.only⟩
  · rw [record] at none
    rw [door d]
    rcases none with off | ⟨fire, evac⟩
    · exact if_neg (by rw [show (s1.computed b).platformEnable[d] = false from off]; decide)
    · rw [Door.given_none _ _ fire evac, ite_self]
  · rw [record] at on
    rw [door d, if_pos (show (s1.computed b).platformEnable[d] = true from on), Door.given_reasons _ _ serves]
    exact ⟨fun fire => by simp [fire], fun evac => by simp [evac]⟩
  · refine whole.changesTold (own.imp (fun same => ?_) id)
    rw [same, stored]; rfl

end Sys2Proof.Machine

namespace Sys2Proof.Machine

/-! # The end of an event that takes a berth to PROVING (R45, R63) -/

theorem ProofMoved.frame {ms : Nat} {r r' : Berth} (h : ProofMoved ms r r') :
    r' = { r with state := r'.state, permit := r'.permit, proofTimer := r'.proofTimer } := by
  rcases h with rfl | ⟨-, rfl | rfl⟩ <;> rfl

theorem ProofMoved.closeCause {ms : Nat} {r r' : Berth} (h : ProofMoved ms r r') : r'.closeCause = r.closeCause := by
  rw [h.frame]
theorem ProofMoved.trainNumber {ms : Nat} {r r' : Berth} (h : ProofMoved ms r r') : r'.trainNumber = r.trainNumber := by
  rw [h.frame]

/-- An evaluation leaves the record of an evaluation handed over, and offers the permit's report; a grant is reported where the proof
is gained. -/
theorem State.evaluateProof_eq (s : State) (b : BerthId) : ∃ ps : List Telegram,
    s.evaluateProof b = (s.setBerth b ((s.handProof b).berth b)).tell ps
      ∧ ((s.berth b).state = .proving → ((s.handProof b).berth b).state = .proven →
          permitGranted b ((s.handProof b).berth b) ∈ ps) := by
  by_cases gain : (s.berth b).state = .proving ∧ ProofHolds s b
  · rw [State.handProof_gains gain.1 gain.2, State.moved_berth, State.evaluateProof_gains gain.1 gain.2]
    exact ⟨_, State.offer_eq_tell _ (by simp [permitGranted]), fun _ _ => List.mem_singleton_self _⟩
  · by_cases loss : (s.berth b).state = .proven ∧ ¬ ProofHolds s b
    · rw [State.handProof_loses loss.1 loss.2, State.moved_berth, State.evaluateProof_loses loss.1 loss.2]
      exact ⟨_, State.offer_eq_tell _ (by simp [permitWithdrawn]), fun proving => absurd (loss.1.symm.trans proving) (by decide)⟩
    · rw [State.handProof_idle gain loss, State.evaluateProof_idle gain loss, State.setBerth_self]
      exact ⟨[], s.tell_nil.symm, fun proving proven => absurd (proving.symm.trans proven) (by decide)⟩

/-- What the end of such an event offers after the permit's report: the change to PROVING, that to PROVEN where it went on, and the
status. -/
def State.provingReports (s : State) (b : BerthId) (r : Berth) : List Telegram :=
  s.berthChangeTo b .proving (s.berth b).closeCause ((s.berth b).trainNumber.getD 0)
    ++ (if r.state = .proven then s.berthChangeTo b .proven r.closeCause (r.trainNumber.getD 0) else [])
    ++ [berthStatusReport b r]

theorem State.finishProving_eq (s : State) (b : BerthId) : ∃ ps : List Telegram,
    s.finishProving b = s.moved b ((s.handProof b).berth b) (ps ++ s.provingReports b ((s.handProof b).berth b))
      ∧ ((s.berth b).state = .proving → ((s.handProof b).berth b).state = .proven →
          permitGranted b ((s.handProof b).berth b) ∈ ps) := by
  obtain ⟨ps, evaluated, granted⟩ := s.evaluateProof_eq b
  refine ⟨ps, ?_, granted⟩
  generalize (s.handProof b).berth b = r at evaluated
  have flagged : ∀ (u : State) (ts : List Telegram), (u.tell ts).flagBerth b = (u.flagBerth b).tell ts := by
    intro u ts; cases b <;> rfl
  have twice : ∀ u : State, (u.flagBerth b).flagBerth b = u.flagBerth b := by intro u; cases b <;> rfl
  unfold State.finishProving State.provingReports
  dsimp only
  rw [evaluated]
  by_cases proven : r.state = .proven
  · simp only [State.reportBerthNow, State.reportBerth_eq, State.offerBerthStatus_eq, State.tell_berth, State.berth_setBerth_same,
      State.flagBerth_berth, proven, if_true, flagged, twice, State.tell_tell, State.moved, State.berthChangeTo, State.tell_eventOf,
      State.flagBerth_eventOf, State.setBerth_eventOf, List.append_assoc]
  · simp only [State.reportBerth_eq, State.offerBerthStatus_eq, State.tell_berth, State.berth_setBerth_same,
      State.flagBerth_berth, proven, if_false, flagged, State.tell_tell, State.moved, State.berthChangeTo, State.tell_eventOf,
      State.setBerth_eventOf, List.append_assoc, List.append_nil]

theorem State.finishProving_berth (s : State) (b : BerthId) : (s.finishProving b).berth b = (s.handProof b).berth b := by
  obtain ⟨ps, e, -⟩ := s.finishProving_eq b
  rw [e, State.moved_berth]

theorem State.finishProving_moved (s : State) (b : BerthId) :
    ProofMoved s.proofMs (s.berth b) ((s.finishProving b).berth b) := by
  rw [State.finishProving_berth]; exact s.handProof_moved b b

theorem State.finishProving_berthsOnly (s : State) (b : BerthId) : BerthsOnly s (s.finishProving b) := by
  obtain ⟨ps, e, -⟩ := s.finishProving_eq b
  rw [e]; exact s.moved_only ..

@[simp] theorem State.finishProving_door (s : State) (b : BerthId) (d : DoorNo) : (s.finishProving b).door d = s.door d := by
  obtain ⟨ps, e, -⟩ := s.finishProving_eq b
  rw [e, State.moved_door]

/-- Its proof is sound at the end: PROVEN exactly where the proof condition holds (R63). -/
theorem State.finishProving_sound (s : State) (b : BerthId) : ProofSound (s.finishProving b) b := by
  refine (s.handProof_sound b).congr (by rw [State.finishProving_berth]) ?_
  rw [s.handProof_proofHolds b b]
  exact proofHolds_of_berthsOnly (s.finishProving_berthsOnly b) (s.finishProving_moved b).span

theorem State.finishProving_other (s : State) (b : BerthId) : (s.finishProving b).berth (otherBerth b) = s.berth (otherBerth b) := by
  obtain ⟨ps, e, -⟩ := s.finishProving_eq b
  rw [e, State.moved_other]

theorem ProofSound.proven_iff {s : State} {b : BerthId} (h : ProofSound s b) (active : (s.berth b).Active) :
    (s.berth b).state = .proven ↔ ProofHolds s b :=
  ⟨h.1, fun holds => active.resolve_left fun proving => h.2 proving holds⟩

/-- The end of such an event, told: every change, the one to PROVING among them, the grant where the proof was gained, and the status
last. -/
theorem Told.finished {s u : State} {b : BerthId} {ts : List Telegram} (h : Told (some b) s u ts) (active : (u.berth b).Active) :
    ∃ us : List Telegram, Told (some b) s (u.finishProving b) us ∧ ChangesTold s (u.finishProving b) us ∧ ts ⊆ us
      ∧ s.berthChangeTo b .proving (u.berth b).closeCause ((u.berth b).trainNumber.getD 0) ⊆ us
      ∧ us.getLast? = some (berthStatusReport b ((u.finishProving b).berth b))
      ∧ ((u.berth b).state = .proving → ((u.finishProving b).berth b).state = .proven →
          permitGranted b ((u.finishProving b).berth b) ∈ us) := by
  obtain ⟨ps, e, granted⟩ := u.finishProving_eq b
  have moved := u.handProof_moved b b
  generalize (u.handProof b).berth b = r at e granted moved
  have proving : u.berthChangeTo b .proving (u.berth b).closeCause ((u.berth b).trainNumber.getD 0) ⊆ u.provingReports b r :=
    List.subset_append_of_subset_left _ (List.subset_append_left _ _)
  have own : u.berthChangeTo b r.state r.closeCause (r.trainNumber.getD 0) ⊆ u.provingReports b r := by
    rcases moved.active.mpr active with state | state
    · rw [state, moved.closeCause, moved.trainNumber]
      exact proving
    · refine List.subset_append_of_subset_left _ (List.subset_append_of_subset_right _ ?_)
      rw [if_pos state, state]
      exact List.Subset.refl _
  have status : berthStatusReport b r ∈ u.provingReports b r := List.mem_append_right _ (List.mem_singleton_self _)
  have last : Told none u (u.moved b r (ps ++ u.provingReports b r)) _ :=
    u.moved_told (List.subset_append_of_subset_right _ own) (List.mem_append_right _ status)
  have whole := h.trans (last.leaveOpen (some b))
  have inWhole : ∀ {l : List Telegram}, l ⊆ u.provingReports b r → l ⊆ ts ++ (ps ++ u.provingReports b r) := fun sub =>
    List.subset_append_of_subset_right _ (List.subset_append_of_subset_right _ sub)
  have mask : s.berthChangeTo = u.berthChangeTo := by
    funext c st cause n
    exact State.eventOf_congr h.mask.symm ..
  rw [e]
  refine ⟨ts ++ (ps ++ u.provingReports b r), whole, whole.changesTold (.inr ⟨(State.moved_flags ..).1, ?_, ?_⟩),
    List.subset_append_left _ _, ?_, ?_, fun wasProving isProven => ?_⟩
  · rw [State.moved_berthChange]; exact inWhole own
  · rw [State.moved_berth]; exact List.mem_append_right _ (List.mem_append_right _ status)
  · rw [mask]; exact inWhole proving
  · rw [State.moved_berth, State.provingReports, ← List.append_assoc, ← List.append_assoc]
    exact List.getLast?_concat
  · rw [State.moved_berth] at isProven ⊢
    exact List.mem_append_right _ (List.mem_append_left _ (granted wasProving isProven))

/-! # CLOSE (R59 to R61) -/

/-- Reasons taken from a record one after another. -/
def Door.without (m : MotionLimits) (ks : List Reason) (r : Door) : Door :=
  ks.foldl (fun r k => r.withReasons m (r.reasons.put false k)) r

theorem State.removeReasons_door (s : State) (d : DoorNo) (ks : List Reason) :
    (s.removeReasons d ks).door d = (s.door d).without (s.limits d) ks := by
  induction ks generalizing s with
  | nil => rfl
  | cons k ks ih =>
    have rest := ih (s.putReason d false k)
    rw [State.limits_congr (s.putReason_worked d false k).ts, State.putReason_door] at rest
    exact rest

theorem State.removeReasons_other (s : State) {d c : DoorNo} (ks : List Reason) (ne : c ≠ d) :
    (s.removeReasons d ks).door c = s.door c :=
  foldl_keeps (fun s => s.door c) (fun s k => s.putReason d false k) (fun s k => s.putReason_other d c false k ne) ks s

theorem State.latchReset_handed (s : State) (d : DoorNo) :
    Handed (s.setDoor d ((s.door d).latchReset (s.limits d))) (s.latchReset d) := by
  rw [State.latchReset_eq]
  exact s.doorEvent_handed d fun s => s.setDoor d ((s.door d).latchReset (s.limits d))
theorem State.latchReset_door (s : State) (d : DoorNo) : (s.latchReset d).door d = (s.door d).latchReset (s.limits d) := by
  rw [(s.latchReset_handed d).door, State.door_setDoor_same]
theorem State.latchReset_other (s : State) {d c : DoorNo} (ne : c ≠ d) : (s.latchReset d).door c = s.door c := by
  rw [(s.latchReset_handed d).door, State.door_setDoor_ne _ _ ne]

/-- The doors shut: each has the reasons taken off and is then given a latch reset (R60, steps 1 and 2). -/
theorem State.shutDoors_door (s : State) {ds : List DoorNo} (distinct : ds.Nodup) (ks : List Reason) (d : DoorNo) :
    (s.shutDoors ds ks).door d
      = if d ∈ ds then ((s.door d).without (s.limits d) ks).latchReset (s.limits d) else s.door d := by
  have removed := State.forDoors_door (act := fun d s => s.removeReasons d ks) (g := fun d m _ r => r.without (m d) ks)
    (fun d s => s.removeReasons_worked d ks) (fun d s => s.removeReasons_door d ks)
    (fun d c s ne => s.removeReasons_other ks ne) distinct s d
  have reset := State.forDoors_door (act := fun d s => s.latchReset d) (g := fun d m _ r => r.latchReset (m d))
    (fun d s => s.latchReset_worked d) (fun d s => s.latchReset_door d) (fun d c s ne => s.latchReset_other ne) distinct
    (forDoors ds (fun d s => s.removeReasons d ks) s) d
  rw [State.limits_congr (Worked.forDoors (fun d s => s.removeReasons_worked d ks) ds s).ts, removed] at reset
  refine reset.trans ?_
  split <;> rfl

/-- Two changes of a reason set, neither of which makes an empty set non-empty, are one. -/
theorem Door.withReasons_twice {r : Door} (m : MotionLimits) {n n' : Reasons} (serves : r.state ≠ .outOfService)
    (shrinks : r.reasons = .empty → n = .empty) (shrinks' : n = .empty → n' = .empty) :
    (r.withReasons m n).withReasons m n' = r.withReasons m n' := by
  by_cases e : n = .empty
  · have reasons : (r.withReasons m n).reasons = n' := by
      rw [Door.withReasons_reasons, if_neg serves, e, shrinks' e]
    calc (r.withReasons m n).withReasons m n' = r.withReasons m n := by rw [← reasons]; exact Door.withReasons_self ..
      _ = r.withReasons m n' := by rw [e, shrinks' e]
  · have held : r.reasons ≠ .empty := fun h => e (shrinks h)
    have first : r.withReasons m n = { r with reasons := n } :=
      Door.withReasons_stays m ⟨fun h => absurd h held, fun h => absurd h e⟩ serves
    rw [first]
    unfold Door.withReasons
    simp only [serves, e, held, false_and, if_false, not_false_iff, true_and, ne_eq]

/-- The reasons that a berth CLOSE leaves (R60). -/
def Reasons.leftByClose (n : Reasons) : Reasons := { n with release := false, fire := false, evac := false }

/-- A berth CLOSE takes its three reasons off as one change. -/
theorem Door.without_closeReasons {r : Door} (m : MotionLimits) (serves : r.state ≠ .outOfService) :
    r.without m closeReasons = r.withReasons m r.reasons.leftByClose := by
  have empties : ∀ {n n' : Reasons}, (∃ k, n' = n.put false k) → n = .empty → n' = .empty := by
    rintro n n' ⟨k, rfl⟩ rfl
    cases k <;> rfl
  have first : (r.withReasons m (r.reasons.put false .release)).reasons = r.reasons.put false .release := by
    rw [Door.withReasons_reasons, if_neg serves]
  have firstServes : (r.withReasons m (r.reasons.put false .release)).state ≠ .outOfService := by
    rw [ne_eq, Door.withReasons_out]; exact serves
  have second : (r.withReasons m (r.reasons.put false .release)).withReasons m ((r.reasons.put false .release).put false .fire)
      = r.withReasons m ((r.reasons.put false .release).put false .fire) :=
    Door.withReasons_twice m serves (empties ⟨_, rfl⟩) (empties ⟨_, rfl⟩)
  have third : (r.withReasons m ((r.reasons.put false .release).put false .fire)).withReasons m
        (((r.reasons.put false .release).put false .fire).put false .evac)
      = r.withReasons m (((r.reasons.put false .release).put false .fire).put false .evac) :=
    Door.withReasons_twice m serves (fun h => empties ⟨_, rfl⟩ (empties ⟨_, rfl⟩ h)) (empties ⟨_, rfl⟩)
  have secondReasons : (r.withReasons m ((r.reasons.put false .release).put false .fire)).reasons
      = (r.reasons.put false .release).put false .fire := by
    rw [Door.withReasons_reasons, if_neg serves]
  simp only [Door.without, closeReasons, List.foldl_cons, List.foldl_nil]
  rw [first, second, secondReasons, third]
  rfl

section
variable (r : Door) (m : MotionLimits)

theorem Door.latchReset_reasons : (r.latchReset m).reasons = r.reasons := by
  unfold Door.latchReset
  split
  · rfl
  · split <;> rfl

theorem Door.latchReset_not_held : (r.latchReset m).state ≠ .held := by
  unfold Door.latchReset
  split
  · assumption
  · split <;> simp [Door.enterClosing, Door.enterOpening]

variable {r}

theorem Door.latchReset_keeps (h : r.state ≠ .held) : r.latchReset m = r := if_pos h
theorem Door.latchReset_closes (held : r.state = .held) (none : r.reasons = .empty) :
    r.latchReset m = ({ r with reopenCount := 0 }).enterClosing m := by
  rw [Door.latchReset, if_neg (not_not_intro held), if_pos none]
theorem Door.latchReset_opens (held : r.state = .held) (some : r.reasons ≠ .empty) : r.latchReset m = r.enterOpening m := by
  rw [Door.latchReset, if_neg (not_not_intro held), if_neg some]

/-- A HELD door whose last reason is taken stays HELD. -/
theorem Door.withReasons_held (held : r.state = .held) : r.withReasons m .empty = { r with reasons := .empty } := by
  unfold Door.withReasons Door.reasonsCease
  rw [if_neg (by rw [held]; decide), if_neg fun h => h.2 rfl]
  split
  · simp only [held]
  · rfl

/-- A door that serves, shut by a berth CLOSE (R60, R120, R129). -/
theorem Door.shut_of_close (serves : r.state ≠ .outOfService) :
    let left : Reasons := r.reasons.leftByClose
    let t := (r.without m closeReasons).latchReset m
    t.reasons = left ∧ t.state ≠ .held
      ∧ (left = .empty → (r.state = .opening ∨ r.state = .opened) ∧ r.reasons ≠ .empty ∨ r.state = .held →
          t.state = .closing ∧ t.order = .close ∧ t.motion = .running m.closeMs)
      ∧ (left ≠ .empty → r.state = .held → t.state = .opening ∧ t.order = .opn)
      ∧ (left ≠ .empty → r.state ≠ .held → t = { r with reasons := left }) := by
  intro left t
  have e : t = (r.withReasons m left).latchReset m := congrArg (Door.latchReset · m) (Door.without_closeReasons m serves)
  have stays : left ≠ .empty → r.withReasons m left = { r with reasons := left } := fun some =>
    Door.withReasons_stays m ⟨fun h => absurd (show left = .empty by simp only [left, h]; rfl) some, fun h => absurd h some⟩ serves
  rw [e]
  refine ⟨?_, Door.latchReset_not_held _ m, fun none state => ?_, fun some held => ?_, fun some notHeld => ?_⟩
  · rw [Door.latchReset_reasons, Door.withReasons_reasons, if_neg serves]
  · rw [none]
    rcases state with ⟨motion, some⟩ | held
    · rw [Door.withReasons_ceases m some motion, Door.latchReset_keeps m (by simp [Door.enterClosing])]
      exact ⟨rfl, rfl, rfl⟩
    · rw [Door.withReasons_held m held, Door.latchReset_closes (r := { r with reasons := .empty }) m held rfl]
      exact ⟨rfl, rfl, rfl⟩
  · rw [stays some, Door.latchReset_opens (r := { r with reasons := left }) m held some]
    exact ⟨rfl, rfl⟩
  · rw [stays some, Door.latchReset_keeps (r := { r with reasons := left }) m notHeld]

end

@[simp] theorem State.enterProving_door (s : State) (b : BerthId) (c : CloseCause) (d : DoorNo) :
    (s.enterProving b c).door d = s.door d := State.setBerth_door ..

/-- A berth goes to PROVING (R53, R60, R62). -/
def Berth.proving (r : Berth) (c : CloseCause) (ms : Nat) : Berth :=
  { r with state := .proving, closeCause := some c, proofTimer := .running ms }

theorem State.enterProving_eq (s : State) (b : BerthId) (c : CloseCause) :
    s.enterProving b c = s.setBerth b ((s.berth b).proving c s.proofMs) := rfl

/-- A berth that went to PROVING, evaluated: PROVING with its timer running, or PROVEN and granted (R62, R199, R200). -/
theorem ProofMoved.of_proving {ms : Nat} {r r' : Berth} (h : ProofMoved ms r r') (proving : r.state = .proving)
    (running : r.proofTimer = .running ms) :
    r'.state = .proving ∧ r'.proofTimer = .running ms ∨ r'.state = .proven ∧ r'.proofTimer = .stopped ∧ r'.permit = .granted := by
  rcases h with rfl | ⟨-, rfl | rfl⟩
  · exact .inl ⟨proving, running⟩
  · exact .inr ⟨rfl, rfl, rfl⟩
  · exact .inl ⟨rfl, rfl⟩

theorem State.popRequest_spanDoors (s : State) (b : BerthId) : s.popRequest.spanDoors b = s.spanDoors b := by cases b <;> rfl

/-- A CLOSE that passes its checks finds the berth RELEASED, PROVING or PROVEN (R59). -/
theorem closeRefusal_passes {s : State} {p : List Byte} (passes : closeRefusal s p = none)
    (notReleased : (s.berth (berthNamed p)).state ≠ .released) : (s.berth (berthNamed p)).Active := by
  unfold closeRefusal at passes
  dsimp only at passes
  iterate 2 (split at passes; · exact absurd passes (by simp))
  split at passes
  · exact absurd passes (by simp)
  next other =>
    unfold Berth.Active
    cases state : (s.berth (berthNamed p)).state <;> simp [state] at other notReleased ⊢

/-- Settles O17: the doors of the span are shut; a RELEASED berth then goes to PROVING and is evaluated. -/
theorem closeShuts : Obligations.CloseShuts := by
  intro s src p taken passes b r
  have owner := (State.close_eq s.popRequest p).trans (congrArg (State.unlessRefused _ · _) passes)
  rw [State.unlessRefused_none, State.popRequest_berth] at owner
  have distinct : (s.popRequest.spanDoors b).Nodup := allDoors_filter_nodup _
  have worked := s.popRequest.shutDoors_worked (s.popRequest.spanDoors b) closeReasons
  have door := fun d => s.popRequest.shutDoors_door distinct closeReasons d
  have doorsOf : ∀ t : State, (∀ d, t.door d = (s.popRequest.shutDoors (s.popRequest.spanDoors b) closeReasons).door d) →
      (∀ d : DoorNo, InSpan s b d → (s.door d).state ≠ .outOfService →
        let left : Reasons := { (s.door d).reasons with release := false, fire := false, evac := false }
        (t.door d).reasons = left ∧ (t.door d).state ≠ .held
          ∧ (left = .empty →
              ((s.door d).state = .opening ∨ (s.door d).state = .opened) ∧ (s.door d).reasons ≠ .empty
                ∨ (s.door d).state = .held →
              (t.door d).state = .closing ∧ (t.door d).order = .close
                ∧ (t.door d).motion = .running (s.settings.closeTimeLimit * 1000))
          ∧ (left ≠ .empty → (s.door d).state = .held → (t.door d).state = .opening ∧ (t.door d).order = .opn)
          ∧ (left ≠ .empty → (s.door d).state ≠ .held → t.door d = { s.door d with reasons := left }))
      ∧ ∀ d : DoorNo, ¬ InSpan s b d → t.door d = s.door d := by
    intro t same
    refine ⟨fun d here serves => ?_, fun d off => ?_⟩ <;> rw [same, door d]
    · rw [if_pos (by rw [State.popRequest_spanDoors]; exact State.mem_spanDoors.mpr here)]
      exact Door.shut_of_close (s.limits d) serves
    · rw [if_neg (by rw [State.popRequest_spanDoors]; exact fun h => off (State.mem_spanDoors.mp h))]
      rfl
  have moved := worked.moved b
  rw [State.popRequest_berth] at moved
  by_cases released : r.state = .released
  · rw [if_pos released] at owner
    have accepted := State.takeRequest_accepted taken (owner := fun s => s.close p) owner
    have idle : ¬ (s.berth b).Active := Berth.not_active (by rw [show (s.berth b).state = .released from released]; decide)
      (by rw [show (s.berth b).state = .released from released]; decide)
    obtain ⟨ts, told⟩ := worked.told
    set u := (s.popRequest.shutDoors (s.popRequest.spanDoors b) closeReasons).enterProving b .order with hu
    have record : u.berth b = r.proving .order s.proofMs := by
      rw [hu, State.enterProving_eq, State.berth_setBerth_same, moved.of_not_active idle, worked.proofMs]
      rfl
    have active : (u.berth b).Active := .inl (by rw [record]; rfl)
    have entered : Told (some b) s.popRequest u (ts ++ []) := (told.leaveOpen _).trans (State.setBerth_told _ b _)
    obtain ⟨us, whole, changes, -, provingTold, last, granted⟩ := entered.finished active
    have finished := u.finishProving_moved b
    have ms : u.proofMs = s.proofMs := State.proofMs_congr entered.ts_eq
    rw [record, ms] at finished
    have standing := finished.of_proving rfl rfl
    have isActive := finished.active.mpr (.inl rfl)
    obtain ⟨doors, others⟩ := doorsOf (u.finishProving b) fun d => by rw [State.finishProving_door, hu, State.enterProving_door]
    refine ⟨u.finishProving b, us, congrArg Host.Outcome.next accepted, isActive, ?_, fun _ => ⟨fun proving => ?_,
      (u.finishProving_sound b).proven_iff isActive, fun proven => ?_, ?_, last⟩, doors, others,
      doorsAndBerthsOnly_of_popRequest whole.only, whole.tells, changes⟩
    · rw [if_pos released]
      exact finished.frame
    · rcases standing with ⟨-, running⟩ | ⟨proven, -⟩
      · exact running
      · exact absurd (proving.symm.trans proven) (by decide)
    · rcases standing with ⟨proving, -⟩ | ⟨-, stopped, permit⟩
      · exact absurd (proving.symm.trans proven) (by decide)
      · exact ⟨stopped, permit, granted (by rw [record]; rfl) proven⟩
    · rw [record] at provingTold
      exact provingTold
  · rw [if_neg released] at owner
    have accepted := State.takeRequest_accepted taken (owner := fun s => s.close p) owner
    obtain ⟨ts, told⟩ := worked.told
    have active : r.Active := closeRefusal_passes passes released
    obtain ⟨doors, others⟩ := doorsOf _ fun d => rfl
    refine ⟨_, ts, congrArg Host.Outcome.next accepted, moved.active.mpr active, ?_, fun h => absurd h released, doors, others,
      doorsAndBerthsOnly_of_popRequest told.only, told.tells, told.changesTold_all⟩
    rw [if_neg released]
    exact moved.frame

end Sys2Proof.Machine

namespace Sys2Proof.Machine

/-! # What a computation reads (R69, R76) -/

/-- A computation reads the tables, the berth's span, e_used, consist and saturation, and which doors are OUT_OF_SERVICE. -/
theorem State.computed_congr {s t : State} {b : BerthId} (ts : t.ts = s.ts)
    (service : ∀ d, (t.door d).state = .outOfService ↔ (s.door d).state = .outOfService)
    (span : (t.berth b).span = (s.berth b).span) (used : (t.berth b).eUsed = (s.berth b).eUsed)
    (consist : (t.berth b).consist = (s.berth b).consist) (saturated : (t.berth b).saturated = (s.berth b).saturated) :
    t.computed b = { t.berth b with
      trainDoors := (s.computed b).trainDoors, matchList := (s.computed b).matchList, nEligible := (s.computed b).nEligible
      nAligned := (s.computed b).nAligned, verdict := (s.computed b).verdict
      platformEnable := (s.computed b).platformEnable, trainEnable := (s.computed b).trainEnable } := by
  have stock : t.stock = s.stock := by funext i; unfold State.stock; rw [ts]
  have pdt : t.pdt = s.pdt := by funext d; exact State.pdt_congr ts d
  have doors : t.trainDoors b = s.trainDoors b := by
    unfold State.trainDoors
    rw [span, used, consist, stock, State.settings_congr ts]
  have inComputation : t.inComputation = s.inComputation := by
    funext d
    unfold State.inComputation State.inService
    rw [pdt, Bool.eq_iff_iff]
    simp only [Bool.and_eq_true, bne_iff_ne, ne_eq, service d]
  have spanDoors : t.spanDoors b = s.spanDoors b := by unfold State.spanDoors State.zoneOf; rw [span, pdt]
  have matched : t.matches b = s.matches b := by
    funext l
    unfold State.matches
    rw [saturated, spanDoors, inComputation, pdt, State.settings_congr ts]
  simp only [State.computed, doors, matched]

/-- A door of the platform enable set of a computation lies in the span (R76). -/
theorem State.computed_enable_inSpan {s : State} {b : BerthId} {d : DoorNo} (on : (s.computed b).platformEnable[d] = true) :
    InSpan s b d := by
  have enabled : ∃ m ∈ s.matches b (s.trainDoors b), m.p = d := by
    simpa [State.computed] using on
  obtain ⟨m, kept, rfl⟩ := enabled
  unfold State.matches at kept
  split at kept
  · exact absurd kept (by simp)
  · have pair := List.mem_of_mem_filter kept
    obtain ⟨c, chosen, e⟩ := List.mem_filterMap.mp pair
    have own : m.p = c := by
      unfold alignedPair at e
      split at e
      · split at e
        · rw [← Option.some.inj e]
        · exact absurd e (by simp)
      · exact absurd e (by simp)
    rw [own]
    exact State.mem_spanDoors.mp (List.mem_of_mem_filter chosen)

/-! # The protective close (R53 to R55) -/

/-- RELEASE taken from each door of the span (R53, step 1). -/
def State.unreleased (s : State) (b : BerthId) : State :=
  forDoors (s.spanDoors b) (fun d s => s.putReason d false .release) s

theorem State.protectiveClose_eq (s : State) (b : BerthId) (c : CloseCause) (step : State → State) :
    s.protectiveClose b c step = (step ((s.unreleased b).enterProving b c)).finishProving b := rfl

theorem State.unreleased_worked (s : State) (b : BerthId) : Worked s (s.unreleased b) :=
  .forDoors (fun d s => s.putReason_worked d false .release) _ _

/-- A door's record once RELEASE is taken from it. -/
def Door.unreleased (r : Door) (m : MotionLimits) : Door := r.withReasons m (r.reasons.put false .release)

theorem State.unreleased_door (s : State) (b : BerthId) (d : DoorNo) :
    (s.unreleased b).door d = if d ∈ s.spanDoors b then (s.door d).unreleased (s.limits d) else s.door d :=
  State.forDoors_door (act := fun d s => s.putReason d false .release) (g := fun d m _ r => r.unreleased (m d))
    (fun d s => s.putReason_worked d false .release) (fun d s => s.putReason_door d false .release)
    (fun d c s ne => s.putReason_other d c false .release ne) (allDoors_filter_nodup _) s d

theorem State.unreleased_out (s : State) (b : BerthId) (d : DoorNo) :
    ((s.unreleased b).door d).state = .outOfService ↔ (s.door d).state = .outOfService := by
  rw [State.unreleased_door]
  split
  · exact Door.withReasons_out ..
  · rfl

/-- What a protective close with a cause leaves, the doors having been worked to `door` and telegrams `first` offered on the way: the
berth PROVING or PROVEN as its proof condition says, every change told, that to PROVING among them, and its status last. -/
structure ProtectivelyClosed (s t : State) (b : BerthId) (c : CloseCause) (rec : Berth) (first : List Telegram) : Prop where
  moved : ProofMoved s.proofMs rec (t.berth b)
  sound : ProofSound t b
  told : ∃ ts : List Telegram, Told (some b) s t ts ∧ ChangesTold s t ts ∧ first ⊆ ts
    ∧ s.berthChangeTo b .proving (some c) ((s.berth b).trainNumber.getD 0) ⊆ ts
    ∧ ts.getLast? = some (berthStatusReport b (t.berth b))

/-- The end of a protective close, from the state in which its cause's step is done. -/
theorem Told.protectivelyClosed {s u : State} {b : BerthId} {c : CloseCause} {rec : Berth} {ts : List Telegram}
    (h : Told (some b) s u ts) (moved : ProofMoved s.proofMs rec (u.berth b)) (state : rec.state = .proving)
    (cause : rec.closeCause = some c) (train : rec.trainNumber = (s.berth b).trainNumber) {first : List Telegram}
    (offered : first ⊆ ts) : ProtectivelyClosed s (u.finishProving b) b c rec first := by
  obtain ⟨us, whole, changes, before, proving, last, -⟩ := h.finished (moved.active.mpr (.inl state))
  have finished := u.finishProving_moved b
  rw [State.proofMs_congr h.ts_eq] at finished
  rw [moved.closeCause, moved.trainNumber, cause, train] at proving
  exact ⟨moved.trans finished, u.finishProving_sound b, us, whole, changes, List.Subset.trans offered before, proving, last⟩

section
variable {s : State} {b : BerthId} (released : (s.berth b).state = .released)
include released

theorem State.unreleased_berth : (s.unreleased b).berth b = s.berth b :=
  (s.unreleased_worked b).berth (Berth.not_active (by rw [released]; decide) (by rw [released]; decide))

theorem State.enterProving_unreleased (c : CloseCause) : ((s.unreleased b).enterProving b c).berth b
    = (s.berth b).proving c s.proofMs := by
  rw [State.enterProving_eq, State.berth_setBerth_same, State.unreleased_berth released, (s.unreleased_worked b).proofMs]

omit released in
theorem State.enterProving_told (c : CloseCause) : ∃ ts : List Telegram, Told (some b) s ((s.unreleased b).enterProving b c) ts := by
  obtain ⟨ts, told⟩ := (s.unreleased_worked b).told
  exact ⟨_, (told.leaveOpen _).trans (State.setBerth_told _ b _)⟩

/-- A close by movement (R55): the alignment is emptied, its verdict NONE. -/
theorem State.protectiveClose_moving :
    ProtectivelyClosed s (s.protectiveClose b .moving fun s => s.movingStep b) b .moving
        { ((s.berth b).proving .moving s.proofMs).clearAlignment with eUsed := (s.berth b).eUsed, verdict := some .none } []
      ∧ ∀ d, (s.protectiveClose b .moving fun s => s.movingStep b).door d = (s.unreleased b).door d := by
  obtain ⟨ts, told⟩ := State.enterProving_told (s := s) (b := b) .moving
  have stepped := told.trans (State.setBerth_told _ b
    { (((s.unreleased b).enterProving b .moving).berth b).clearAlignment with
      eUsed := (((s.unreleased b).enterProving b .moving).berth b).eUsed, verdict := some .none })
  refine ⟨stepped.protectivelyClosed (c := .moving) (rec := { ((s.berth b).proving .moving s.proofMs).clearAlignment with
    eUsed := (s.berth b).eUsed, verdict := some .none }) ?_ rfl rfl rfl (List.nil_subset _), fun d => ?_⟩
  · rw [State.berth_setBerth_same, State.enterProving_unreleased released]
    exact .refl _
  · rw [State.protectiveClose_eq, State.finishProving_door, State.movingStep, State.setBerth_door, State.enterProving_door]

/-- A close by creep (R54): CREEP is offered, e_used set and the alignment computed again, from the doors as they are then. -/
theorem State.protectiveClose_creep (e : Int) :
    ProtectivelyClosed s (s.protectiveClose b .creep fun s => s.creepStep b e) b .creep
        { (s.withUsed b e).computed b with
          state := .proving, closeCause := some .creep, proofTimer := .running s.proofMs }
        (s.eventOf .creep (berthCode b) (encInt2 e ++ encOptInt2 (s.berth b).eUsed))
      ∧ ∀ d, (s.protectiveClose b .creep fun s => s.creepStep b e).door d
          = if ((s.withUsed b e).computed b).platformEnable[d] = true
            then ((s.unreleased b).door d).given (s.limits d) s.ou else (s.unreleased b).door d := by
  obtain ⟨ts, told⟩ := State.enterProving_told (s := s) (b := b) .creep
  set u := (s.unreleased b).enterProving b .creep with hu
  have record : u.berth b = (s.berth b).proving .creep s.proofMs := State.enterProving_unreleased released .creep
  set event := s.eventOf .creep (berthCode b) (encInt2 e ++ encOptInt2 (s.berth b).eUsed) with hevent
  have step : u.creepStep b e = ((u.tell event).withUsed b e).computeAlignment b := by
    have same : u.eventOf .creep (berthCode b) (encInt2 e ++ encOptInt2 (u.berth b).eUsed) = event := by
      rw [record]
      exact State.eventOf_congr told.mask ..
    rw [State.creepStep, State.raise_eq_tell, same, State.computeAt_eq]
  set v := (u.tell event).withUsed b e with hv
  have ts_eq : v.ts = s.ts := by rw [hv, State.withUsed, State.setBerth_ts, State.tell_ts]; exact told.ts_eq
  have vRecord : v.berth b = { (s.berth b).proving .creep s.proofMs with eUsed := some e } := by
    rw [hv, State.withUsed, State.berth_setBerth_same, State.tell_berth, record]
  have vDoor : ∀ d, v.door d = (s.unreleased b).door d := fun d => by
    rw [hv, State.withUsed, State.setBerth_door, State.tell_door, hu, State.enterProving_door]
  have computed : v.computed b = { (s.withUsed b e).computed b with
      state := .proving, closeCause := some .creep, proofTimer := .running s.proofMs } := by
    have used : (s.withUsed b e).berth b = { s.berth b with eUsed := some e } := State.berth_setBerth_same ..
    have read := State.computed_congr (s := s.withUsed b e) (t := v) (b := b) (ts_eq.trans (State.setBerth_ts ..).symm)
      (fun d => by rw [vDoor, State.withUsed, State.setBerth_door]; exact s.unreleased_out b d)
      (by rw [vRecord, used]; rfl) (by rw [vRecord, used]) (by rw [vRecord, used]; rfl) (by rw [vRecord, used]; rfl)
    rw [read, vRecord]
    simp only [State.computed, used]
    rfl
  obtain ⟨us, aligned⟩ := v.computeAlignment_told b
  have whole := ((told.trans ((u.tell_told event).leaveOpen _)).trans (State.setBerth_told _ b _)).trans aligned
  have worked := v.computeAlignment_worked b
  have moved := worked.moved b
  rw [State.berth_setBerth_same, computed, State.proofMs_congr ((State.setBerth_ts ..).trans ts_eq)] at moved
  refine ⟨?_, fun d => ?_⟩
  · rw [State.protectiveClose_eq, ← hu, step]
    refine whole.protectivelyClosed moved rfl rfl ?_ ?_
    · show ((s.withUsed b e).berth b).trainNumber = _
      rw [State.withUsed, State.berth_setBerth_same]
    · exact List.subset_append_of_subset_left _ (List.subset_append_of_subset_left _ (List.subset_append_right _ _))
  · have limits : v.limits = s.limits := State.limits_congr ts_eq
    have ou : v.ou = s.ou := by rw [hv, State.withUsed, State.setBerth_ou]; exact told.ou_eq
    rw [State.protectiveClose_eq, ← hu, State.finishProving_door, step, State.computeAlignment_door, vDoor, limits, ou, computed]

end

/-- Taking RELEASE from a door that serves (R120). -/
theorem Door.unreleased_reasons {r : Door} (m : MotionLimits) (serves : r.state ≠ .outOfService) :
    (r.unreleased m).reasons = { r.reasons with release := false } := by
  rw [Door.unreleased, Door.withReasons_reasons, if_neg serves]; rfl

theorem Door.unreleased_closes {r : Door} (m : MotionLimits) (motion : r.state = .opening ∨ r.state = .opened)
    (alone : r.reasons = { Reasons.empty with release := true }) :
    (r.unreleased m).state = .closing ∧ (r.unreleased m).order = .close ∧ (r.unreleased m).motion = .running m.closeMs := by
  have some : r.reasons ≠ .empty := by rw [alone]; decide
  have none : r.reasons.put false .release = .empty := by rw [alone]; rfl
  rw [Door.unreleased, none, Door.withReasons_ceases m some motion]
  exact ⟨rfl, rfl, rfl⟩

/-- The doors of a protective close whose last computation, if any, gave FIRE and EVAC to a set of doors of the span. -/
theorem State.protectiveClose_doors {s t : State} {b : BerthId} {enable : Vector Bool 48}
    (door : ∀ d, t.door d = if enable[d] = true then ((s.unreleased b).door d).given (s.limits d) s.ou else (s.unreleased b).door d)
    (inSpan : ∀ d : DoorNo, enable[d] = true → InSpan s b d) :
    (∀ d : DoorNo, InSpan s b d → (s.door d).state ≠ .outOfService → (t.door d).reasons.release = false)
    ∧ (∀ d : DoorNo, InSpan s b d → enable[d] = false ∨ (OverrideKind.fire ∉ s.ou.list ∧ OverrideKind.evac ∉ s.ou.list) →
        t.door d = (s.putReason d false .release).door d
          ∧ ((s.door d).state = .opening ∨ (s.door d).state = .opened →
              (s.door d).reasons = { Reasons.empty with release := true } →
              (t.door d).state = .closing ∧ (t.door d).order = .close
                ∧ (t.door d).motion = .running (s.settings.closeTimeLimit * 1000)))
    ∧ ∀ d : DoorNo, ¬ InSpan s b d → t.door d = s.door d := by
  have spanned : ∀ d, InSpan s b d → (s.unreleased b).door d = (s.door d).unreleased (s.limits d) := fun d here => by
    rw [State.unreleased_door, if_pos (State.mem_spanDoors.mpr here)]
  refine ⟨fun d here serves => ?_, fun d here free => ?_, fun d off => ?_⟩
  · rw [door d, spanned d here]
    have still : ((s.door d).unreleased (s.limits d)).state ≠ .outOfService := by
      rw [Door.unreleased, ne_eq, Door.withReasons_out]; exact serves
    split
    · rw [Door.given_reasons _ _ still, Door.unreleased_reasons _ serves]
    · rw [Door.unreleased_reasons _ serves]
  · have e : t.door d = (s.door d).unreleased (s.limits d) := by
      rw [door d, spanned d here]
      rcases free with off | ⟨fire, evac⟩
      · exact if_neg (by rw [off]; decide)
      · rw [Door.given_none _ _ fire evac, ite_self]
    rw [e]
    exact ⟨(s.putReason_door d false .release).symm, fun motion alone => Door.unreleased_closes (s.limits d) motion alone⟩
  · rw [door d, if_neg fun on => off (inSpan d on), State.unreleased_door, if_neg fun h => off (State.mem_spanDoors.mp h)]

/-- The part with a STOP_REPORT taken out of the request order and stored in its berth (R45, R49). -/
def State.withReport (s : State) (b : BerthId) (p : List Byte) : State := s.popRequest.setBerth b ((s.berth b).stored p)

section
variable (s : State) (b : BerthId) (p : List Byte)

@[simp] theorem State.withReport_berth : (s.withReport b p).berth b = (s.berth b).stored p := State.berth_setBerth_same ..
@[simp] theorem State.withReport_door (d : DoorNo) : (s.withReport b p).door d = s.door d := State.setBerth_door ..
theorem State.withReport_ts : (s.withReport b p).ts = s.ts := State.setBerth_ts ..
theorem State.withReport_ou : (s.withReport b p).ou = s.ou := State.setBerth_ou ..
theorem State.withReport_told : Told (some b) s.popRequest (s.withReport b p) [] := State.setBerth_told ..
theorem State.withReport_inSpan (d : DoorNo) : InSpan (s.withReport b p) b d ↔ InSpan s b d := by
  unfold InSpan
  rw [State.withReport_berth, State.pdt_congr (s.withReport_ts b p)]
  rfl
theorem State.withReport_state (c : BerthId) : ((s.withReport b p).berth c).state = (s.berth c).state := by
  by_cases same : c = b
  · rw [same, State.withReport_berth]; rfl
  · rw [State.withReport, State.berth_setBerth_ne _ _ same, State.popRequest_berth]
theorem State.withReport_computed (e : Int) : ((s.withReport b p).withUsed b e).computed b
    = (s.setBerth b { (s.berth b).stored p with eUsed := some e }).computed b := by
  rw [State.withUsed, State.withReport_berth, State.withReport, State.setBerth_setBerth, State.popRequest_computed]

end

/-- Settles O15: movement or creep of a RELEASED train takes its berth through PROVING, the doors of its span having lost RELEASE. -/
theorem protectiveClose : Obligations.ProtectiveClose := by
  intro s src p taken passes b r s1 closed released
  have owner := (State.stopReport_eq s.popRequest p).trans (congrArg (State.unlessRefused _ · _) passes)
  rw [State.unlessRefused_none, State.popRequest_berth, ← State.withReport] at owner
  have state : ((s.withReport b p).berth b).state = .released := (s.withReport_state b p b).trans released
  have used : ((s.withReport b p).berth b).eUsed = r.eUsed := by rw [State.withReport_berth]; rfl
  have ms : (s.withReport b p).proofMs = s.proofMs := State.proofMs_congr (s.withReport_ts b p)
  have settings : (s.withReport b p).settings = s.settings := State.settings_congr (s.withReport_ts b p)
  have limits : (s.withReport b p).limits = s.limits := State.limits_congr (s.withReport_ts b p)
  have mask : (s.withReport b p).er.mask = s.er.mask := (s.withReport_told b p).mask
  have close : ∀ {t : State} {c : CloseCause} {rec : Berth} {first : List Telegram},
      ProtectivelyClosed (s.withReport b p) t b c rec first → rec.state = .proving → rec.proofTimer = .running s.proofMs →
      (∀ d, t.door d = if rec.platformEnable[d] = true
        then (((s.withReport b p).unreleased b).door d).given (s.limits d) s.ou else ((s.withReport b p).unreleased b).door d) →
      (∀ d : DoorNo, rec.platformEnable[d] = true → InSpan (s.withReport b p) b d) → closed t c first := by
    intro t c rec first h proving running door enabled
    obtain ⟨ts, told, changes, offered, provingTold, last⟩ := h.told
    have whole := (s.withReport_told b p).trans told
    have moved := h.moved
    rw [ms] at moved
    have active := moved.active.mpr (.inl proving)
    have enable : (t.berth b).platformEnable = rec.platformEnable := by rw [moved.frame]
    obtain ⟨unreleased, shut, others⟩ := State.protectiveClose_doors (s := s.withReport b p) (t := t) (b := b)
      (by rw [limits, State.withReport_ou]; exact door) enabled
    refine ⟨moved.of_proving proving running, h.sound.proven_iff active, fun d here serves => ?_, fun d here free => ?_,
      fun d off => ?_, doorsAndBerthsOnly_of_popRequest whole.only, ts, whole.tells, ⟨fun d changed => changes.1 d (by rw [State.withReport_door]; exact changed), fun c => ?_⟩, offered, ?_, last⟩
    · exact unreleased d ((s.withReport_inSpan b p d).mpr here) (by rw [State.withReport_door]; exact serves)
    · rw [enable] at free
      have at_d := shut d ((s.withReport_inSpan b p d).mpr here) (by rw [State.withReport_ou]; exact free)
      rw [State.putReason_door, State.withReport_door, limits, settings] at at_d
      rw [State.putReason_door]
      exact at_d
    · rw [others d (fun here => off ((s.withReport_inSpan b p d).mp here)), State.withReport_door]
    · rw [← s.withReport_state b p c]
      exact changes.2 c
    · rw [State.withReport_berth] at provingTold
      rw [State.berthChangeTo, ← State.eventOf_congr mask]
      exact provingTold
  refine ⟨fun moving => ?_, fun u stands wasUsed creep => ?_⟩
  · obtain ⟨done, doors⟩ := State.protectiveClose_moving state
    have act : (s.withReport b p).actOnReport b (reportedOffset p) (decide (u8 p 3 = 1))
        = (s.withReport b p).protectiveClose b .moving fun s => s.movingStep b := by
      have still : decide (u8 p 3 = 1) = false := by rw [moving]; rfl
      unfold State.actOnReport
      simp only [state, still, if_true]
    have accepted := State.takeRequest_accepted taken (owner := fun s => s.stopReport p)
      (owner.trans (congrArg (·, Answer.accepted []) act))
    refine ⟨_, congrArg Host.Outcome.next accepted, close done rfl ?_ (fun d => ?_) (fun d on => ?_), ?_⟩
    · exact congrArg ProofTimer.running ms
    · rw [doors d, if_neg (by simp [Berth.clearAlignment])]
    · exact absurd on (by simp [Berth.clearAlignment])
    · rw [done.moved.frame, State.withReport_berth]
      rfl
  · obtain ⟨done, doors⟩ := State.protectiveClose_creep state (reportedOffset p)
    have act : (s.withReport b p).actOnReport b (reportedOffset p) (decide (u8 p 3 = 1))
        = (s.withReport b p).protectiveClose b .creep fun s => s.creepStep b (reportedOffset p) := by
      have far : (s.withReport b p).settings.creepTol < (reportedOffset p - u).natAbs := by
        rw [settings, ← natCast_lt_abs]; exact creep
      unfold State.actOnReport
      simp only [state, stands, used, show r.eUsed = some u from wasUsed, Option.getD_some, far, decide_true, Bool.true_eq_false,
        if_false, if_true]
    have accepted := State.takeRequest_accepted taken (owner := fun s => s.stopReport p)
      (owner.trans (congrArg (·, Answer.accepted []) act))
    rw [used, show r.eUsed = some u from wasUsed, State.eventOf_congr mask] at done
    have computed : ((s.withReport b p).withUsed b (reportedOffset p)).computed b = s1.computed b :=
      s.withReport_computed b p (reportedOffset p)
    refine ⟨_, congrArg Host.Outcome.next accepted, close done rfl ?_ (fun d => ?_) (fun d on => ?_), ?_⟩
    · exact congrArg ProofTimer.running ms
    · rw [doors d, limits, State.withReport_ou]
    · have here := State.computed_enable_inSpan on
      unfold InSpan State.withUsed at here
      rw [State.berth_setBerth_same, State.pdt_congr (State.setBerth_ts ..)] at here
      exact here
    · rw [done.moved.frame, computed]

end Sys2Proof.Machine

namespace Sys2Proof.Machine

/-! ## Laying out a consist (R70 to R74): how each list of stage 1 is ordered and what it holds -/

/-- A list in the order in which a unit of this orientation is taken (R72, R73). -/
def Orientation.order {α : Type} : Orientation → List α → List α
  | .forward, l => l
  | .reversed, l => l.reverse

/-- Number `a` is taken before number `b` in a unit of this orientation. -/
def Orientation.Takes : Orientation → Nat → Nat → Prop
  | .forward, a, b => a < b
  | .reversed, a, b => b < a

/-- What is taken before place `k` of a list. -/
def Orientation.ahead {α : Type} : Orientation → List α → Nat → List α
  | .forward, l, k => l.take k
  | .reversed, l, k => l.drop (k + 1)

@[simp] theorem Orientation.mem_order {α : Type} (o : Orientation) (l : List α) (a : α) : a ∈ o.order l ↔ a ∈ l := by
  cases o with
  | forward => exact Iff.rfl
  | reversed => exact List.mem_reverse

@[simp] theorem Orientation.length_order {α : Type} (o : Orientation) (l : List α) : (o.order l).length = l.length := by
  cases o with
  | forward => rfl
  | reversed => exact List.length_reverse

theorem Orientation.sum_map_order {α : Type} (o : Orientation) (l : List α) (f : α → Nat) :
    ((o.order l).map f).sum = (l.map f).sum := by
  cases o with
  | forward => rfl
  | reversed => simp [order]

theorem Orientation.order_pairwise {α : Type} {f : α → Nat} {l : List α} (o : Orientation)
    (ascends : l.Pairwise fun a b => f a < f b) : (o.order l).Pairwise fun a b => o.Takes (f a) (f b) := by
  cases o with
  | forward => exact ascends
  | reversed => exact List.pairwise_reverse.mpr ascends

/-- What stands at a place of the taken order, and what is taken before it, by the place in the list itself. -/
theorem Orientation.exists_order {α : Type} (o : Orientation) (l : List α) (f : α → Nat) (holds : α → Nat → Prop) :
    (∃ (i : Nat) (a : α), (o.order l)[i]? = some a ∧ holds a (((o.order l).take i).map f).sum)
      ↔ ∃ (k : Nat) (a : α), l[k]? = some a ∧ holds a ((o.ahead l k).map f).sum := by
  cases o with
  | forward => exact Iff.rfl
  | reversed =>
    have flip : ∀ {i : Nat} {a : α}, i < l.length →
        (l.reverse[i]? = some a ∧ holds a ((l.reverse.take i).map f).sum
          ↔ l[l.length - 1 - i]? = some a ∧ holds a ((l.drop (l.length - 1 - i + 1)).map f).sum) := by
      intro i a inside
      rw [List.getElem?_reverse inside, List.take_reverse, List.map_reverse, List.sum_reverse,
        show l.length - 1 - i + 1 = l.length - i by omega]
    constructor
    · rintro ⟨i, a, stands, rest⟩
      have inside : i < l.length := by simpa using (List.getElem?_eq_some_iff.mp stands).1
      exact ⟨_, a, (flip inside).mp ⟨stands, rest⟩⟩
    · rintro ⟨k, a, stands, rest⟩
      obtain ⟨inside, -⟩ := List.getElem?_eq_some_iff.mp stands
      have back : l.length - 1 - (l.length - 1 - k) = k := by omega
      exact ⟨l.length - 1 - k, a, (flip (by omega)).mpr (by rw [back]; exact ⟨stands, rest⟩)⟩

theorem zipIdx_pairwise {α : Type} (l : List α) (n : Nat) : (l.zipIdx n).Pairwise fun a b => a.2 < b.2 := by
  rw [← List.pairwise_map (f := Prod.snd) (R := (· < ·)), List.zipIdx_map_snd]
  exact List.pairwise_lt_range'

theorem getElem?_zipIdx_one {α : Type} {l : List α} {k n : Nat} {a : α} :
    (l.zipIdx 1)[k]? = some (a, n) ↔ l[k]? = some a ∧ n = k + 1 := by
  rw [List.getElem?_zipIdx, Option.map_eq_some_iff]
  constructor
  · rintro ⟨_, stands, same⟩
    obtain ⟨rfl, rfl⟩ := Prod.mk.inj same
    exact ⟨stands, Nat.add_comm 1 k⟩
  · rintro ⟨stands, rfl⟩
    exact ⟨a, stands, by rw [Nat.add_comm]⟩

/-! ### The doors of a car -/

/-- The entry of a door before its coordinate is known. -/
def TrainDoor.raw (unit car j : Nat) (q : ProfileDoor) (off : Int) : TrainDoor :=
  { o := off, w := q.width, pos := 0, eligible := false, unit := unit, car := car, door := j }

/-- Where a door stands in a car, from the end the car is taken by (R72, R73). -/
def Orientation.within (o : Orientation) (length off : Nat) : Int :=
  match o with
  | .forward => off
  | .reversed => (length : Int) - off

theorem carTrainDoors_eq (start unit car : Nat) (o : Orientation) (c : Car) (side : Nat) :
    carTrainDoors start unit car o c side
      = (o.order ((c.side side).zipIdx 1)).map fun dk => .raw unit car dk.2 dk.1 ((start : Int) + o.within c.length dk.1.offset) := by
  cases o <;> rfl

theorem mem_carTrainDoors {start unit car : Nat} {o : Orientation} {c : Car} {side : Nat} {x : TrainDoor} :
    x ∈ carTrainDoors start unit car o c side ↔ ∃ (j : Nat) (q : ProfileDoor), (c.side side)[j]? = some q
      ∧ x = .raw unit car (j + 1) q ((start : Int) + o.within c.length q.offset) := by
  simp only [carTrainDoors_eq, List.mem_map, Orientation.mem_order, Prod.exists, List.mk_mem_zipIdx_iff_le_and_getElem?_sub]
  constructor
  · rintro ⟨q, n, ⟨above, stands⟩, rfl⟩
    exact ⟨n - 1, q, stands, by rw [Nat.sub_add_cancel above]⟩
  · rintro ⟨j, q, stands, rfl⟩
    exact ⟨q, j + 1, ⟨by omega, stands⟩, rfl⟩

theorem length_carTrainDoors (start unit car : Nat) (o : Orientation) (c : Car) (side : Nat) :
    (carTrainDoors start unit car o c side).length = (c.side side).length := by
  simp [carTrainDoors_eq]

/-- The order in which a unit's doors are contributed: by the car's place as taken, then from the front (R74). -/
def Orientation.Contributes (o : Orientation) (x y : TrainDoor) : Prop :=
  o.Takes x.car y.car ∨ (x.car = y.car ∧ o.Takes x.door y.door)

theorem carTrainDoors_pairwise (start unit car : Nat) (o : Orientation) (c : Car) (side : Nat) :
    (carTrainDoors start unit car o c side).Pairwise o.Contributes := by
  rw [carTrainDoors_eq, List.pairwise_map]
  exact (o.order_pairwise (zipIdx_pairwise _ 1)).imp fun taken => .inr ⟨rfl, taken⟩

/-! ### The doors of a unit -/

/-- The length of a car record, none while it is unwritten. -/
def carLength (c : Option Car) : Nat := (c.map Car.length).getD 0

/-- A car record with its number, as the computation takes it. -/
def numberedCar (c : Option Car × Nat) : Nat × Car := (c.2, c.1.getD { length := 0, side1 := [], side2 := [] })

theorem takenCars_eq (p : StockProfile) (o : Orientation) : takenCars p o = (o.order (p.cars.zipIdx 1)).map numberedCar := by
  cases o with
  | forward => rfl
  | reversed => exact List.map_reverse.symm

theorem numberedCar_length (c : Option Car × Nat) : (numberedCar c).2.length = carLength c.1 := by
  obtain ⟨_ | c, n⟩ := c <;> rfl

theorem mem_unitTrainDoors {unit side : Nat} {o : Orientation} {x : TrainDoor} (start : Nat) (l : List (Nat × Car)) :
    x ∈ unitTrainDoors start unit o side l ↔ ∃ (i : Nat) (kc : Nat × Car), l[i]? = some kc
      ∧ x ∈ carTrainDoors (start + ((l.take i).map fun a => a.2.length).sum) unit kc.1 o kc.2 side := by
  induction l generalizing start with
  | nil => simp [unitTrainDoors]
  | cons a rest ih =>
    simp only [unitTrainDoors, List.mem_append, ih]
    constructor
    · rintro (first | ⟨i, kc, stands, later⟩)
      · exact ⟨0, a, rfl, by simpa using first⟩
      · exact ⟨i + 1, kc, stands, by simpa [Nat.add_assoc] using later⟩
    · rintro ⟨_ | i, kc, stands, there⟩
      · obtain rfl : a = kc := by simpa using stands
        exact .inl (by simpa using there)
      · exact .inr ⟨i, kc, stands, by simpa [Nat.add_assoc] using there⟩

theorem length_unitTrainDoors (unit side : Nat) (o : Orientation) (start : Nat) (l : List (Nat × Car)) :
    (unitTrainDoors start unit o side l).length = (l.map fun a => (a.2.side side).length).sum := by
  induction l generalizing start with
  | nil => rfl
  | cons a rest ih => simp [unitTrainDoors, length_carTrainDoors, ih]

theorem unitTrainDoors_pairwise {unit side : Nat} {o : Orientation} {l : List (Nat × Car)} (start : Nat)
    (taken : l.Pairwise fun a b => o.Takes a.1 b.1) : (unitTrainDoors start unit o side l).Pairwise o.Contributes := by
  induction l generalizing start with
  | nil => exact .nil
  | cons a rest ih =>
    obtain ⟨first, later⟩ := List.pairwise_cons.mp taken
    refine List.pairwise_append.mpr ⟨carTrainDoors_pairwise .., ih _ later, fun x here y there => .inl ?_⟩
    obtain ⟨_, _, -, rfl⟩ := mem_carTrainDoors.mp here
    obtain ⟨i, kc, stands, there⟩ := (mem_unitTrainDoors _ _).mp there
    obtain ⟨_, _, -, rfl⟩ := mem_carTrainDoors.mp there
    exact first kc (List.mem_of_getElem? stands)

/-- The doors of a unit are those of its written cars, each behind the cars taken before it. -/
theorem mem_unitTrainDoors_takenCars {start unit side : Nat} {p : StockProfile} {o : Orientation} {x : TrainDoor} :
    x ∈ unitTrainDoors start unit o side (takenCars p o) ↔ ∃ (k j : Nat) (c : Car) (q : ProfileDoor),
      p.cars[k]? = some (some c) ∧ (c.side side)[j]? = some q
        ∧ x = .raw unit (k + 1) (j + 1) q (trainOffset start o p.cars k c.length q.offset) := by
  have offset : ∀ (k : Nat) (c : Car) (q : ProfileDoor),
      ((start + ((o.ahead (p.cars.zipIdx 1) k).map fun a => (numberedCar a).2.length).sum : Nat) : Int) + o.within c.length q.offset
        = trainOffset start o p.cars k c.length q.offset := by
    intro k c q
    have map_ahead : ∀ {α : Type} (f : α → Nat) (l : List α), (o.ahead l k).map f = o.ahead (l.map f) k := by
      intro α f l
      cases o with
      | forward => exact List.map_take
      | reversed => exact List.map_drop
    have lengths : (o.ahead (p.cars.zipIdx 1) k).map (fun a => (numberedCar a).2.length) = (o.ahead p.cars k).map carLength := by
      simp only [numberedCar_length]
      rw [map_ahead, map_ahead]
      conv_rhs => rw [← List.zipIdx_map_fst 1 p.cars, List.map_map]
      rfl
    rw [lengths]
    cases o with
    | forward => exact (Int.natCast_add _ _).symm
    | reversed => rfl
  have places := o.exists_order (p.cars.zipIdx 1) (fun a => (numberedCar a).2.length) fun a before =>
    x ∈ carTrainDoors (start + before) unit (numberedCar a).1 o (numberedCar a).2 side
  calc x ∈ unitTrainDoors start unit o side (takenCars p o)
    _ ↔ _ := by
      simp only [mem_unitTrainDoors, takenCars_eq, List.getElem?_map, Option.map_eq_some_iff, ← List.map_take, List.map_map]
      constructor
      · rintro ⟨i, _, ⟨a, stands, rfl⟩, there⟩
        exact ⟨i, a, stands, there⟩
      · rintro ⟨i, a, stands, there⟩
        exact ⟨i, _, ⟨a, stands, rfl⟩, there⟩
    _ ↔ _ := places
    _ ↔ _ := by
      simp only [mem_carTrainDoors, offset]
      constructor
      · rintro ⟨k, ⟨_ | c, n⟩, stands, j, q, written, rfl⟩
        · simp [numberedCar, Car.side] at written
        · obtain ⟨written_car, rfl⟩ := getElem?_zipIdx_one.mp stands
          exact ⟨k, j, c, q, written_car, written, rfl⟩
      · rintro ⟨k, j, c, q, stands, written, rfl⟩
        exact ⟨k, _, getElem?_zipIdx_one.mpr ⟨stands, rfl⟩, j, q, written, rfl⟩

theorem takenCars_pairwise (p : StockProfile) (o : Orientation) : (takenCars p o).Pairwise fun a b => o.Takes a.1 b.1 := by
  rw [takenCars_eq, List.pairwise_map]
  exact o.order_pairwise (zipIdx_pairwise _ 1)

theorem length_unitTrainDoors_takenCars (start unit side : Nat) (p : StockProfile) (o : Orientation) :
    (unitTrainDoors start unit o side (takenCars p o)).length = p.sideCount side := by
  have counts : ((fun a : Nat × Car => (a.2.side side).length) ∘ numberedCar)
      = (fun c : Option Car => (c.map fun c => (c.side side).length).getD 0) ∘ Prod.fst := by
    funext ⟨c, n⟩
    cases c with
    | none => simp [numberedCar, Car.side]
    | some c => rfl
  rw [length_unitTrainDoors, takenCars_eq, List.map_map, o.sum_map_order, counts, ← List.map_map, List.zipIdx_map_fst,
    StockProfile.sideCount]

/-! ### The doors of a consist -/

theorem mem_consistDoors {s : State} {side : Nat} {x : TrainDoor} (start u : Nat) (l : List TrainUnit) :
    x ∈ consistDoors s.stock side start u l ↔ ∃ (i : Nat) (y : TrainUnit), l[i]? = some y
      ∧ x ∈ unitTrainDoors (start + s.unitStart l i) (u + i) y.orientation (platformSideOf side y.orientation)
          (takenCars (s.stock y.profile) y.orientation) := by
  induction l generalizing start u with
  | nil => simp [consistDoors]
  | cons a rest ih =>
    have behind : ∀ i, start + s.unitStart (a :: rest) (i + 1)
        = start + (s.stock a.profile).length + (s.stock a.profile).allowance + s.unitStart rest i := by
      intro i
      simp [State.unitStart, Nat.add_assoc]
    simp only [consistDoors, List.mem_append, ih]
    constructor
    · rintro (first | ⟨i, y, stands, later⟩)
      · exact ⟨0, a, rfl, first⟩
      · exact ⟨i + 1, y, stands, by rw [behind, Nat.add_comm i, ← Nat.add_assoc]; exact later⟩
    · rintro ⟨_ | i, y, stands, there⟩
      · obtain rfl : a = y := by simpa using stands
        exact .inl there
      · exact .inr ⟨i, y, stands, by rw [behind, Nat.add_comm i, ← Nat.add_assoc] at there; exact there⟩

theorem length_consistDoors (s : State) (start u : Nat) (l : List TrainUnit) :
    (consistDoors s.stock s.settings.platformSide start u l).length = s.consistCount l := by
  induction l generalizing start u with
  | nil => rfl
  | cons a rest ih => simp [consistDoors, length_unitTrainDoors_takenCars, ih, State.consistCount]

/-- The order in which a consist's doors are contributed: by unit, then as the unit contributes them (R74). -/
def ContributedBefore (consist : List TrainUnit) (x y : TrainDoor) : Prop :=
  x.unit < y.unit ∨ (x.unit = y.unit ∧
    if (consist[x.unit - 1]?).map TrainUnit.orientation = some .reversed
      then y.car < x.car ∨ (y.car = x.car ∧ y.door < x.door)
      else x.car < y.car ∨ (x.car = y.car ∧ x.door < y.door))

theorem unit_of_mem_unitTrainDoors {start unit side : Nat} {o : Orientation} {l : List (Nat × Car)} {x : TrainDoor}
    (here : x ∈ unitTrainDoors start unit o side l) : x.unit = unit := by
  obtain ⟨_, _, -, there⟩ := (mem_unitTrainDoors _ _).mp here
  obtain ⟨_, _, -, rfl⟩ := mem_carTrainDoors.mp there
  rfl

theorem contributedBefore_of_unit {consist : List TrainUnit} {y : TrainUnit} {x z : TrainDoor}
    (stands : consist[x.unit - 1]? = some y) (same : x.unit = z.unit) (before : y.orientation.Contributes x z) :
    ContributedBefore consist x z := by
  refine .inr ⟨same, ?_⟩
  rw [stands, Option.map_some]
  unfold Orientation.Contributes at before
  cases facing : y.orientation with
  | forward =>
    rw [facing] at before
    simpa [Orientation.Takes] using before
  | reversed =>
    rw [facing] at before
    simpa [Orientation.Takes, eq_comm] using before

theorem consistDoors_pairwise {s : State} {side : Nat} {consist : List TrainUnit} (start u : Nat) (l : List TrainUnit)
    (stand : ∀ i, l[i]? = consist[u + i]?) : (consistDoors s.stock side start (u + 1) l).Pairwise (ContributedBefore consist) := by
  induction l generalizing start u with
  | nil => exact .nil
  | cons a rest ih =>
    refine List.pairwise_append.mpr ⟨?_, ih _ (u + 1) fun i => ?_, fun x here y there => .inl ?_⟩
    · refine (unitTrainDoors_pairwise _ (takenCars_pairwise _ _)).imp_of_mem fun {x z} here there before => ?_
      have number := unit_of_mem_unitTrainDoors here
      refine contributedBefore_of_unit (y := a) ?_ (number.trans (unit_of_mem_unitTrainDoors there).symm) before
      rw [number]
      exact (stand 0).symm
    · rw [Nat.add_assoc, Nat.add_comm 1 i]
      exact stand (i + 1)
    · obtain ⟨i, _, -, there⟩ := (mem_consistDoors _ _ _).mp there
      rw [unit_of_mem_unitTrainDoors here, unit_of_mem_unitTrainDoors there]
      omega

/-! ### Sorting by offset keeps the entries, and keeps the contributed order on equal offsets (R74) -/

/-- By offset, and on equal offsets as contributed. -/
def OffsetBefore (before : TrainDoor → TrainDoor → Prop) (x y : TrainDoor) : Prop := x.o < y.o ∨ (x.o = y.o ∧ before x y)

theorem insertByOffset_perm (x : TrainDoor) (l : List TrainDoor) : (insertByOffset x l).Perm (x :: l) := by
  induction l with
  | nil => exact .refl _
  | cons y ys ih =>
    unfold insertByOffset
    split
    · exact .refl _
    · exact (ih.cons y).trans (.swap x y ys)

theorem insertByOffset_pairwise {before : TrainDoor → TrainDoor → Prop} {x : TrainDoor} {l : List TrainDoor}
    (sorted : l.Pairwise (OffsetBefore before)) (last : ∀ y ∈ l, before y x) :
    (insertByOffset x l).Pairwise (OffsetBefore before) := by
  induction l with
  | nil => exact List.pairwise_singleton _ _
  | cons y ys ih =>
    obtain ⟨first, rest⟩ := List.pairwise_cons.mp sorted
    unfold insertByOffset
    split
    case isTrue less =>
      refine List.pairwise_cons.mpr ⟨fun z there => .inl ?_, sorted⟩
      obtain rfl | there := List.mem_cons.mp there
      · exact less
      · obtain further | ⟨level, -⟩ := first z there
        · exact less.trans further
        · exact level ▸ less
    case isFalse notLess =>
      refine List.pairwise_cons.mpr ⟨fun z there => ?_, ih rest fun z there => last z (.tail _ there)⟩
      obtain rfl | there := List.mem_cons.mp ((insertByOffset_perm x ys).mem_iff.mp there)
      · exact (lt_or_eq_of_le (not_lt.mp notLess)).imp_right fun level => ⟨level, last y (.head _)⟩
      · exact first z there

theorem foldl_insertByOffset_perm (l acc : List TrainDoor) :
    (l.foldl (fun acc x => insertByOffset x acc) acc).Perm (acc ++ l) := by
  induction l generalizing acc with
  | nil => simp
  | cons x xs ih =>
    exact (ih _).trans (((insertByOffset_perm x acc).append_right xs).trans List.perm_middle.symm)

theorem foldl_insertByOffset_pairwise {before : TrainDoor → TrainDoor → Prop} {l acc : List TrainDoor}
    (contributed : l.Pairwise before) (later : ∀ y ∈ acc, ∀ x ∈ l, before y x) (sorted : acc.Pairwise (OffsetBefore before)) :
    (l.foldl (fun acc x => insertByOffset x acc) acc).Pairwise (OffsetBefore before) := by
  induction l generalizing acc with
  | nil => exact sorted
  | cons x xs ih =>
    obtain ⟨first, rest⟩ := List.pairwise_cons.mp contributed
    refine ih rest (fun y there z behind => ?_) (insertByOffset_pairwise sorted fun y there => later y there x (.head _))
    obtain rfl | there := List.mem_cons.mp ((insertByOffset_perm x acc).mem_iff.mp there)
    · exact first z behind
    · exact later y there z (.tail _ behind)

theorem sortByOffset_perm (l : List TrainDoor) : (sortByOffset l).Perm l := foldl_insertByOffset_perm l []

theorem sortByOffset_pairwise {before : TrainDoor → TrainDoor → Prop} {l : List TrainDoor} (contributed : l.Pairwise before) :
    (sortByOffset l).Pairwise (OffsetBefore before) :=
  foldl_insertByOffset_pairwise contributed (fun _ none => absurd none List.not_mem_nil) .nil

/-! ### Placing the entries on the platform (R70, R75) -/

theorem platformSideOf_side (c : Car) (platformSide : Nat) (o : Orientation) :
    c.side (platformSideOf platformSide o) = if platformSide = 1 ↔ o = .forward then c.side1 else c.side2 := by
  cases o <;> by_cases one : platformSide = 1 <;> simp [Car.side, platformSideOf, one]

theorem Span.extent_eq (c : Settings) (sp : Span) :
    sp.extent c = (if sp = .rear then c.zsplit else 0, if sp = .front then c.zsplit else c.zend) := by
  cases sp <;> rfl

/-- An entry that agrees with a laid-out door in unit, car, place, width and offset, and stands at coordinate `f` plus its offset
with the eligibility of its opening, is that door placed. -/
theorem TrainDoor.eq_place_raw_iff {x : TrainDoor} {unit car j : Nat} {q : ProfileDoor} {off f : Int} {lo hi : Nat} :
    x = (TrainDoor.raw unit car j q off).place f lo hi ↔ x.unit = unit ∧ x.car = car ∧ x.door = j ∧ x.w = q.width ∧ x.o = off
      ∧ x.pos = f + x.o ∧ (x.eligible = true ↔ 2 * (lo : Int) ≤ 2 * x.pos - x.w ∧ 2 * x.pos + x.w ≤ 2 * (hi : Int)) := by
  constructor
  · rintro rfl
    exact ⟨rfl, rfl, rfl, rfl, rfl, rfl, decide_eq_true_iff⟩
  · obtain ⟨o, w, pos, eligible, unit', car', door⟩ := x
    rintro ⟨rfl, rfl, rfl, rfl, rfl, stands, eligibility⟩
    have decided : eligible = decide _ := Bool.eq_iff_iff.mpr (eligibility.trans decide_eq_true_iff.symm)
    dsimp only at stands
    rw [decided, stands]
    rfl

section
variable {s : State} {b : BerthId} {sp : Span} {e : Int} (span : (s.berth b).span = some sp) (used : (s.berth b).eUsed = some e)
include span used

theorem State.trainDoors_eq : s.trainDoors b
    = (sortByOffset (consistDoors s.stock s.settings.platformSide 0 1 (s.berth b).consist)).map fun x =>
        x.place ((sp.stopMark s.settings : Int) + e) (sp.extent s.settings).1 (sp.extent s.settings).2 := by
  unfold State.trainDoors
  rw [span, used]

theorem State.length_trainDoors : (s.trainDoors b).length = s.consistCount (s.berth b).consist := by
  rw [State.trainDoors_eq span used, List.length_map, (sortByOffset_perm _).length_eq, length_consistDoors]

theorem State.mem_trainDoors (x : TrainDoor) : x ∈ s.trainDoors b ↔ IsTrainDoor s sp e (s.berth b).consist x := by
  rw [State.trainDoors_eq span used]
  simp only [List.mem_map, (sortByOffset_perm _).mem_iff, mem_consistDoors, mem_unitTrainDoors_takenCars, platformSideOf_side,
    Nat.zero_add, Span.extent_eq]
  constructor
  · rintro ⟨_, ⟨u, y, unit, k, j, c, q, car, door, rfl⟩, rfl⟩
    exact ⟨u, k, j, y, c, q, unit, car, door, TrainDoor.eq_place_raw_iff.mp (by rw [Nat.add_comm 1 u])⟩
  · rintro ⟨u, k, j, y, c, q, unit, car, door, fields⟩
    exact ⟨_, ⟨u, y, unit, k, j, c, q, car, door, rfl⟩, by rw [Nat.add_comm 1 u]; exact (TrainDoor.eq_place_raw_iff.mpr fields).symm⟩

theorem State.trainDoors_pairwise : (s.trainDoors b).Pairwise (ListedBefore (s.berth b).consist) := by
  rw [State.trainDoors_eq span used, List.pairwise_map]
  exact sortByOffset_pairwise (consistDoors_pairwise 0 0 _ fun i => by rw [Nat.zero_add])

end

/-- Settles O23: the entries are the doors of each unit's written cars, counted car by car; the sort by offset is a permutation
that leaves equal offsets in the order contributed. -/
theorem trainDoorsLaidOut : Obligations.TrainDoorsLaidOut := fun _ _ _ _ span used =>
  ⟨State.length_trainDoors span used, State.mem_trainDoors span used, State.trainDoors_pairwise span used⟩

end Sys2Proof.Machine

namespace Sys2Proof.Machine

/-! # What the working part keeps of the edge

The permits, the proof, the occupancy of the berths and the records of the VACANT ones are looked at by O54 and O55 alike. One
relation says of an operation what it must keep for all of them; it is said once for each operation, in the order of the model's
definitions. Only ARRIVAL, CANCEL, DEPARTED and the resets take a berth into or out of VACANT, and they are told apart. -/

/-! ## The part of the state these invariants look at -/

/-- A door does not block the proof: it is out of service, or every gap zone is CLEAR (R197). -/
def State.GapsClear (s : State) (d : DoorNo) : Prop :=
  (s.door d).state ≠ .outOfService → ∀ z : ZoneId, z.isGap = true → s.zoneState d z = .clear

/-- What the invariants of the berths look at. -/
structure Edge where
  phase : Phase
  list : List OverrideKind
  berth : BerthId → Berth
  loop : Zone → Bool
  zone : DoorNo → Zone
  clear : DoorNo → Prop

def State.edge (s : State) : Edge :=
  { phase := s.phase, list := s.ou.list, berth := s.berth, loop := s.loop, zone := s.zoneOf, clear := s.GapsClear }

theorem proofHolds_iff (s : State) (b : BerthId) : ProofHolds s b ↔
    (∃ sp : Span, (s.berth b).span = some sp ∧ ∀ z : Zone, sp.has z = true → s.loop z = true)
      ∧ ∀ d : DoorNo, (s.berth b).spans (s.zoneOf d) → s.GapsClear d := by
  refine and_congr_right fun _ => forall_congr' fun d => ?_
  rw [inSpan_iff]
  exact ⟨fun h here serves z => h z here serves, fun h z here serves => h here serves z⟩

/-- The proof condition of a berth looks at its span, the loops of the zones, and what the doors of the span do. -/
theorem proofHolds_of_spanDoors {s t : State} {b : BerthId} (span : (t.berth b).span = (s.berth b).span) (loop : t.loop = s.loop)
    (zone : t.zoneOf = s.zoneOf) (clear : ∀ d, (s.berth b).spans (s.zoneOf d) → (t.GapsClear d ↔ s.GapsClear d)) :
    ProofHolds t b ↔ ProofHolds s b := by
  have spans : ∀ z, (t.berth b).spans z ↔ (s.berth b).spans z := by intro z; unfold Berth.spans; rw [span]
  rw [proofHolds_iff, proofHolds_iff, span, loop, zone]
  simp only [spans]
  exact and_congr_right fun _ => forall_congr' fun d => forall_congr' (clear d)

/-- The permit is granted exactly in PROVEN, and the proof timer runs or has run out exactly in PROVING (R62, R201). -/
def Berth.PermitGood (r : Berth) : Prop :=
  (r.permit = .granted ↔ r.state = .proven) ∧ (r.proofTimer ≠ .stopped ↔ r.state = .proving)

/-- Where the proof is neither awaited nor held, the permit is withdrawn and the timer stopped. -/
theorem Berth.permitGood_of_idle {r : Berth} (idle : ¬ r.Active) :
    r.PermitGood ↔ r.permit ≠ .granted ∧ r.proofTimer = .stopped := by
  obtain ⟨proving, proven⟩ := not_or.mp idle
  unfold Berth.PermitGood
  simp [proving, proven]

/-- What a berth's record keeps while it stays VACANT, or not. -/
structure BerthKept (r r' : Berth) : Prop where
  span : r'.span = r.span
  vacant : r'.state = .vacant ↔ r.state = .vacant
  reset : r.afterReset → r'.afterReset
  permit : r.PermitGood → r'.PermitGood

theorem BerthKept.refl (r : Berth) : BerthKept r r := ⟨rfl, .rfl, id, id⟩
theorem BerthKept.trans {q r t : Berth} (h : BerthKept q r) (k : BerthKept r t) : BerthKept q t :=
  ⟨k.span.trans h.span, k.vacant.trans h.vacant, k.reset ∘ h.reset, k.permit ∘ h.permit⟩

theorem Berth.afterReset_vacant {r : Berth} (h : r.afterReset) : r.state = .vacant := by
  obtain ⟨vacant, -⟩ := h
  exact vacant

theorem Berth.not_active_of_vacant {r : Berth} (h : r.state = .vacant) : ¬ r.Active := by
  unfold Berth.Active
  rw [h]
  decide

/-- A record written over one that is not VACANT. -/
theorem BerthKept.occupied {r r' : Berth} (before : r.state ≠ .vacant) (after : r'.state ≠ .vacant) (span : r'.span = r.span)
    (permit : r.PermitGood → r'.PermitGood) : BerthKept r r' :=
  ⟨span, iff_of_false after before, fun reset => absurd (Berth.afterReset_vacant reset) before, permit⟩

/-- Evaluations of the proof gain and lose the permit with it (R199, R200). -/
theorem ProofMoved.kept {ms : Nat} {r r' : Berth} (h : ProofMoved ms r r') : BerthKept r r' := by
  rcases h with rfl | ⟨active, e⟩
  · exact .refl r'
  · have before : r.state ≠ .vacant := by rcases active with e | e <;> rw [e] <;> decide
    rcases e with rfl | rfl
    · exact .occupied before (by simp [Berth.gained]) rfl fun _ => by simp [Berth.PermitGood, Berth.gained]
    · exact .occupied before (by simp [Berth.lost]) rfl fun _ => by simp [Berth.PermitGood, Berth.lost]

/-- From `s` to `t` the phase stays, MAINT enters only over VACANT berths, each berth's record keeps what `BerthKept` says, and the
proof of each berth that is not excused stays sound. -/
structure EdgeKept (excused : BerthId → Prop) (s t : State) : Prop where
  phase : t.phase = s.phase
  maint : .maint ∈ t.ou.list → .maint ∈ s.ou.list ∨ ∀ b, (s.berth b).state = .vacant
  berth : ∀ b, BerthKept (s.berth b) (t.berth b)
  sound : ∀ b, ¬ excused b → ProofSound s b → ProofSound t b

theorem EdgeKept.refl (excused : BerthId → Prop) (s : State) : EdgeKept excused s s :=
  ⟨rfl, .inl, fun _ => .refl _, fun _ _ h => h⟩

namespace EdgeKept

section
variable {X : BerthId → Prop} {s t : State} (h : EdgeKept X s t)
include h

/-- One more operation, after which other berths may be excused than before: what `sound` settles is excused no longer. -/
theorem more {Y : BerthId → Prop} {u : State} (phase : u.phase = t.phase) (list : .maint ∈ u.ou.list → .maint ∈ t.ou.list)
    (berth : ∀ b, BerthKept (t.berth b) (u.berth b))
    (sound : ∀ b, ¬ Y b → (¬ X b → ProofSound s b → ProofSound t b) → ProofSound s b → ProofSound u b) : EdgeKept Y s u :=
  ⟨phase.trans h.phase, fun maint => h.maint (list maint), fun b => (h.berth b).trans (berth b),
    fun b free before => sound b free (h.sound b) before⟩

theorem trans {u : State} (k : EdgeKept X t u) : EdgeKept X s u := by
  refine ⟨k.phase.trans h.phase, fun maint => ?_, fun b => (h.berth b).trans (k.berth b), fun b free before =>
    k.sound b free (h.sound b free before)⟩
  rcases k.maint maint with still | vacant
  · exact h.maint still
  · exact .inr fun b => (h.berth b).vacant.mp (vacant b)

theorem excuse {Y : BerthId → Prop} (wider : ∀ b, X b → Y b) : EdgeKept Y s t :=
  h.more rfl id (fun _ => .refl _) fun b free kept => kept fun excused => free (wider b excused)

/-! ## Writing one record, and telling the station -/

/-- An operation that none of the invariants looks at. -/
theorem same {u : State} (e : u.edge = t.edge) : EdgeKept X s u := by
  have phase : u.phase = t.phase := congrArg Edge.phase e
  have list : u.ou.list = t.ou.list := congrArg Edge.list e
  have berth : u.berth = t.berth := congrArg Edge.berth e
  have clear : u.GapsClear = t.GapsClear := congrArg Edge.clear e
  refine h.more phase (by rw [list]; exact id) (fun b => by rw [berth]; exact .refl _) fun b free kept before => ?_
  refine (kept free before).congr (by rw [berth]) (proofHolds_of_spanDoors (by rw [berth]) (congrArg Edge.loop e)
    (congrArg Edge.zone e) fun d _ => by rw [clear])

theorem setKey (d : DoorNo) (k : KeyState) : EdgeKept X s (t.setKey d k) := h.same rfl
theorem setTest (x : RingTest) : EdgeKept X s (t.setTest x) := h.same rfl
theorem setDrm (x : RingMaster) : EdgeKept X s { t with drm := x } := h.same rfl
theorem setEr (x : EventReporter) : EdgeKept X s { t with er := x } := h.same rfl
theorem setLli (x : LineLink) : EdgeKept X s { t with lli := x } := h.same rfl
theorem setPanel (z : Zone) (p : Option Panel) : EdgeKept X s (t.setPanel z p) := h.same (by cases z <;> rfl)
theorem tell (ts : List Telegram) : EdgeKept X s (t.tell ts) := h.same rfl
theorem offer (x : Telegram) : EdgeKept X s (t.offer x) := h.same rfl
theorem raise (e : EventKind) (n : Nat) (items : List Byte) : EdgeKept X s (t.raise e n items) := by
  rw [State.raise_eq_tell]; exact h.tell _
theorem answer (src kind : Byte) (a : Answer) : EdgeKept X s (t.answer src kind a) := by
  cases a with
  | accepted data => exact h.offer _
  | refused c f => exact h.offer _
  | deferred => exact h

/-- A kind enters or leaves the override list; MAINT enters over VACANT berths alone (R174). -/
theorem setList (l : List OverrideKind) (maint : .maint ∈ l → .maint ∈ t.ou.list ∨ ∀ b, (t.berth b).state = .vacant) :
    EdgeKept X s { t with ou := { t.ou with list := l } } :=
  h.trans ⟨rfl, maint, fun b => by cases b <;> exact .refl _, fun b _ before =>
    before.congr (by cases b <;> rfl) (proofHolds_of_spanDoors (by cases b <;> rfl) rfl rfl fun _ _ => .rfl)⟩

/-- What each act of a fold keeps, the fold keeps. -/
theorem foldl {α : Type} {act : State → α → State} (each : ∀ ⦃u : State⦄ (x : α), EdgeKept X s u → EdgeKept X s (act u x))
    (l : List α) : EdgeKept X s (l.foldl act t) := by
  induction l generalizing t with
  | nil => exact h
  | cons x l ih => exact ih (each x h)

/-- An act done only under a condition. -/
theorem onlyIf {act : State → State} {c : Prop} [Decidable c] (acts : ∀ ⦃u : State⦄, EdgeKept X s u → EdgeKept X s (act u)) :
    EdgeKept X s (if c then act t else t) := by
  split
  · exact acts h
  · exact h

theorem forDoors {act : DoorNo → State → State} (each : ∀ ⦃u : State⦄ (d : DoorNo), EdgeKept X s u → EdgeKept X s (act d u))
    (ds : List DoorNo) : EdgeKept X s (forDoors ds act t) := h.foldl each ds

/-- An owner that refuses changes nothing. -/
theorem unlessRefused (refusal : Option (Code × Nat)) {act : State × Answer} (acted : EdgeKept X s act.1) :
    EdgeKept X s (t.unlessRefused refusal act).1 := by
  cases refusal with
  | none => exact acted
  | some r => exact h

/-- A berth's record is written; its proof stays as it was, or is neither awaited nor held. -/
theorem setBerth {b : BerthId} {r : Berth} (kept : BerthKept (t.berth b) r)
    (state : r.state = (t.berth b).state ∨ ¬ r.Active ∨ X b) : EdgeKept X s (t.setBerth b r) := by
  have berth : ∀ c, BerthKept (t.berth c) ((t.setBerth b r).berth c) := by
    intro c
    by_cases e : c = b
    · rw [e, State.berth_setBerth_same]; exact kept
    · rw [State.berth_setBerth_ne _ _ e]; exact .refl _
  refine h.more (by cases b <;> rfl) (by cases b <;> exact id) berth fun c free before was => ?_
  have holds : ProofHolds (t.setBerth b r) c ↔ ProofHolds t c :=
    proofHolds_of_spanDoors (berth c).span (by cases b <;> rfl) (by cases b <;> rfl) fun d _ => by cases b <;> exact .rfl
  by_cases e : c = b
  · subst e
    rcases state with state | idle | excused
    · exact (before free was).congr (by rw [State.berth_setBerth_same, state]) holds
    · exact proofSound_of_idle (by rw [State.berth_setBerth_same]; exact idle)
    · exact absurd excused free
  · exact (before free was).congr (by rw [State.berth_setBerth_ne _ _ e]) holds

/-! ## Departure proof and hand-overs (R116, R196 to R202) -/

theorem reportBerth (b : BerthId) (st : BerthState) (c : Option CloseCause) (n : Nat) :
    EdgeKept X s (t.reportBerth b st c n) :=
  (h.setEr _).raise _ _ _
theorem reportBerthNow (b : BerthId) : EdgeKept X s (t.reportBerthNow b) := h.reportBerth b _ _ _
theorem offerBerthStatus (b : BerthId) : EdgeKept X s (t.offerBerthStatus b) := h.offer _

/-- A hand-over that moves berths by evaluations alone, and settles the proof of some of them. -/
theorem evaluated {Y : BerthId → Prop} {u : State} (handed : Handed t u) (moved : ∀ b, ProofMoved t.proofMs (t.berth b) (u.berth b))
    (sound : ∀ b, ¬ Y b → (¬ X b → ProofSound t b) → ProofSound u b) : EdgeKept Y s u :=
  h.more handed.phase (by rw [handed.ou]; exact id) (fun b => (moved b).kept) fun b free kept before =>
    sound b free fun free' => kept free' before

/-- The berths of a zone are evaluated: the proof of each is sound. -/
theorem settleZone {Y : BerthId → Prop} {z : Zone} (settled : ∀ b, X b → Y b ∨ (t.berth b).spans z) :
    EdgeKept Y s (t.handProofOfZone z) :=
  h.evaluated (t.handProofOfZone_handed z) (t.handProofOfZone_moved z) fun b free sound => by
    refine State.handProofOfZone_sound ?_
    by_cases excused : X b
    · exact .inr ((settled b excused).resolve_left free)
    · exact .inl (sound excused)

theorem handProofOfZone (z : Zone) : EdgeKept X s (t.handProofOfZone z) := h.settleZone fun _ => .inl
theorem judgeLoop (z : Zone) : EdgeKept X s (t.judgeLoop z) :=
  h.evaluated (t.judgeLoop_handed z) (t.judgeLoop_moved z) fun _ free sound => State.judgeLoop_keeps_sound (sound free) z
theorem judgeLoops : EdgeKept X s t.judgeLoops := (h.judgeLoop .front).judgeLoop .rear

/-- A door is handed over: the proof of each berth whose span holds it is sound. -/
theorem settleDoor {Y : BerthId → Prop} {d : DoorNo} (settled : ∀ b, X b → Y b ∨ InSpan t b d) : EdgeKept Y s (t.handDoor d) :=
  h.evaluated (t.handDoor_handed d) (t.handDoor_moved d) fun b free sound => by
    refine State.handDoor_sound ?_
    by_cases excused : X b
    · exact .inr ((settled b excused).resolve_left free)
    · exact .inl (sound excused)

/-- The end of an event that has taken a berth into PROVING: its proof is sound again (R63). -/
theorem settleProving {Y : BerthId → Prop} {b : BerthId} (settled : ∀ c, X c → Y c ∨ c = b) : EdgeKept Y s (t.finishProving b) := by
  obtain ⟨frame, -⟩ := t.finishProving_berthsOnly b
  have moved : ∀ c, ProofMoved t.proofMs (t.berth c) ((t.finishProving b).berth c) := by
    intro c
    by_cases e : c = b
    · rw [e]; exact t.finishProving_moved b
    · rw [eq_otherBerth e, State.finishProving_other]; exact .refl _
  refine h.more (by rw [frame]) (by rw [frame]; exact id) (fun c => (moved c).kept) fun c free kept before => ?_
  by_cases e : c = b
  · rw [e]; exact t.finishProving_sound b
  · have sound := kept (fun excused => e ((settled c excused).resolve_left free)) before
    refine sound.congr ?_ (proofHolds_of_berthsOnly (t.finishProving_berthsOnly b) (moved c).span)
    rw [eq_otherBerth e, State.finishProving_other]

end
end EdgeKept

end Sys2Proof.Machine

namespace Sys2Proof.Machine

/-! ## One event on a door, as the invariants of the edge see it (R116) -/

/-- From `s` to `t` at most the record of door `d`, the Event Reporter and what is sent change. -/
structure Reworked (d : DoorNo) (s t : State) : Prop where
  frame : t = { s with doors := t.doors, lli := t.lli, er := t.er }
  others : ∀ c : DoorNo, c ≠ d → t.door c = s.door c

theorem Reworked.refl (d : DoorNo) (s : State) : Reworked d s s := ⟨rfl, fun _ _ => rfl⟩

namespace Reworked

section
variable {d : DoorNo} {s t : State} (h : Reworked d s t)
include h

theorem trans {u : State} (k : Reworked d t u) : Reworked d s u :=
  ⟨by rw [k.frame, h.frame], fun c ne => (k.others c ne).trans (h.others c ne)⟩

theorem setDoor (r : Door) : Reworked d s (t.setDoor d r) := h.trans ⟨rfl, fun _ ne => t.door_setDoor_ne r ne⟩
theorem raise (e : EventKind) (n : Nat) (items : List Byte) : Reworked d s (t.raise e n items) := by
  rw [State.raise_eq_tell]
  exact h.trans ⟨rfl, fun _ _ => rfl⟩

theorem faultDoor (c : FaultCause) : Reworked d s (t.faultDoor d c) := by
  unfold State.faultDoor
  dsimp only
  split
  · exact h.setDoor _
  · exact (h.setDoor _).raise _ _ _
theorem reopenOrHold : Reworked d s (t.reopenOrHold d) := by
  unfold State.reopenOrHold
  dsimp only
  split
  · exact h
  · split
    · exact h.setDoor _
    · exact (h.setDoor _).raise _ _ _
theorem applyLeaf (u : UnitStatus) : Reworked d s (t.applyLeaf d u) := by
  unfold State.applyLeaf
  dsimp only
  split
  · split
    · exact h.setDoor _
    · exact h
  · split
    · exact h.setDoor _
    · split
      · exact h.setDoor _
      · exact h
  · split
    · exact h.faultDoor _
    · exact h
  · split
    · exact h.setDoor _
    · exact h
  · exact h
theorem applyRules (u : UnitStatus) (wasManual : Bool) : Reworked d s (t.applyRules d u wasManual) := by
  unfold State.applyRules
  dsimp only
  split
  · exact h.faultDoor _
  · split
    · exact (h.setDoor _).raise _ _ _
    · split
      · split <;> exact h.setDoor _
      · exact h.applyLeaf u
theorem tripDoor : Reworked d s (t.tripDoor d) := by
  unfold State.tripDoor
  split
  case h_1 => exact h.reopenOrHold
  case h_2 | h_3 => exact h.setDoor _
  case h_4 | h_5 | h_6 | h_7 => exact h.faultDoor _
  case h_8 | h_9 | h_10 => exact h

theorem berth (b : BerthId) : t.berth b = s.berth b := by rw [h.frame]; cases b <;> rfl
theorem zone : t.zone = s.zone := by rw [h.frame]; rfl

end
end Reworked

/-- An act on door `d`: beside it, at most the Berth Unit drops the door from a platform enable set; and a door whose state stays
does not come to block the proof, nor cease to. -/
structure DoorAct (d : DoorNo) (s t : State) : Prop where
  edge : t.edge = { s.edge with berth := t.berth, clear := t.GapsClear }
  berth : ∀ b, t.berth b = s.berth b ∨ ((s.berth b).platformEnable[d] = true ∧ t.berth b = (s.berth b).dropDoor d)
  others : ∀ c, c ≠ d → (t.GapsClear c ↔ s.GapsClear c)
  here : (t.door d).state = (s.door d).state → (t.GapsClear d ↔ s.GapsClear d)

theorem gapsClear_congr {s t : State} {c : DoorNo} (state : (t.door c).state = (s.door c).state)
    (zones : ∀ z, t.zone c z = s.zone c z) : t.GapsClear c ↔ s.GapsClear c := by
  unfold State.GapsClear State.zoneState
  rw [state]
  simp only [zones]

theorem Reworked.act {d : DoorNo} {s t : State} (h : Reworked d s t) : DoorAct d s t where
  edge := by rw [h.frame]; rfl
  berth b := .inl (h.berth b)
  others c ne := gapsClear_congr (by rw [h.others c ne]) fun z => by rw [h.zone]
  here state := gapsClear_congr state fun z => by rw [h.zone]

/-! ### Leaving service (R84, R134) -/

/-- The record of a berth once a door that leaves service is removed from its platform enable set (R84). -/
def Berth.leftBy (r : Berth) (d : DoorNo) : Berth := if r.platformEnable[d] then r.dropDoor d else r

theorem State.dropFromBerths_eq (s : State) (d : DoorNo) :
    s.dropFromBerths d = { s with berthA := s.berthA.leftBy d, berthB := s.berthB.leftBy d } := by
  have one : ∀ (u : State) (b : BerthId), (if (u.berth b).platformEnable[d] then u.setBerth b ((u.berth b).dropDoor d) else u)
      = u.setBerth b ((u.berth b).leftBy d) := by
    intro u b
    unfold Berth.leftBy
    split
    · rfl
    · exact (u.setBerth_self b).symm
  unfold State.dropFromBerths
  simp only [one]
  rfl

theorem State.leaveService_frame (s : State) (d : DoorNo) : s.leaveService d
    = { s.setDoor d (s.door d).enterOut with
        berthA := s.berthA.leftBy d, berthB := s.berthB.leftBy d, zones := (s.leaveService d).zones
        ou := { s.ou with keys := (s.leaveService d).ou.keys } } := by
  unfold State.leaveService State.leaveKey State.leaveZones
  rw [State.dropFromBerths_eq]
  rfl

theorem State.leaveService_zone (s : State) {d c : DoorNo} (ne : c ≠ d) (z : ZoneId) : (s.leaveService d).zone c z = s.zone c z := by
  have zones : (s.leaveService d).zonesOf c = s.zonesOf c := by
    unfold State.leaveService State.leaveZones
    exact (State.zonesOf_setZones_ne _ _ ne).trans (by rw [State.dropFromBerths_eq]; rfl)
  unfold State.zone
  rw [zones]

/-- A door out of service does not block the proof. -/
theorem gapsClear_of_out {s : State} {d : DoorNo} (out : (s.door d).state = .outOfService) : s.GapsClear d :=
  fun serves => absurd out serves

theorem Reworked.leaveService {d : DoorNo} {s t : State} (h : Reworked d s t) : DoorAct d s (t.leaveService d) where
  edge := by
    rw [State.leaveService_frame, h.frame]
    rfl
  berth b := by
    have left : (t.leaveService d).berth b = (s.berth b).leftBy d := by
      rw [State.leaveService_frame, ← h.berth b]
      cases b <;> rfl
    rw [left]
    unfold Berth.leftBy
    split
    next on => exact .inr ⟨on, rfl⟩
    next => exact .inl rfl
  others c ne := by
    have door : (t.leaveService d).door c = s.door c := by
      rw [State.leaveService_frame]
      exact (t.door_setDoor_ne _ ne).trans (h.others c ne)
    exact gapsClear_congr (by rw [door]) fun z => by rw [State.leaveService_zone _ ne, h.zone]
  here state := by
    have out : ((t.leaveService d).door d).state = .outOfService := by
      rw [State.leaveService_frame]
      exact congrArg Door.state (t.door_setDoor_same d _)
    exact iff_of_true (gapsClear_of_out out) (gapsClear_of_out (state ▸ out))

theorem State.readopt_act (s : State) (d : DoorNo) (u : UnitStatus) (iso recovered : Bool) :
    DoorAct d s (s.readopt d u iso recovered) := by
  have taken := (Reworked.refl d s).setDoor
    { (s.door d).still with lastStatus := some u, isoKey := some iso, reopenCount := 0, returning := false }
  unfold State.readopt
  dsimp only
  split
  · split
    · exact (taken.setDoor _).act
    · exact taken.leaveService
  · split
    · exact (taken.faultDoor _).act
    · split
      · exact ((taken.setDoor _).raise _ _ _).act
      · split <;> exact (taken.setDoor _).act

/-- The berth's record without a door that was in its platform enable set. -/
theorem BerthKept.dropDoor {r : Berth} {d : DoorNo} (on : r.platformEnable[d] = true) : BerthKept r (r.dropDoor d) where
  span := rfl
  vacant := .rfl
  reset reset := by
    obtain ⟨-, -, -, -, -, -, -, -, -, -, -, -, -, off, -⟩ := reset
    rw [off d] at on
    exact absurd on (by decide)
  permit := id

namespace EdgeKept

section
variable {X : BerthId → Prop} {s t : State} (h : EdgeKept X s t)
include h

/-- An act on a door excuses the berths whose span holds it, unless the door blocks the proof as before. -/
theorem act {d : DoorNo} {u : State} (acted : DoorAct d t u) : EdgeKept (fun b => X b ∨ InSpan t b d) s u
    ∧ ((u.door d).state = (t.door d).state → EdgeKept X s u) := by
  have loop : u.loop = t.loop := congrArg Edge.loop acted.edge
  have zone : u.zoneOf = t.zoneOf := congrArg Edge.zone acted.edge
  have list : u.ou.list = t.ou.list := congrArg Edge.list acted.edge
  have berth : ∀ b, BerthKept (t.berth b) (u.berth b) ∧ (u.berth b).state = (t.berth b).state := by
    intro b
    rcases acted.berth b with e | ⟨on, e⟩ <;> rw [e]
    · exact ⟨.refl _, rfl⟩
    · exact ⟨.dropDoor on, rfl⟩
  have keeps : ∀ {Y : BerthId → Prop}, (∀ b, ¬ Y b → ¬ X b ∧ ∀ c, (t.berth b).spans (t.zoneOf c) → (u.GapsClear c ↔ t.GapsClear c)) →
      EdgeKept Y s u := fun free => h.more (congrArg Edge.phase acted.edge) (by rw [list]; exact id) (fun b => (berth b).1)
    fun b off kept before => (kept (free b off).1 before).congr (berth b).2
      (proofHolds_of_spanDoors (berth b).1.span loop zone (free b off).2)
  refine ⟨keeps fun b off => ⟨fun excused => off (.inl excused), fun c here => acted.others c ?_⟩, fun same =>
    keeps fun b off => ⟨off, fun c _ => ?_⟩⟩
  · rintro rfl
    exact off (.inr (inSpan_iff.mpr here))
  · by_cases e : c = d
    · rw [e]; exact acted.here same
    · exact acted.others c e

/-- One event on a door's record: a change of its standing is handed over, which settles the proof of its berths (R116). -/
theorem doorEvent {d : DoorNo} {f : State → State} (acted : DoorAct d t (f t)) : EdgeKept X s (t.doorEvent d f) := by
  obtain ⟨excused, same⟩ := h.act acted
  unfold State.doorEvent
  split
  next standing => exact same (congrArg Prod.fst standing)
  next =>
    refine excused.settleDoor fun b => Or.imp_right fun here => ?_
    have zone : (f t).zoneOf = t.zoneOf := congrArg Edge.zone acted.edge
    have span : ((f t).berth b).span = (t.berth b).span := by
      rcases acted.berth b with e | ⟨-, e⟩ <;> rw [e]
      rfl
    rw [inSpan_iff] at here ⊢
    unfold Berth.spans at here ⊢
    rw [zone, span]
    exact here

/-! ## Doors -/

/-- A door's record is written with its state as it was. -/
theorem setDoor {d : DoorNo} {r : Door} (state : r.state = (t.door d).state) : EdgeKept X s (t.setDoor d r) :=
  (h.act ((Reworked.refl d t).setDoor r).act).2 ((congrArg Door.state (t.door_setDoor_same d r)).trans state)

theorem putReason (d : DoorNo) (v : Bool) (k : Reason) : EdgeKept X s (t.putReason d v k) :=
  h.doorEvent ((Reworked.refl d t).setDoor _).act
theorem addReason (d : DoorNo) (k : Reason) : EdgeKept X s (t.addReason d k) := h.putReason d true k
theorem removeReasons (d : DoorNo) (ks : List Reason) : EdgeKept X s (t.removeReasons d ks) :=
  h.foldl (fun _ k h => h.putReason d false k) ks
theorem reopenTrigger (d : DoorNo) : EdgeKept X s (t.reopenTrigger d) := h.doorEvent (Reworked.refl d t).reopenOrHold.act
theorem latchReset (d : DoorNo) : EdgeKept X s (t.latchReset d) := by
  have self := Reworked.refl d t
  refine h.doorEvent (Reworked.act ?_)
  dsimp only
  split
  · exact self
  · split <;> exact self.setDoor _

theorem fireOnReturn (d : DoorNo) : EdgeKept X s (t.fireOnReturn d) := by
  unfold State.fireOnReturn
  split
  · exact h.addReason d _
  · exact h
theorem readoptEvent (d : DoorNo) (u : UnitStatus) (iso recovered : Bool) : EdgeKept X s (t.readoptEvent d u iso recovered) := by
  have event : EdgeKept X s (t.doorEvent d fun s => s.readopt d u iso recovered) := h.doorEvent (t.readopt_act d u iso recovered)
  unfold State.readoptEvent
  dsimp only
  split
  · exact event.fireOnReturn d
  · exact event
theorem faultClear (d : DoorNo) : EdgeKept X s (t.faultClear d) := by
  unfold State.faultClear
  dsimp only
  split
  · split
    · exact h.readoptEvent d _ _ _
    · exact h
  · exact h
theorem applyStatus (d : DoorNo) (u : UnitStatus) (iso : Bool) : EdgeKept X s (t.applyStatus d u iso) := by
  unfold State.applyStatus
  dsimp only
  split
  · exact h.readoptEvent d u iso false
  · split
    · exact h.readoptEvent d u iso false
    · refine h.doorEvent ?_
      have known := (Reworked.refl d t).setDoor { t.door d with lastStatus := some u, isoKey := some iso }
      split
      · exact known.leaveService
      · exact (known.applyRules u _).act
theorem commLostNotice (d : DoorNo) : EdgeKept X s (t.commLostNotice d) := by
  have known := (Reworked.refl d t).setDoor { t.door d with lastStatus := some substitutedStatus }
  refine h.doorEvent (Reworked.act ?_)
  dsimp only
  split
  · exact known
  · exact known.faultDoor _

theorem pdtOut (d : DoorNo) : EdgeKept X s (t.pdtOut d) := h.doorEvent (Reworked.refl d t).leaveService
theorem pdtIn (d : DoorNo) : EdgeKept X s (t.pdtIn d) := by
  refine h.doorEvent (Reworked.act ?_)
  split
  · exact .refl d t
  · exact (Reworked.refl d t).setDoor _

theorem motionExpiry (d : DoorNo) : EdgeKept X s (t.motionExpiry d) := by
  unfold State.motionExpiry
  split
  · exact h
  · exact h.doorEvent ((Reworked.refl d t).faultDoor _).act
theorem lockProofExpiry (d : DoorNo) : EdgeKept X s (t.lockProofExpiry d) := by
  unfold State.lockProofExpiry
  split
  · exact h
  · exact h.doorEvent ((Reworked.refl d t).faultDoor _).act
theorem recloseExpiry (d : DoorNo) : EdgeKept X s (t.recloseExpiry d) := by
  unfold State.recloseExpiry
  split
  · exact h
  · refine h.doorEvent (Reworked.act ?_)
    dsimp only
    split <;> exact (Reworked.refl d t).setDoor _

end
end EdgeKept

end Sys2Proof.Machine

namespace Sys2Proof.Machine

namespace EdgeKept

/-! ## Sensing and effort (R141 to R170), as the invariants of the edge see them -/

section
variable {X : BerthId → Prop} {s t : State} (h : EdgeKept X s t)
include h

/-- Zone records of a door are written: the berths whose span holds it are excused, unless the door blocks the proof as before. -/
theorem setZones {Y : BerthId → Prop} {d : DoorNo} {x : DoorZones} (wider : ∀ b, X b → Y b)
    (clear : (∀ b, InSpan t b d → Y b) ∨ ((t.setZones d x).GapsClear d ↔ t.GapsClear d)) : EdgeKept Y s (t.setZones d x) := by
  have berth : ∀ b, (t.setZones d x).berth b = t.berth b := by intro b; cases b <;> rfl
  refine h.more rfl id (fun b => by rw [berth]; exact .refl _) fun b free kept before => ?_
  refine (kept (fun excused => free (wider b excused)) before).congr (by rw [berth])
    (proofHolds_of_spanDoors (by rw [berth]) rfl rfl fun c here => ?_)
  by_cases e : c = d
  · rw [e]
    exact clear.resolve_left fun all => free (all b (inSpan_iff.mpr (e ▸ here)))
  · exact gapsClear_congr rfl fun z => by unfold State.zone; rw [State.zonesOf_setZones_ne _ _ e]

end
end EdgeKept

theorem State.zoneState_setZone (s : State) (d : DoorNo) (z y : ZoneId) (r : ZoneRec) :
    (s.setZone d z (some r)).zoneState d y = if y = z then r.state else s.zoneState d y := by
  unfold State.zoneState
  split
  next same => rw [same, State.zone_setZone_same]; rfl
  next other => rw [State.zone_setZone_ne _ _ _ other]

/-- A zone record that is no gap zone's, or of a door out of service, or that keeps its state, does not touch the proof. -/
theorem State.gapsClear_setZone {s : State} {d : DoorNo} {z : ZoneId} {r : ZoneRec}
    (quiet : (z.isGap = true → (s.door d).state ≠ .outOfService → r.state = s.zoneState d z)) :
    (s.setZone d z (some r)).GapsClear d ↔ s.GapsClear d := by
  refine forall_congr' fun serves => forall₂_congr fun y gap => ?_
  rw [State.zoneState_setZone]
  split
  next same => subst same; rw [quiet gap serves]
  next => rfl

theorem State.zoneState_of_zone {s : State} {d : DoorNo} {z : ZoneId} {r : ZoneRec} (stands : s.zone d z = some r) :
    s.zoneState d z = r.state := by unfold State.zoneState; rw [stands]; rfl

/-- What a sensed change of a gap zone does before the Berth Unit is told (R165 to R167). -/
def State.gapSensed (s : State) (d : DoorNo) (z : ZoneId) (p : SensingProfile) (occupied : Bool) : State :=
  if occupied then
    let s1 := (s.countDoor d DoorCounters.incGapEvents).raise .gapOccupied d.val (enc1 z.idx.val)
    let s2 := if s1.held d = false ∧ p.intrusionReport = true then s1.raise .intrusion d.val (enc1 z.idx.val) else s1
    if p.gapResponse = .reopen then s2.reopenTrigger d else s2
  else s

theorem State.handSensed_gap (s : State) {d : DoorNo} {z : ZoneId} (p : SensingProfile) (occupied : Bool) (gap : z.isGap = true) :
    s.handSensed d z p occupied = (s.gapSensed d z p occupied).handProofOfZone ((s.gapSensed d z p occupied).zoneOf d) := if_pos gap

theorem State.handSensed_outer (s : State) {d : DoorNo} {z : ZoneId} (p : SensingProfile) (occupied : Bool) (outer : z.isGap = false) :
    s.handSensed d z p occupied = if occupied then s.reopenTrigger d else s := if_neg (by rw [outer]; decide)

theorem State.gapSensed_ground (s : State) (d : DoorNo) (z : ZoneId) (p : SensingProfile) (occupied : Bool) :
    (s.gapSensed d z p occupied).ground = s.ground := by
  unfold State.gapSensed
  dsimp only
  repeat' split
  all_goals simp

namespace EdgeKept

section
variable {X : BerthId → Prop} {s t : State} (h : EdgeKept X s t)
include h

theorem countDoor (d : DoorNo) (f : DoorCounters → DoorCounters) : EdgeKept X s (t.countDoor d f) := h.setDoor rfl

theorem gapSensed (d : DoorNo) (z : ZoneId) (p : SensingProfile) (occupied : Bool) : EdgeKept X s (t.gapSensed d z p occupied) := by
  unfold State.gapSensed
  split
  · refine onlyIf (act := (State.reopenTrigger · d)) ?_ fun _ h => h.reopenTrigger d
    exact onlyIf (act := (State.raise · _ _ _)) ((h.countDoor d _).raise _ _ _) fun _ h => h.raise _ _ _
  · exact h

theorem handGap (d : DoorNo) (z : ZoneId) : EdgeKept X s (t.handGap d z) := by
  unfold State.handGap
  split
  · exact h.handProofOfZone _
  · exact h

/-- A zone record is written whose state stays. -/
theorem setZone_quiet {d : DoorNo} {z : ZoneId} {r : ZoneRec} (quiet : z.isGap = true → r.state = t.zoneState d z) :
    EdgeKept X s (t.setZone d z (some r)) :=
  h.setZones (fun _ => id) (.inr (State.gapsClear_setZone fun gap _ => quiet gap))

/-- A zone record is written, its berths excused. -/
theorem setZone_excused (d : DoorNo) (z : ZoneId) (r : Option ZoneRec) :
    EdgeKept (fun b => X b ∨ InSpan t b d) s (t.setZone d z r) :=
  h.setZones (fun _ => .inl) (.inl fun _ => .inr)

/-- A zone record is written and handed to the Berth Unit (R168). -/
theorem setZone_handGap (d : DoorNo) (z : ZoneId) (r : ZoneRec) : EdgeKept X s ((t.setZone d z (some r)).handGap d z) := by
  unfold State.handGap
  split
  · refine (h.setZone_excused d z (some r)).settleZone fun b => Or.imp_right fun here => ?_
    have berth : (t.setZone d z (some r)).berth b = t.berth b := by cases b <;> rfl
    rw [berth]
    exact inSpan_iff.mp here
  next idle =>
    refine h.setZones (fun _ => id) (.inr (State.gapsClear_setZone fun gap serves => absurd ⟨gap, ?_⟩ idle))
    exact bne_iff_ne.mpr serves

/-- A zone record is written, its change handed on as sensed (R165 to R168, R170). -/
theorem setZone_handSensed (d : DoorNo) (z : ZoneId) (r : ZoneRec) (p : SensingProfile) (occupied : Bool) :
    EdgeKept X s ((t.setZone d z (some r)).handSensed d z p occupied) := by
  cases gap : z.isGap with
  | true =>
    rw [State.handSensed_gap _ _ _ gap]
    refine ((h.setZone_excused d z (some r)).gapSensed d z p occupied).settleZone fun b => Or.imp_right fun here => ?_
    have span := ((EdgeKept.refl X (t.setZone d z (some r))).gapSensed d z p occupied).berth b |>.span
    have berth : (t.setZone d z (some r)).berth b = t.berth b := by cases b <;> rfl
    have pdt := State.pdt_congr (State.ts_of_ground ((t.setZone d z (some r)).gapSensed_ground d z p occupied)) d
    unfold State.zoneOf Berth.spans
    rw [span, berth, pdt]
    exact inSpan_iff.mp here
  | false =>
    rw [State.handSensed_outer _ _ _ gap]
    have written : EdgeKept X s (t.setZone d z (some r)) := h.setZone_quiet fun on => by rw [gap] at on; exact absurd on (by decide)
    exact written.onlyIf (act := (State.reopenTrigger · d)) fun _ h => h.reopenTrigger d

theorem sampleZone (d : DoorNo) (bit : Bool) (z : ZoneId) : EdgeKept X s (t.sampleZone d bit z) := by
  unfold State.sampleZone
  split
  next r p stands _ =>
    split
    · exact h
    · dsimp only
      have raised : ∀ (u : State) (x : ZoneRec), (u.setZone d z (some x)).raise .zoneStuck d.val (enc1 z.idx.val)
          = (u.raise .zoneStuck d.val (enc1 z.idx.val)).setZone d z (some x) := by
        intro u x
        rw [State.raise_eq_tell, State.raise_eq_tell]
        rfl
      have state := State.zoneState_of_zone stands
      split
      · split
        · rw [raised]; exact (h.raise _ _ _).setZone_handGap d z _
        · exact ((h.setZone_handSensed d z _ p _).raise _ _ _).handGap d z
      · split
        next same => exact h.setZone_quiet fun _ => by rw [state]; exact same.symm
        next => exact h.setZone_handSensed d z _ p _
  · exact h
theorem takeSensors (d : DoorNo) (r : Reply) : EdgeKept X s (t.takeSensors d r) :=
  h.foldl (fun _ z h => h.sampleZone d _ z) _

/-- A zone record replaced, and handed on where its state changed. -/
theorem rezone {d : DoorNo} {z : ZoneId} (r : ZoneRec) {same : Prop} [Decidable same] (quiet : same → t.zoneState d z = r.state) :
    EdgeKept X s (if same then t.setZone d z (some r) else (t.setZone d z (some r)).handGap d z) := by
  split
  next stays => exact h.setZone_quiet fun _ => (quiet stays).symm
  next => exact h.setZone_handGap d z r
theorem forceZones (d : DoorNo) : EdgeKept X s (t.forceZones d) := by
  refine h.foldl (fun u z h => ?_) _
  dsimp only
  split
  next r stands => exact h.rezone _ fun occupied => (State.zoneState_of_zone stands).trans occupied
  next => exact h
theorem recoverZones (d : DoorNo) : EdgeKept X s (t.recoverZones d) := by
  refine h.foldl (fun u z h => ?_) _
  dsimp only
  split
  next r stands => exact h.rezone _ fun clear => (State.zoneState_of_zone stands).trans clear
  next => exact h
theorem stuckClear (d : DoorNo) : EdgeKept X s (t.stuckClear d) := by
  refine h.foldl (fun u z h => ?_) _
  split
  · exact h.onlyIf (act := fun u => (u.setZone d z (some _)).handGap d z) fun _ h => h.setZone_handGap d z _
  · exact h

theorem trip (d : DoorNo) (c : DriveClass) (cause : TripCause) (i : Nat) : EdgeKept X s (t.trip d c cause i) :=
  h.doorEvent (((Reworked.refl d t).setDoor _).raise _ _ _).tripDoor.act
theorem takeCurrent (d : DoorNo) (i : Nat) : EdgeKept X s (t.takeCurrent d i) := by
  unfold State.takeCurrent
  dsimp only
  split
  · exact h
  · split
    · exact h
    · split
      · exact h.setDoor rfl
      · split
        · exact h.trip d _ _ i
        · split
          · split
            · exact h.trip d _ _ i
            · exact h.setDoor rfl
          · exact h.setDoor rfl
theorem clampEffort (d : DoorNo) : EdgeKept X s (t.clampEffort d) := by
  rw [State.clampEffort_eq]; exact h.setDoor rfl

/-! ## Berths (R48 to R66) -/

/-- Fields of a berth that is not VACANT are written beside its state, span, permit and proof timer. -/
theorem rewriteBerth {b : BerthId} {r : Berth} (occupied : (t.berth b).state ≠ .vacant) (state : r.state = (t.berth b).state)
    (span : r.span = (t.berth b).span) (permit : r.permit = (t.berth b).permit)
    (timer : r.proofTimer = (t.berth b).proofTimer) : EdgeKept X s (t.setBerth b r) :=
  h.setBerth (.occupied occupied (by rw [state]; exact occupied) span fun good => by
    unfold Berth.PermitGood; rw [permit, state, timer]; exact good) (.inl state)

/-- A berth passes between ANNOUNCED and BERTHED. -/
theorem moveBerth {b : BerthId} {r : Berth} (before : (t.berth b).state = .announced ∨ (t.berth b).state = .berthed)
    (after : r.state = .announced ∨ r.state = .berthed) (span : r.span = (t.berth b).span) (permit : r.permit = (t.berth b).permit)
    (timer : r.proofTimer = (t.berth b).proofTimer) : EdgeKept X s (t.setBerth b r) := by
  have idle : ∀ {q : Berth}, q.state = .announced ∨ q.state = .berthed → ¬ q.Active ∧ q.state ≠ .vacant := by
    rintro q (e | e) <;> exact ⟨by unfold Berth.Active; rw [e]; decide, by rw [e]; decide⟩
  obtain ⟨idleBefore, occupied⟩ := idle before
  obtain ⟨idleAfter, occupied'⟩ := idle after
  refine h.setBerth (.occupied occupied occupied' span fun good => ?_) (.inr (.inl idleAfter))
  rw [Berth.permitGood_of_idle idleBefore] at good
  rw [Berth.permitGood_of_idle idleAfter, permit, timer]
  exact good

theorem giveOverrides (d : DoorNo) : EdgeKept X s (t.giveOverrides d) := by
  unfold State.giveOverrides
  refine onlyIf (act := (State.addReason · d .evac)) ?_ fun _ h => h.addReason d _
  exact h.onlyIf (act := (State.addReason · d .fire)) fun _ h => h.addReason d _
theorem computeAlignment {b : BerthId} (occupied : (t.berth b).state ≠ .vacant) : EdgeKept X s (t.computeAlignment b) := by
  rw [State.computeAlignment_eq]
  exact (h.rewriteBerth (r := t.computed b) occupied rfl rfl rfl rfl).forDoors (fun _ d h => h.giveOverrides d) _
theorem computeAt {b : BerthId} (occupied : (t.berth b).state ≠ .vacant) (e : Int) : EdgeKept X s (t.computeAt b e) :=
  (h.rewriteBerth (r := { t.berth b with eUsed := some e }) occupied rfl rfl rfl rfl).computeAlignment
    (by rw [State.berth_setBerth_same]; exact occupied)

theorem shutDoors (ds : List DoorNo) (ks : List Reason) : EdgeKept X s (t.shutDoors ds ks) :=
  (h.forDoors (fun _ d h => h.removeReasons d ks) ds).forDoors (fun _ d h => h.latchReset d) ds

/-- A RELEASE, from BERTHED or PROVEN (R57): a PROVEN berth's permit is withdrawn. -/
theorem releaseBerth {b : BerthId} (state : (t.berth b).state = .berthed ∨ (t.berth b).state = .proven) :
    EdgeKept X s (t.releaseBerth b) := by
  have kept : BerthKept (t.berth b) (t.berth b).releasedRec := by
    refine .occupied ?_ (by rw [Berth.releasedRec_state]; decide) ?_ fun good => ?_
    · rcases state with e | e <;> rw [e] <;> decide
    · unfold Berth.releasedRec; split <;> rfl
    · obtain ⟨permit, timer⟩ := good
      unfold Berth.PermitGood Berth.releasedRec
      rcases state with e | e <;> rw [e] at permit timer ⊢
      · exact ⟨by simpa using permit, by simpa using timer⟩
      · exact ⟨by simp, by simpa using timer⟩
  have released : EdgeKept X s (t.toRelease b) := (h.setBerth kept (.inr (.inl (Berth.releasedRec_idle _)))).tell _
  rw [State.releaseBerth_eq]
  exact ((released.forDoors (fun _ d h => h.addReason d _) _).reportBerthNow b).offerBerthStatus b

/-- A RELEASED berth goes to PROVING; until it is evaluated its proof is excused (R62, R63). -/
theorem enterProving {b : BerthId} (released : (t.berth b).state = .released) (c : CloseCause) :
    EdgeKept (fun a => X a ∨ a = b) s (t.enterProving b c) := by
  refine (h.excuse (Y := fun a => X a ∨ a = b) fun _ => .inl).setBerth ?_ (.inr (.inr (.inr rfl)))
  refine .occupied (by rw [released]; decide) (by simp) rfl fun good => ?_
  unfold Berth.PermitGood at good ⊢
  rw [released] at good
  simpa using good.1
/-- A RELEASED berth closed: through PROVING, and evaluated. -/
theorem prove {b : BerthId} (released : (t.berth b).state = .released) (c : CloseCause) :
    EdgeKept X s ((t.enterProving b c).finishProving b) := (h.enterProving released c).settleProving fun _ => id

theorem protectiveClose {b : BerthId} (released : (t.berth b).state = .released) (c : CloseCause) {step : State → State}
    (stepped : ∀ (Y : BerthId → Prop) (u : State), (u.berth b).state ≠ .vacant → EdgeKept Y s u → EdgeKept Y s (step u)) :
    EdgeKept X s (t.protectiveClose b c step) := by
  have unreleased : EdgeKept X s (t.unreleased b) := h.forDoors (fun _ d h => h.putReason d false _) _
  have proving := unreleased.enterProving (b := b) (by rw [State.unreleased_berth released]; exact released) c
  rw [State.protectiveClose_eq]
  refine (stepped _ _ ?_ proving).settleProving fun _ => id
  rw [State.enterProving_unreleased released]
  exact BerthState.noConfusion

theorem actOnReport (b : BerthId) (e : Int) (standstill : Bool) : EdgeKept X s (t.actOnReport b e standstill) := by
  unfold State.actOnReport
  dsimp only
  split
  next announced =>
    split
    · have computed := h.computeAt (b := b) (by rw [announced]; decide) e
      have berthed := computed.moveBerth (b := b) (r := { (t.computeAt b e).berth b with state := .berthed }) ?_ (.inr rfl) rfl rfl rfl
      · exact (berthed.reportBerthNow b).offerBerthStatus b
      have used : ((t.withUsed b e).berth b).state = .announced := by
        rw [State.withUsed, State.berth_setBerth_same]; exact announced
      rw [State.computeAt_eq, State.computeAlignment_berth (Berth.not_active (by rw [used]; decide) (by rw [used]; decide))]
      exact .inl used
    · exact h
  next berthed =>
    split
    · exact (h.computeAt (by rw [berthed]; decide) e).offerBerthStatus b
    · have announced := h.moveBerth (r := { (t.berth b).clearAlignment with state := .announced }) (.inr berthed) (.inl rfl) rfl rfl rfl
      exact (announced.reportBerthNow b).offerBerthStatus b
  next released =>
    split
    · exact h.protectiveClose released _ fun _ _ occupied h => h.rewriteBerth occupied rfl rfl rfl rfl
    · split
      · refine h.protectiveClose released _ fun _ u occupied h => (h.raise _ _ _).computeAt ?_ e
        rw [State.raise_eq_tell, State.tell_berth]
        exact occupied
      · exact h
  all_goals exact h

end
end EdgeKept

end Sys2Proof.Machine

namespace Sys2Proof.Machine

namespace EdgeKept

section
variable {X : BerthId → Prop} {s t : State} (h : EdgeKept X s t)
include h

/-! ## Ring test and overrides (R103 to R110, R172 to R192), as the invariants of the edge see them -/

theorem judgeTest (sel : SlotNo → Option Reply) : EdgeKept X s (t.judgeTest sel) := by
  unfold State.judgeTest
  dsimp only
  split
  · split
    · exact (h.setTest _).offer _
    · exact h.setTest _
  · exact h
theorem abortTest : EdgeKept X s t.abortTest := by
  unfold State.abortTest
  dsimp only
  split
  · exact (h.setDrm _).offer _
  · exact h
theorem enterMode {k : OverrideKind} (vacant : k = .maint → ∀ b, (t.berth b).state = .vacant) : EdgeKept X s (t.enterMode k) := by
  have entered : EdgeKept X s { t with ou := { t.ou with list := t.ou.list ++ [k] } } := h.setList _ fun maint => by
    rcases List.mem_append.mp maint with still | new
    · exact .inl still
    · exact .inr (vacant (List.mem_singleton.mp new).symm)
  have raised : EdgeKept X s (State.raiseMode { t with ou := { t.ou with list := t.ou.list ++ [k] } } k 0) := entered.raise _ _ _
  unfold State.enterMode
  dsimp only
  split
  · exact raised.abortTest
  · exact raised
theorem leaveMode (k : OverrideKind) : EdgeKept X s (t.leaveMode k) := by
  have left : EdgeKept X s { t with ou := { t.ou with list := t.ou.list.filter (· != k) } } :=
    h.setList _ fun maint => .inl (List.mem_of_mem_filter maint)
  have raised : EdgeKept X s (State.raiseMode { t with ou := { t.ou with list := t.ou.list.filter (· != k) } } k 1) :=
    left.raise _ _ _
  unfold State.leaveMode
  dsimp only
  split
  · exact raised.abortTest
  · exact raised
theorem leaveMaint : EdgeKept X s t.leaveMaint := by
  refine EdgeKept.forDoors (EdgeKept.leaveMode ?_ _) (fun _ d h => h.putReason d false _) _
  split
  · exact h.leaveMode _
  · exact h
theorem enterEvac : EdgeKept X s t.enterEvac := (h.enterMode (k := .evac) nofun).forDoors (fun _ d h => h.addReason d _) _
theorem enterFire : EdgeKept X s t.enterFire := by
  unfold State.enterFire
  split
  · exact h
  · exact (h.enterMode (k := .fire) nofun).forDoors (fun _ d h => h.addReason d _) _
theorem leaveFire : EdgeKept X s t.leaveFire := by
  unfold State.leaveFire
  split
  · exact h.leaveMode _
  · exact h
theorem takeFire : EdgeKept X s t.takeFire := by
  unfold State.takeFire
  dsimp only
  split
  · exact h
  · split
    · exact EdgeKept.enterFire (h.same rfl)
    · exact EdgeKept.leaveFire (h.same rfl)

theorem takeKey (d : DoorNo) (on : Bool) : EdgeKept X s (t.takeKey d on) := by
  unfold State.takeKey
  split
  · exact h.setKey d _
  · exact h.setKey d _
  · split
    · exact (h.addReason d _).setKey d _
    · exact (h.setKey d _).raise _ _ _
  · exact h
  · exact h
  · exact h
  · exact (h.putReason d _ _).setKey d _
  · exact (h.putReason d _ _).setKey d _
theorem loseKey (d : DoorNo) : EdgeKept X s (t.loseKey d) := (h.putReason d _ _).setKey d _

theorem panelClose (z : Zone) : EdgeKept X s (t.panelClose z) := by
  have shut := h.shutDoors (t.panelDoors z) panelCloseReasons
  unfold State.panelClose
  dsimp only
  split
  · exact h
  · split
    · split
      next released => exact shut.prove released _
      next => exact shut
    · exact shut
theorem resetDoor (d : DoorNo) : EdgeKept X s (t.resetDoor d) := by
  refine EdgeKept.stuckClear ?_ d
  split
  · exact h.latchReset d
  · exact h.faultClear d
  · exact h
theorem panelReset (z : Zone) : EdgeKept X s (t.panelReset z) := h.forDoors (fun _ d h => h.resetDoor d) _
theorem panelOpen (z : Zone) : EdgeKept X s (t.panelOpen z) := by
  unfold State.panelOpen
  split
  · refine h.forDoors (fun u d h => ?_) _
    split
    · exact h.addReason d _
    · exact h
  · split
    next b _ =>
      split
      next releasable =>
        refine h.releaseBerth ?_
        simp only [Berth.releasable, Bool.and_eq_true, Bool.or_eq_true, beq_iff_eq] at releasable
        obtain ⟨-, state⟩ := releasable
        exact state.imp_right And.left
      next => exact h
    next => exact h
theorem panelReply (z : Zone) (r : Reply) : EdgeKept X s (t.panelReply z r) := by
  unfold State.panelReply
  split
  · exact h
  · dsimp only
    split
    · exact h.setPanel z _
    · refine EdgeKept.onlyIf (act := (State.panelOpen · z)) ?_ fun _ h => h.panelOpen z
      refine EdgeKept.onlyIf (act := (State.panelReset · z)) ?_ fun _ h => h.panelReset z
      exact EdgeKept.onlyIf (act := (State.panelClose · z)) (h.setPanel z _) fun _ h => h.panelClose z
theorem refitPanel (z : Zone) : EdgeKept X s (t.refitPanel z) := by
  rw [State.refitPanel_eq]; exact h.setPanel z _

/-! ## The ring cycle (R88 to R101) -/

/-- Every door record is written, each with its state as it was. -/
theorem setDoors {x : Vector Door 48} (state : ∀ d : DoorNo, x[d].state = (t.door d).state) :
    EdgeKept X s { t with doors := x } :=
  h.more rfl id (fun b => by cases b <;> exact .refl _) fun b free kept before =>
    (kept free before).congr (by cases b <;> rfl) (proofHolds_of_spanDoors (by cases b <;> rfl) rfl rfl fun d _ =>
      gapsClear_congr (state d) fun _ => rfl)
theorem countRing : EdgeKept X s t.countRing := by
  refine h.setDoors fun d => ?_
  rw [Fin.getElem_fin, Vector.getElem_ofFn]
  split <;> rfl
theorem judgeRing : EdgeKept X s t.judgeRing := by
  unfold State.judgeRing
  dsimp only
  split
  · exact h
  · exact (h.setDrm _).raise _ _ _
theorem handReply (d : DoorNo) (r : Reply) : EdgeKept X s (t.handReply d r) :=
  (((h.takeSensors d r).takeCurrent d _).applyStatus d _ _).takeKey d _
theorem handDoorSlot (d : DoorNo) (x : Handing) : EdgeKept X s (t.handDoorSlot d x) := by
  unfold State.handDoorSlot
  split
  · exact h
  · exact h.handReply d _
  · exact (((h.raise _ _ _).commLostNotice d).forceZones d).loseKey d
  · exact (((h.raise _ _ _).recoverZones d).readoptEvent d _ _ _).handReply d _
theorem handKeyAlone (d : DoorNo) (sel : Option Reply) : EdgeKept X s (t.handKeyAlone d sel) := by
  unfold State.handKeyAlone
  split
  · exact h.setDoor rfl
  · exact h
theorem handPanelSlot (z : Zone) (x : Handing) : EdgeKept X s (t.handPanelSlot z x) := by
  unfold State.handPanelSlot
  split
  · exact h
  · exact h.panelReply z _
  · exact (h.raise _ _ _).setPanel z _
  · exact (h.raise _ _ _).panelReply z _
theorem handSlot (i : SlotNo) (x : Option Handing) (sel : Option Reply) : EdgeKept X s (t.handSlot i x sel) := by
  unfold State.handSlot
  split
  · exact h.handDoorSlot _ _
  · exact h.handKeyAlone _ sel
  · exact h.handPanelSlot _ _
  · exact h
theorem startCycle (n : BitVec 8) : EdgeKept X s (t.startCycle n) := by
  rw [State.startCycle_frame]; exact h.same rfl
theorem closeSelections : EdgeKept X s t.closeSelections :=
  ((((h.setDrm _).countRing).setDrm _).judgeRing).judgeTest _
theorem closeCycle (order : List SlotNo) : EdgeKept X s (t.closeCycle order) :=
  (h.closeSelections.foldl (fun _ i h => h.handSlot i _ _) _).startCycle _

/-! ## The end of a save, and the owners of the requests that bring no train and take none away (R26) -/

theorem answerSave (result : Byte) : EdgeKept X s (t.answerSave result) := h.answer _ _ _
theorem failSave : EdgeKept X s t.failSave := by
  have idle : EdgeKept X s { t with ts := { t.ts with saveState := .idle } } := h.same rfl
  exact idle.answerSave _
theorem succeedSave : EdgeKept X s t.succeedSave := by
  unfold State.succeedSave
  refine EdgeKept.answerSave ?_ _
  split
  · exact EdgeKept.judgeLoops (h.same rfl)
  · exact h.same rfl

theorem stopReport (p : List Byte) : EdgeKept X s (t.stopReport p).1 := by
  unfold State.stopReport
  split
  · exact h
  · exact h
  · split
    · exact h
    next occupied => exact (h.rewriteBerth (r := (t.berth _).store _ _) occupied rfl rfl rfl rfl).actOnReport _ _ _
theorem release (p : List Byte) : EdgeKept X s (t.release p).1 := by
  unfold State.release
  split
  · exact h
  · exact h
  · dsimp only
    split
    · exact h
    next state =>
      iterate 3 (split; · exact h)
      exact h.releaseBerth (or_iff_not_imp_left.mpr fun off => by_contra fun off' => state ⟨off, off'⟩)
theorem close (p : List Byte) : EdgeKept X s (t.close p).1 := by
  unfold State.close
  split; · exact h
  next b _ =>
  split; · exact h
  split
  · exact h
  · exact h
  · exact h
  next released =>
    refine (h.shutDoors _ _).prove ?_ _
    rw [(t.shutDoors_worked _ _).berth (Berth.not_active (by rw [released]; decide) (by rw [released]; decide))]
    exact released
  · exact h.shutDoors _ _
  · exact h.shutDoors _ _
theorem evacuate (p : List Byte) : EdgeKept X s (t.evacuate p).1 := by
  unfold State.evacuate
  split
  · exact h
  · iterate 2 (split; · exact h)
    exact h.enterEvac
  · split
    · exact h.leaveMode .evac
    · exact h
theorem berthQuery (p : List Byte) : EdgeKept X s (t.berthQuery p).1 := by
  unfold State.berthQuery
  split <;> exact h
theorem alignDetail (p : List Byte) : EdgeKept X s (t.alignDetail p).1 := by
  unfold State.alignDetail
  split; · exact h
  iterate 2 (split; · exact h)
  exact h
theorem doorQuery (p : List Byte) : EdgeKept X s (t.doorQuery p).1 := by
  unfold State.doorQuery
  split
  · exact h
  · exact h.same rfl
theorem edgeQuery : EdgeKept X s t.edgeQuery.1 := by
  unfold State.edgeQuery
  dsimp only
  split
  · exact h.same rfl
  · exact h
theorem tableRead (p : List Byte) : EdgeKept X s (t.tableRead p).1 := by rw [State.tableRead_fst]; exact h
theorem setProfile (id : Fin 16) (q : StockProfile) : EdgeKept X s (t.setProfile id q) := h.same rfl
theorem profileBegin (p : List Byte) : EdgeKept X s (t.profileBegin p).1 := by
  rw [State.profileBegin_eq]
  exact h.unlessRefused _ (h.setProfile _ _)
theorem profileCar (p : List Byte) : EdgeKept X s (t.profileCar p).1 := by
  rw [State.profileCar_eq]
  exact h.unlessRefused _ (h.setProfile _ _)
theorem profileDelete (p : List Byte) : EdgeKept X s (t.profileDelete p).1 := by
  rw [State.profileDelete_eq]
  exact h.unlessRefused _ (h.setProfile _ _)
theorem storeSave : EdgeKept X s t.storeSave.1 := by
  unfold State.storeSave
  iterate 2 (split; · exact h)
  exact h.same rfl
theorem modeEnter (p : List Byte) : EdgeKept X s (t.modeEnter p).1 := by
  unfold State.modeEnter
  split
  · exact h
  next k _ =>
    iterate 2 (split; · exact h)
    split
    · exact h
    next free =>
      split
      · exact h
      · refine h.enterMode fun maint b => by_contra fun occupied => free ⟨maint, ?_⟩
        cases b
        · exact .inl occupied
        · exact .inr occupied
theorem modeExit (p : List Byte) : EdgeKept X s (t.modeExit p).1 := by
  unfold State.modeExit
  split; · exact h
  split; · exact h
  split
  · dsimp only; exact h.leaveMaint
  · exact h.leaveMode _
theorem doorCommand (p : List Byte) : EdgeKept X s (t.doorCommand p).1 := by
  unfold State.doorCommand
  split; · exact h
  iterate 4 (split; · exact h)
  split
  · exact h.addReason _ _
  · exact (h.putReason _ _ _).latchReset _
theorem resetLatch (p : List Byte) : EdgeKept X s (t.resetLatch p).1 := by
  unfold State.resetLatch
  split
  · exact h
  · dsimp only; exact h.resetDoor _
theorem ringTestStart : EdgeKept X s t.ringTestStart.1 := by
  unfold State.ringTestStart
  split
  · exact h
  · exact h.setDrm _
theorem ringTestStop : EdgeKept X s t.ringTestStop.1 := by
  unfold State.ringTestStop
  split
  · exact h
  · exact h.abortTest
theorem ringTestInsert (p : List Byte) : EdgeKept X s (t.ringTestInsert p).1 := by
  unfold State.ringTestInsert
  split; · exact h
  dsimp only
  iterate 2 (split; · exact h)
  exact h.setTest _
theorem ringTestResult (p : List Byte) : EdgeKept X s (t.ringTestResult p).1 := by rw [State.ringTestResult_fst]; exact h
theorem eventAck (p : List Byte) : EdgeKept X s (t.eventAck p).1 := by
  unfold State.eventAck
  split
  · exact h
  · exact h
  · exact h
  · exact h.setEr _
  · exact h.setEr _
theorem eventMask (p : List Byte) : EdgeKept X s (t.eventMask p).1 := h.setEr _
theorem takeSnapshot : EdgeKept X s t.takeSnapshot := by
  have zeroed : EdgeKept X s { t with doors := t.doors.map fun r => { r with counters := .zero } } := h.setDoors fun d => by
    rw [Fin.getElem_fin, Vector.getElem_map]
    rfl
  exact (zeroed.setLli _).setEr _
theorem counterRead (p : List Byte) : EdgeKept X s (t.counterRead p).1 := by rw [State.counterRead_fst]; exact h

/-! ## The link (R23, R24, R32, R33) -/

theorem offerEdgeStatus : EdgeKept X s t.offerEdgeStatus := by
  unfold State.offerEdgeStatus
  split <;> exact h.same rfl
theorem recoverLink : EdgeKept X s t.recoverLink :=
  EdgeKept.offerBerthStatus (EdgeKept.offerBerthStatus (EdgeKept.offerEdgeStatus (h.setLli _)) .A) .B
theorem superviseLink : EdgeKept X s t.superviseLink := by
  unfold State.superviseLink
  dsimp only
  split
  · exact h.setLli _
  · split
    · exact h.setLli _
    · exact (h.setLli _).recoverLink
theorem takeRun (run : List Byte) : EdgeKept X s (t.takeRun run) := by
  unfold State.takeRun
  split
  · exact h.setLli _
  · exact h.setLli _
  · dsimp only
    split
    · exact h.superviseLink.setLli _
    · exact h.superviseLink
theorem expireLink : EdgeKept X s t.expireLink := by
  unfold State.expireLink
  split <;> exact h.same rfl

end

/-! ## Table writes (R4 to R11), which only come with both berths VACANT

Their proofs are excused: that of a VACANT berth is sound. -/

section
variable {s t : State} (h : EdgeKept (fun _ => True) s t)
include h

theorem setTables (x : Tables) : EdgeKept (fun _ => True) s (t.setTables x) :=
  h.more rfl id (fun b => by cases b <;> exact .refl _) fun _ free => absurd trivial free
theorem putZones (d : DoorNo) (x : DoorZones) : EdgeKept (fun _ => True) s (t.setZones d x) :=
  h.setZones (fun _ => id) (.inl fun _ _ => trivial)
theorem applyProfile (d : DoorNo) : EdgeKept (fun _ => True) s (t.applyProfile d) := by
  rw [State.applyProfile_eq]; exact h.putZones d _
theorem refitZones (d : DoorNo) : EdgeKept (fun _ => True) s (t.refitZones d) := by
  obtain ⟨x, e⟩ := t.refitZones_frame d
  rw [e]; exact h.putZones d x

theorem writePdt (d : DoorNo) (e : PdtEntry) : EdgeKept (fun _ => True) s (t.writePdt d e) := by
  have written := h.setTables { t.ts.tables with pdt := t.ts.tables.pdt.set d e }
  unfold State.writePdt
  dsimp only
  split
  · exact h
  · refine EdgeKept.handProofOfZone (EdgeKept.judgeLoops ?_) _
    refine EdgeKept.onlyIf (act := (State.applyProfile · d)) ?_ fun _ h => h.applyProfile d
    refine EdgeKept.onlyIf (act := (State.refitZones · d)) ?_ fun _ h => h.refitZones d
    refine EdgeKept.onlyIf (act := (State.clampEffort · d)) ?_ fun _ h => h.clampEffort d
    split
    · exact written.pdtOut d
    · exact EdgeKept.onlyIf (act := (State.pdtIn · d)) written fun _ h => h.pdtIn d
theorem writeClass (i : Fin 4) (c : DriveClass) : EdgeKept (fun _ => True) s (t.writeClass i c) := by
  unfold State.writeClass
  dsimp only
  split
  · exact (h.setTables _).forDoors (fun _ d h => h.clampEffort d) _
  · exact h.setTables _
theorem writeSensing (i : Fin 8) (p : SensingProfile) : EdgeKept (fun _ => True) s (t.writeSensing i p) :=
  (h.setTables _).forDoors (fun _ d h => h.applyProfile d) _
theorem writeSettings (c : Settings) : EdgeKept (fun _ => True) s (t.writeSettings c) := by
  have settings : EdgeKept (fun _ => True) s (t.withSettings c) := by
    refine h.more (by rw [State.withSettings_frame]) (by rw [State.withSettings_frame]; exact id) (fun b => ?_)
      fun _ free => absurd trivial free
    rw [State.withSettings_frame]
    cases b <;> exact .refl _
  rw [State.writeSettings_eq]
  exact ((settings.refitPanel _).refitPanel _).judgeLoops

theorem writeEntry (x : TableId) (i : Nat) (p : List Byte) : EdgeKept (fun _ => True) s (t.writeEntry x i p).1 := by
  cases x <;> simp only [State.writeEntry]
  case pdt =>
    split
    · exact h
    · exact h
    · exact h.writePdt _ _
  case driveClass =>
    split
    · exact h
    · exact h
    · exact h.writeClass _ _
  case sensingProfile =>
    split
    · exact h
    · exact h
    · exact h.writeSensing _ _
  case settings =>
    split
    · exact h
    · split
      · exact h.writeSettings _
      · exact h
  case profile => exact h
  case store => exact h

end
end EdgeKept

end Sys2Proof.Machine

namespace Sys2Proof.Machine

/-! # The permits, the proof, the occupancy and the VACANT records over one step (O54, O55) -/

/-- From `s` to `t` each of the four invariants of the berths is kept. -/
structure EdgeInvKept (s t : State) : Prop where
  permit : PermitInv s → PermitInv t
  proof : ProofInv s → ProofInv t
  occupancy : OccupancyInv s → OccupancyInv t
  vacant : VacantInv s → VacantInv t

theorem EdgeInvKept.refl (s : State) : EdgeInvKept s s := ⟨id, id, id, id⟩
theorem EdgeInvKept.trans {s t u : State} (h : EdgeInvKept s t) (k : EdgeInvKept t u) : EdgeInvKept s u :=
  ⟨k.permit ∘ h.permit, k.proof ∘ h.proof, k.occupancy ∘ h.occupancy, k.vacant ∘ h.vacant⟩

/-- The proof of every berth is sound while the part runs, and both berths are VACANT before. -/
theorem proofInv_iff {s : State} : ProofInv s
    ↔ ∀ b, (s.phase = .running → ProofSound s b) ∧ (s.phase ≠ .running → (s.berth b).state = .vacant) := .rfl

theorem Span.overlaps_comm (x y : Span) : x.overlaps y = y.overlaps x := by cases x <;> cases y <;> rfl

/-- The occupancy, the two berths taken alike. -/
theorem occupancyInv_iff {s : State} : OccupancyInv s ↔
    (.maint ∈ s.ou.list → ∀ b, (s.berth b).state = .vacant) ∧ (∀ b, (s.berth b).state ≠ .vacant → (s.berth b).span ≠ none)
      ∧ ∀ (b : BerthId) (x y : Span), (s.berth b).state ≠ .vacant → (s.berth (otherBerth b)).state ≠ .vacant →
          (s.berth b).span = some x → (s.berth (otherBerth b)).span = some y → x.overlaps y = false := by
  refine and_congr (imp_congr_right fun _ => ⟨fun ⟨a, b⟩ c => ?_, fun h => ⟨h .A, h .B⟩⟩)
    (and_congr_right fun _ => ⟨fun h b x y => ?_, fun h => h .A⟩)
  · cases c
    · exact a
    · exact b
  · cases b
    · exact h x y
    · intro occupied occupied' span span'
      rw [Span.overlaps_comm]
      exact h y x occupied' occupied span' span

/-- An operation under which no berth comes or goes keeps the invariants, where it excuses only berths that are VACANT. -/
theorem EdgeKept.keeps {X : BerthId → Prop} {s t : State} (h : EdgeKept X s t) (excused : ∀ b, X b → (s.berth b).state = .vacant) :
    EdgeInvKept s t where
  permit inv b := (h.berth b).permit (inv b)
  proof inv := by
    rw [proofInv_iff] at inv ⊢
    rw [h.phase]
    refine fun b => ⟨fun running => ?_, fun still => (h.berth b).vacant.mpr ((inv b).2 still)⟩
    by_cases vacant : (s.berth b).state = .vacant
    · exact proofSound_of_idle (Berth.not_active_of_vacant ((h.berth b).vacant.mpr vacant))
    · exact h.sound b (fun off => vacant (excused b off)) ((inv b).1 running)
  occupancy inv := by
    rw [occupancyInv_iff] at inv ⊢
    obtain ⟨maint, spans, apart⟩ := inv
    simp only [ne_eq, fun b => (h.berth b).vacant, fun b => (h.berth b).span]
    exact ⟨fun on => (h.maint on).elim maint id, spans, apart⟩
  vacant inv b vacant := (h.berth b).reset (inv b ((h.berth b).vacant.mp vacant))

/-- The same with no berth excused. -/
theorem EdgeKept.invariants {s t : State} (h : EdgeKept (fun _ => False) s t) : EdgeInvKept s t := h.keeps fun _ => False.elim

/-! ## A berth that comes or goes (R48, R64 to R66) -/

/-- What is looked at of a state in which one berth's record was replaced and told. -/
theorem State.moved_edge (s : State) (b : BerthId) (r : Berth) (ts : List Telegram) :
    (s.moved b r ts).phase = s.phase ∧ (s.moved b r ts).ou.list = s.ou.list
      ∧ ∀ c, c ≠ b → (s.moved b r ts).berth c = s.berth c := by
  refine ⟨by cases b <;> rfl, by cases b <;> rfl, fun c ne => ?_⟩
  rw [eq_otherBerth ne, State.moved_other]

theorem State.moved_sound {s : State} {b c : BerthId} (ne : c ≠ b) (r : Berth) (ts : List Telegram) (h : ProofSound s c) :
    ProofSound (s.moved b r ts) c := by
  obtain ⟨-, -, other⟩ := s.moved_edge b r ts
  exact h.congr (by rw [other c ne]) (proofHolds_of_berthsOnly (s.moved_only b r ts) (by rw [other c ne]))

/-- A berth's record is replaced and told by one whose proof is neither awaited nor held, which fits the occupancy and the phase, and
which is the reset one where it is VACANT. -/
theorem State.moved_keeps {s : State} {b : BerthId} {r : Berth} {ts : List Telegram} (good : r.PermitGood) (idle : ¬ r.Active)
    (reset : r.state = .vacant → r.afterReset) (running : r.state ≠ .vacant → s.phase = .running)
    (noMaint : r.state ≠ .vacant → .maint ∉ s.ou.list) (spans : r.state ≠ .vacant → r.span ≠ none)
    (apart : ∀ x y, r.state ≠ .vacant → (s.berth (otherBerth b)).state ≠ .vacant → r.span = some x →
      (s.berth (otherBerth b)).span = some y → x.overlaps y = false) : EdgeInvKept s (s.moved b r ts) := by
  obtain ⟨phase, list, other⟩ := s.moved_edge b r ts
  refine ⟨fun inv c => ?_, fun inv => ?_, fun inv => ?_, fun inv c => ?_⟩
  · by_cases e : c = b
    · rw [e, State.moved_berth]; exact good
    · rw [other c e]; exact inv c
  · rw [proofInv_iff] at inv ⊢
    rw [phase]
    intro c
    by_cases e : c = b
    · rw [e]
      refine ⟨fun _ => proofSound_of_idle ?_, fun still => ?_⟩
      · rw [State.moved_berth]; exact idle
      · rw [State.moved_berth]; exact by_contra fun occupied => still (running occupied)
    · rw [other c e]
      exact ⟨fun on => State.moved_sound e r ts ((inv c).1 on), (inv c).2⟩
  · rw [occupancyInv_iff] at inv ⊢
    obtain ⟨maint, spans', apart'⟩ := inv
    rw [list]
    refine ⟨fun on c => ?_, fun c => ?_, fun c x y => ?_⟩
    · by_cases e : c = b
      · rw [e, State.moved_berth]; exact by_contra fun occupied => noMaint occupied on
      · rw [other c e]; exact maint on c
    · by_cases e : c = b
      · rw [e, State.moved_berth]; exact spans
      · rw [other c e]; exact spans' c
    · by_cases e : c = b
      · rw [e, State.moved_berth, State.moved_other]; exact apart x y
      · have back : otherBerth c = b := by rw [eq_otherBerth e]; cases b <;> rfl
        rw [other c e, back, State.moved_berth, eq_otherBerth e, Span.overlaps_comm]
        exact fun occupied occupied' span span' => apart y x occupied' occupied span' span
  · by_cases e : c = b
    · rw [e, State.moved_berth]; exact reset
    · rw [other c e]; exact inv c

/-- A berth becomes VACANT (R64). -/
theorem State.vacated_keeps (s : State) (b : BerthId) (ts : List Telegram) : EdgeInvKept s (s.moved b .vacantRec ts) := by
  have vacant : Berth.vacantRec.state = .vacant := rfl
  exact State.moved_keeps (by unfold Berth.PermitGood; decide) (Berth.not_active_of_vacant vacant) (fun _ => Berth.vacantRec_reset)
    (fun occupied => absurd vacant occupied) (fun occupied => absurd vacant occupied) (fun occupied => absurd vacant occupied)
    fun _ _ occupied => absurd vacant occupied

/-- A train is announced where MAINT is absent and the other berth's span does not overlap (R46, R48). -/
theorem State.announce_keeps {s : State} {b : BerthId} {sp : Span} (running : s.phase = .running) (noMaint : .maint ∉ s.ou.list)
    (apart : s.otherOverlaps b sp = false) (train : Nat) (consist : List TrainUnit) :
    EdgeInvKept s (s.announce b sp train consist) := by
  rw [State.announce_eq]
  refine State.moved_keeps (by simp [Berth.PermitGood, Berth.vacantRec]) (Berth.not_active (by simp) (by simp))
    (fun vacant => by simp at vacant) (fun _ => running) (fun _ => noMaint) (fun _ => by simp) fun x y _ occupied own span => ?_
  obtain rfl : sp = x := by simpa using own
  simpa [State.otherOverlaps, occupied, span, Span.overlaps_comm] using apart

theorem State.cancel_keeps (s : State) (p : List Byte) : EdgeInvKept s (s.cancel p).1 := by
  unfold State.cancel
  split
  · exact .refl s
  · split
    · rw [State.vacate_eq]; exact s.vacated_keeps _ _
    · rw [State.vacate_eq]; exact s.vacated_keeps _ _
    all_goals exact .refl s

theorem State.departed_keeps (s : State) (p : List Byte) : EdgeInvKept s (s.departed p).1 := by
  rw [State.departed_eq]
  split
  · exact .refl s
  · split
    · rw [State.depart_eq]; exact s.vacated_keeps _ _
    · exact .refl s

theorem State.arrival_keeps {s : State} (running : s.phase = .running) (p : List Byte) : EdgeInvKept s (s.arrival p).1 := by
  unfold State.arrival
  split
  · exact .refl s
  · exact .refl s
  · split; · exact .refl s
    split; · exact .refl s
    split; · exact .refl s
    split; · exact .refl s
    next noMaint =>
      split; · exact .refl s
      split; · exact .refl s
      next apart =>
        iterate 2 (split; · exact .refl s)
        exact State.announce_keeps running (fun on => noMaint (by simpa [State.present] using on)) (Bool.eq_false_iff.mpr apart) _ _

/-! ## Table writes, resets, and the end of STARTING -/

theorem State.tableWrite_keeps (s : State) (p : List Byte) : EdgeInvKept s (s.tableWrite p).1 := by
  rw [State.tableWrite_eq]
  cases refusal : tableWriteRefusal s p with
  | some r => exact .refl s
  | none =>
    refine EdgeKept.keeps (X := fun _ => True) ?_ fun b _ => tableWriteRefusal_vacant refusal b
    cases tableAt p 0 with
    | none => exact .refl _ s
    | some t => exact (EdgeKept.refl _ s).writeEntry t _ p

/-- A state with both berths at their reset values, in reset or STARTING, satisfies all four invariants. -/
theorem edgeInv_of_reset {s t : State} (berth : ∀ b, t.berth b = .vacantRec) (phase : t.phase ≠ .running) : EdgeInvKept s t := by
  have vacant : ∀ b, (t.berth b).state = .vacant := fun b => by rw [berth]; rfl
  refine ⟨fun _ b => ?_, fun _ => ?_, fun _ => ?_, fun _ b _ => ?_⟩
  · rw [berth]; decide
  · exact proofInv_iff.mpr fun b => ⟨fun running => absurd running phase, fun _ => vacant b⟩
  · exact occupancyInv_iff.mpr ⟨fun _ => vacant, fun b occupied => absurd (vacant b) occupied,
      fun b _ _ occupied => absurd (vacant b) occupied⟩
  · rw [berth]; exact Berth.vacantRec_reset

theorem State.resetAll_keeps (s : State) {u : State} {ph : Phase} (k : ResetKind) (phase : ph ≠ .running) :
    EdgeInvKept s (u.resetAll ph k) := edgeInv_of_reset (fun b => by cases b <;> rfl) phase

theorem State.startUp_keeps (s u : State) (k : ResetKind) : EdgeInvKept s (u.startUp k) := by
  unfold State.startUp
  split <;> exact s.resetAll_keeps _ (by decide)

/-- The end of STARTING finds both berths VACANT and leaves them so (R217). -/
theorem State.beginWork_keeps {s : State} (starting : s.phase ≠ .running) : EdgeInvKept s s.beginWork := by
  have berth : ∀ b, s.loadTables.berth b = s.berth b := by intro b; rw [State.loadTables_frame]; cases b <;> rfl
  have list : s.loadTables.ou.list = s.ou.list := by rw [State.loadTables_frame]
  have loaded : EdgeInvKept s s.loadTables := by
    refine ⟨fun inv b => ?_, fun inv => ?_, fun inv => ?_, fun inv b => ?_⟩
    · rw [berth]; exact inv b
    · rw [proofInv_iff] at inv ⊢
      have vacant := fun b => (inv b).2 starting
      refine fun b => ⟨fun _ => proofSound_of_idle ?_, fun _ => ?_⟩
      · rw [berth]; exact Berth.not_active_of_vacant (vacant b)
      · rw [berth]; exact vacant b
    · rw [occupancyInv_iff] at inv ⊢
      simp only [list, berth]
      exact inv
    · rw [berth]; exact inv b
  have self : EdgeKept (fun _ => False) s.loadTables s.loadTables := .refl _ _
  exact loaded.trans ((((self.startCycle 0).judgeLoops).takeFire).setEr _).invariants

/-! ## One step -/

/-- The proof timer of a PROVING berth runs out (R62). -/
theorem State.expireProof_keeps {s : State} {b : BerthId} (proving : (s.berth b).state = .proving) :
    EdgeKept (fun _ => False) s (s.setBerth b { s.berth b with proofTimer := .expired }) := by
  have occupied : (s.berth b).state ≠ .vacant := by rw [proving]; decide
  refine (EdgeKept.refl _ s).setBerth (.occupied occupied occupied rfl fun good => ?_) (.inl rfl)
  obtain ⟨permit, -⟩ := good
  exact ⟨permit, by simp [proving]⟩

/-- A request, taken only while the part runs, keeps the invariants where its owner does. -/
theorem State.takeRequest_invariants (s : State) (k : Kind) (src : Byte) (p : List Byte) {owner : State → State × Answer}
    (owned : s.phase = .running → EdgeInvKept s.popRequest (owner s.popRequest).1) : EdgeInvKept s (s.takeRequest k src p owner) := by
  have popped : EdgeInvKept s s.popRequest := ((EdgeKept.refl _ s).setLli _).invariants
  have answered : ∀ (t : State) (a : Answer), EdgeInvKept t (t.answer src k.code a) := fun t a =>
    ((EdgeKept.refl _ t).answer src k.code a).invariants
  rcases s.takeRequest_cases k src p owner with ⟨-, e⟩ | ⟨-, -, e⟩ | ⟨-, -, -, e⟩ | ⟨next, -, -, e⟩ <;> rw [e]
  · exact .refl s
  · exact popped.trans (answered _ _)
  · exact popped.trans (answered _ _)
  · have running : s.phase = .running := by
      unfold State.nextRequest at next
      split at next
      next taken => exact taken.1
      next => exact absurd next (by simp)
    exact (popped.trans (owned running)).trans (answered _ _)

/-- A request whose owner neither brings a train nor takes one away. -/
theorem State.takeRequest_edge (s : State) (k : Kind) (src : Byte) (p : List Byte) {owner : State → State × Answer}
    (owned : EdgeKept (fun _ => False) s.popRequest s.popRequest → EdgeKept (fun _ => False) s.popRequest (owner s.popRequest).1) :
    EdgeInvKept s (s.takeRequest k src p owner) := s.takeRequest_invariants k src p fun _ => (owned (.refl _ _)).invariants

theorem exec_keeps_edge {s t : State} (i : Instr) (e : exec i s = .next t) : EdgeInvKept s t := by
  have kept : ∀ {c : Prop} [Decidable c] {u : State}, (c → EdgeInvKept s u) → EdgeInvKept s (if c then u else s) := by
    intro c _ u hu
    split
    next holds => exact hu holds
    next => exact .refl s
  have self : EdgeKept (fun _ => False) s s := .refl _ s
  cases i with
  | lineRunReceived run => exact of_next (kept fun _ => (self.takeRun run).invariants) e
  | linkTimeout =>
    refine of_next ?_ e
    split
    · exact .refl s
    · exact self.expireLink.invariants
  | transmitComplete => exact of_next (kept fun _ => (self.setLli _).invariants) e
  | unknownKindRequest src kind p => exact of_next (kept fun _ => ((self.setLli _).answer _ _ _).invariants) e
  | arrival src p => exact of_next (s.takeRequest_invariants _ _ _ fun running => State.arrival_keeps (s := s.popRequest) running p) e
  | stopReport src p => exact of_next (s.takeRequest_edge _ _ _ fun h => h.stopReport p) e
  | release src p => exact of_next (s.takeRequest_edge _ _ _ fun h => h.release p) e
  | close src p => exact of_next (s.takeRequest_edge _ _ _ fun h => h.close p) e
  | cancel src p => exact of_next (s.takeRequest_invariants _ _ _ fun _ => State.cancel_keeps _ p) e
  | departed src p => exact of_next (s.takeRequest_invariants _ _ _ fun _ => State.departed_keeps _ p) e
  | evacuate src p => exact of_next (s.takeRequest_edge _ _ _ fun h => h.evacuate p) e
  | berthQuery src p => exact of_next (s.takeRequest_edge _ _ _ fun h => h.berthQuery p) e
  | alignDetail src p => exact of_next (s.takeRequest_edge _ _ _ fun h => h.alignDetail p) e
  | doorQuery src p => exact of_next (s.takeRequest_edge _ _ _ fun h => h.doorQuery p) e
  | edgeQuery src p => exact of_next (s.takeRequest_edge _ _ _ fun h => h.edgeQuery) e
  | ident src p => exact of_next (s.takeRequest_edge _ _ _ fun h => h) e
  | tableWrite src p => exact of_next (s.takeRequest_invariants _ _ _ fun _ => State.tableWrite_keeps _ p) e
  | tableRead src p => exact of_next (s.takeRequest_edge _ _ _ fun h => h.tableRead p) e
  | profileBegin src p => exact of_next (s.takeRequest_edge _ _ _ fun h => h.profileBegin p) e
  | profileCar src p => exact of_next (s.takeRequest_edge _ _ _ fun h => h.profileCar p) e
  | profileDelete src p => exact of_next (s.takeRequest_edge _ _ _ fun h => h.profileDelete p) e
  | storeSave src p => exact of_next (s.takeRequest_edge _ _ _ fun h => h.storeSave) e
  | storeSaveComplete ok =>
    refine of_next (kept fun _ => ?_) e
    split
    · exact self.succeedSave.invariants
    · exact self.failSave.invariants
  | storeSaveTimeout => exact of_next (kept fun _ => self.failSave.invariants) e
  | modeEnter src p => exact of_next (s.takeRequest_edge _ _ _ fun h => h.modeEnter p) e
  | modeExit src p => exact of_next (s.takeRequest_edge _ _ _ fun h => h.modeExit p) e
  | doorCommand src p => exact of_next (s.takeRequest_edge _ _ _ fun h => h.doorCommand p) e
  | resetLatch src p => exact of_next (s.takeRequest_edge _ _ _ fun h => h.resetLatch p) e
  | ringTestStart src p => exact of_next (s.takeRequest_edge _ _ _ fun h => h.ringTestStart) e
  | ringTestStop src p => exact of_next (s.takeRequest_edge _ _ _ fun h => h.ringTestStop) e
  | ringTestInsert src p => exact of_next (s.takeRequest_edge _ _ _ fun h => h.ringTestInsert p) e
  | ringTestResult src p => exact of_next (s.takeRequest_edge _ _ _ fun h => h.ringTestResult p) e
  | eventAck src p => exact of_next (s.takeRequest_edge _ _ _ fun h => h.eventAck p) e
  | eventMask src p => exact of_next (s.takeRequest_edge _ _ _ fun h => h.eventMask p) e
  | changeMap src p => exact of_next (s.takeRequest_edge _ _ _ fun h => h) e
  | snapshot src p => exact of_next (s.takeRequest_edge _ _ _ fun h => h.takeSnapshot) e
  | counterRead src p => exact of_next (s.takeRequest_edge _ _ _ fun h => h.counterRead p) e
  | partReset src p => exact of_next (s.takeRequest_invariants _ _ _ fun _ => State.startUp_keeps _ _ _) e
  | powerOn => exact of_next (s.startUp_keeps _ _) e
  | supplyDip => exact of_next (s.startUp_keeps _ _) e
  | resetLineAsserted => exact of_next (s.resetAll_keeps _ (by decide)) e
  | resetLineReleased => exact of_next (kept fun _ => s.startUp_keeps _ _) e
  | startingEnd => exact of_next (kept fun starting => State.beginWork_keeps (by rw [starting]; decide)) e
  | fireChange level =>
    have pinned : EdgeKept (fun _ => False) s { s with firePin := level } := self.same rfl
    refine of_next ?_ e
    split
    · exact pinned.takeFire.invariants
    · exact pinned.invariants
  | ringCopyReceived port copy => exact of_next (kept fun _ => (self.setDrm _).invariants) e
  | cycleClose order => exact of_next (kept fun _ => (self.closeCycle order).invariants) e
  | motionTimeout d => exact of_next (self.motionExpiry d).invariants e
  | lockProofTimeout d => exact of_next (self.lockProofExpiry d).invariants e
  | recloseTimeout d => exact of_next (self.recloseExpiry d).invariants e
  | proofTimeout b =>
    exact of_next (kept fun expires => ((State.expireProof_keeps expires.1).raise _ _ _).invariants) e
  | autoSnapshotTimeout =>
    refine of_next ?_ e
    split
    · exact .refl s
    · exact (self.setEr _).takeSnapshot.invariants
  | supplyFall => exact of_next (s.resetAll_keeps _ (by decide)) e

theorem step_keeps_edge {s t : State} (e : step s = .next t) : EdgeInvKept s t := by
  rcases step_cases e with ⟨c, rest, -, carried⟩ | ⟨-, rfl⟩
  · have taken : EdgeKept (fun _ => False) s { s with pending := rest } := (EdgeKept.refl _ s).same rfl
    exact taken.invariants.trans (exec_keeps_edge c carried)
  · exact .refl t

/-- Settles O54: a permit and a proof timer change with the berth's state alone; and whatever touches a loop, a door's service or a
gap zone hands it to the berths that it concerns, whose evaluation makes the proof sound again. -/
theorem permitInvKept : Obligations.PermitInvKept := fun _ _ e => ⟨(step_keeps_edge e).permit, (step_keeps_edge e).proof⟩

/-- Settles O55: only ARRIVAL, with MAINT absent and no span in its way, brings a train; MAINT enters over VACANT berths alone; and a
berth is vacated to its reset values. -/
theorem occupancyInvKept : Obligations.OccupancyInvKept := fun _ _ e => ⟨(step_keeps_edge e).occupancy, (step_keeps_edge e).vacant⟩

end Sys2Proof.Machine

namespace Sys2Proof.Machine

/-! # A computation's matches (R76 to R81) -/

/-! ## Candidates (R76) -/

theorem distance2_cast (e : PdtEntry) (x : TrainDoor) : (distance2 e x : Int) = |2 * (e.centre : Int) - 2 * x.pos| :=
  Int.natCast_natAbs _

/-- One train door more taken into the search for the nearest. -/
def nearer (e : PdtEntry) (best : Option (TrainDoor × Nat)) (x : TrainDoor × Nat) : Option (TrainDoor × Nat) :=
  if x.1.eligible = false then best
  else match best with
    | none => some x
    | some b => if distance2 e x.1 < distance2 e b.1 then some x else best

theorem candidate_eq (e : PdtEntry) (doors : List TrainDoor) : candidate e doors = doors.zipIdx.foldl (nearer e) none := rfl

theorem candidate_concat (e : PdtEntry) (doors : List TrainDoor) (y : TrainDoor) :
    candidate e (doors ++ [y]) = nearer e (candidate e doors) (y, doors.length) := by
  rw [candidate_eq, candidate_eq, List.zipIdx_append, List.foldl_append]
  simp

/-- What a search over a list of train doors has found: the candidate, or that none is eligible. -/
def Found (e : PdtEntry) (doors : List TrainDoor) : Option (TrainDoor × Nat) → Prop
  | some (x, k) => IsCandidate e doors k x
  | none => ∀ (j : Nat) (y : TrainDoor), doors[j]? = some y → y.eligible = false

theorem getElem?_concat_eq_some {doors : List TrainDoor} {y x : TrainDoor} {j : Nat} :
    (doors ++ [y])[j]? = some x ↔ doors[j]? = some x ∨ (j = doors.length ∧ x = y) := by
  rcases Nat.lt_trichotomy j doors.length with lt | rfl | gt
  · rw [List.getElem?_append_left lt]; exact ⟨.inl, fun h => h.resolve_right fun ⟨e, _⟩ => by omega⟩
  · simp [eq_comm]
  · rw [List.getElem?_eq_none (by simpa using gt), List.getElem?_eq_none gt.le]
    exact ⟨fun h => absurd h (by simp), fun h => h.elim id fun ⟨e, _⟩ => absurd e gt.ne'⟩

/-- An ineligible train door more changes no candidate. -/
theorem Found.concat_ineligible {e : PdtEntry} {doors : List TrainDoor} {best : Option (TrainDoor × Nat)} {y : TrainDoor}
    (found : Found e doors best) (off : y.eligible = false) : Found e (doors ++ [y]) best := by
  cases best with
  | none =>
    intro j z at_j
    rcases getElem?_concat_eq_some.mp at_j with old | ⟨-, rfl⟩
    · exact found j z old
    · exact off
  | some b =>
    obtain ⟨stands, eligible, nearest⟩ := found
    refine ⟨getElem?_concat_eq_some.mpr (.inl stands), eligible, fun j z at_j on => ?_⟩
    rcases getElem?_concat_eq_some.mp at_j with old | ⟨-, rfl⟩
    · exact nearest j z old on
    · rw [off] at on; exact absurd on (by decide)

theorem Found.concat {e : PdtEntry} {doors : List TrainDoor} {best : Option (TrainDoor × Nat)} (found : Found e doors best)
    (y : TrainDoor) : Found e (doors ++ [y]) (nearer e best (y, doors.length)) := by
  unfold nearer
  split
  next off => exact found.concat_ineligible off
  next on =>
    have eligible : y.eligible = true := by simpa using on
    have last : (doors ++ [y])[doors.length]? = some y := by simp
    cases best with
    | none =>
      refine ⟨last, eligible, fun j z at_j on => ?_⟩
      rcases getElem?_concat_eq_some.mp at_j with old | ⟨rfl, rfl⟩
      · rw [found j z old] at on; exact absurd on (by decide)
      · exact ⟨le_rfl, fun _ => le_rfl⟩
    | some b =>
      obtain ⟨stands, on', nearest⟩ := found
      dsimp only
      split
      next closer =>
        rw [← Int.ofNat_lt, distance2_cast, distance2_cast] at closer
        refine ⟨last, eligible, fun j z at_j on => ?_⟩
        rcases getElem?_concat_eq_some.mp at_j with old | ⟨rfl, rfl⟩
        · obtain ⟨far, -⟩ := nearest j z old on
          exact ⟨by omega, fun same => by omega⟩
        · exact ⟨le_rfl, fun _ => le_rfl⟩
      next further =>
        rw [← Int.ofNat_lt, distance2_cast, distance2_cast] at further
        refine ⟨getElem?_concat_eq_some.mpr (.inl stands), on', fun j z at_j on => ?_⟩
        rcases getElem?_concat_eq_some.mp at_j with old | ⟨rfl, rfl⟩
        · exact nearest j z old on
        · have inside := (List.getElem?_eq_some_iff.mp stands).1
          exact ⟨by omega, fun _ => by omega⟩

theorem candidate_found (e : PdtEntry) (doors : List TrainDoor) : Found e doors (candidate e doors) := by
  induction doors using List.reverseRecOn with
  | nil => intro j y at_j; simp at at_j
  | append_singleton doors y ih => rw [candidate_concat]; exact ih.concat y

/-- A platform door has one candidate at most (R76). -/
theorem IsCandidate.unique {e : PdtEntry} {doors : List TrainDoor} {j k : Nat} {x y : TrainDoor} (hx : IsCandidate e doors j x)
    (hy : IsCandidate e doors k y) : j = k ∧ x = y := by
  obtain ⟨stands, eligible, nearest⟩ := hx
  obtain ⟨stands', eligible', nearest'⟩ := hy
  obtain ⟨near, first⟩ := nearest k y stands' eligible'
  obtain ⟨near', first'⟩ := nearest' j x stands eligible
  have same := le_antisymm near near'
  obtain rfl : j = k := le_antisymm (first same.symm) (first' same)
  exact ⟨rfl, Option.some.inj (stands.symm.trans stands')⟩

/-- The search finds the candidate of R76. -/
theorem candidate_eq_some {e : PdtEntry} {doors : List TrainDoor} {x : TrainDoor} {k : Nat} :
    candidate e doors = some (x, k) ↔ IsCandidate e doors k x := by
  have found := candidate_found e doors
  constructor
  · intro h; rw [h] at found; exact found
  · intro is
    cases h : candidate e doors with
    | none =>
      rw [h] at found
      have off := found k x is.1
      rw [is.2.1] at off
      exact absurd off (by decide)
    | some b =>
      rw [h] at found
      obtain ⟨rfl, rfl⟩ := is.unique found
      rfl

/-! ## Pairs and their overlap (R77, R79) -/

theorem overlapMm_eq (e : PdtEntry) (x : TrainDoor) : overlapMm e x = pairOverlap e x := by
  unfold overlapMm pairOverlap
  dsimp only
  split <;> omega

/-- The match record of a platform door that claims a train door (R79). -/
def claimRec (s : State) (d : DoorNo) (k : Nat) (x : TrainDoor) : MatchRec :=
  { p := d, t := k, overlap := pairOverlap (s.pdt d) x, residual := ((s.pdt d).centre : Int) - x.pos }

theorem alignedPair_eq_some {s : State} {d : DoorNo} {doors : List TrainDoor} {m : MatchRec} :
    alignedPair d (s.pdt d) doors s.settings.minPassage = some m
      ↔ ∃ (k : Nat) (x : TrainDoor), IsCandidate (s.pdt d) doors k x ∧ s.settings.minPassage ≤ pairOverlap (s.pdt d) x
          ∧ claimRec s d k x = m := by
  unfold alignedPair
  simp only [overlapMm_eq]
  split
  next x k h =>
    rw [candidate_eq_some] at h
    rw [ite_eq_iff]
    constructor
    · rintro (⟨enough, e⟩ | ⟨-, e⟩)
      · exact ⟨k, x, h, enough, Option.some.inj e⟩
      · exact absurd e (by simp)
    · rintro ⟨j, y, is, enough, e⟩
      obtain ⟨rfl, rfl⟩ := h.unique is
      exact .inl ⟨enough, congrArg some e⟩
  next none =>
    refine ⟨fun e => absurd e (by simp), fun ⟨k, x, is, _⟩ => ?_⟩
    rw [candidate_eq_some.mpr is] at none
    exact absurd none (by simp)

/-- The pairs of a computation before conflicts are settled (R77). -/
def State.pairs (s : State) (b : BerthId) (doors : List TrainDoor) : List MatchRec :=
  ((s.spanDoors b).filter s.inComputation).filterMap fun d => alignedPair d (s.pdt d) doors s.settings.minPassage

theorem State.inComputation_iff {s : State} {d : DoorNo} :
    s.inComputation d = true ↔ (s.pdt d).inService = true ∧ (s.door d).state ≠ .outOfService := by
  simp [State.inComputation, State.inService]

/-- The pairs are the claims. -/
theorem State.mem_pairs {s : State} {b : BerthId} {doors : List TrainDoor} {m : MatchRec} :
    m ∈ s.pairs b doors ↔ ∃ (d : DoorNo) (k : Nat) (x : TrainDoor), Claims s b doors d k x ∧ claimRec s d k x = m := by
  unfold State.pairs Claims
  simp only [List.mem_filterMap, List.mem_filter, State.mem_spanDoors, State.inComputation_iff, alignedPair_eq_some]
  constructor
  · rintro ⟨d, ⟨span, entry, serves⟩, k, x, is, enough, e⟩
    exact ⟨d, k, x, ⟨entry, serves, span, is, enough⟩, e⟩
  · rintro ⟨d, k, x, ⟨entry, serves, span, is, enough⟩, e⟩
    exact ⟨d, ⟨span, entry, serves⟩, k, x, is, enough, e⟩

theorem allDoors_ascend : allDoors.Pairwise (· < ·) := List.pairwise_lt_finRange 48

/-- The pairs stand in ascending door order (R79). -/
theorem State.pairs_ascend (s : State) (b : BerthId) (doors : List TrainDoor) :
    (s.pairs b doors).Pairwise fun m n => m.p < n.p := by
  refine List.Pairwise.filterMap _ ?_ ((allDoors_ascend.filter _).filter _)
  intro c d lt m is n is'
  obtain ⟨_, _, -, -, rfl⟩ := alignedPair_eq_some.mp is
  obtain ⟨_, _, -, -, rfl⟩ := alignedPair_eq_some.mp is'
  exact lt

/-! ## Conflicts (R78) -/

theorem MatchRec.not_losesTo {a b : MatchRec} :
    a.losesTo b = false ↔ (b.t = a.t → b.overlap < a.overlap ∨ (b.overlap = a.overlap ∧ a.p ≤ b.p)) := by
  simp only [MatchRec.losesTo, Bool.and_eq_false_iff, Bool.or_eq_false_iff, beq_eq_false_iff_ne, decide_eq_false_iff_not, Fin.le_def]
  constructor
  · rintro (h | ⟨h, h'⟩) e
    · exact absurd e h
    · omega
  · intro h
    by_cases e : b.t = a.t
    · have := h e; omega
    · exact .inl e

theorem mem_settlePairs {ms : List MatchRec} {a : MatchRec} : a ∈ settlePairs ms
    ↔ a ∈ ms ∧ ∀ b ∈ ms, b.t = a.t → b.overlap < a.overlap ∨ (b.overlap = a.overlap ∧ a.p ≤ b.p) := by
  simp only [settlePairs, List.mem_filter, List.all_eq_true, Bool.not_eq_true', MatchRec.not_losesTo]

/-- Settled pairs in ascending door order match no train door twice (R78). -/
theorem settlePairs_nodup {ms : List MatchRec} (ascend : ms.Pairwise fun m n => m.p < n.p) :
    ((settlePairs ms).map MatchRec.t).Nodup := by
  rw [List.Nodup, List.pairwise_map]
  refine (ascend.filter fun a => ms.all fun b => !a.losesTo b).imp_of_mem fun {m n} hm hn lt same => ?_
  obtain ⟨inM, winsM⟩ := mem_settlePairs.mp hm
  obtain ⟨inN, winsN⟩ := mem_settlePairs.mp hn
  have notBeaten := winsM n inN same.symm
  have beaten := (winsN m inM same).resolve_right fun ⟨_, first⟩ => not_le.mpr lt first
  omega

/-! ## Results (R79 to R81) -/

theorem State.matches_saturated {s : State} {b : BerthId} (h : (s.berth b).saturated = true) (doors : List TrainDoor) :
    s.matches b doors = [] := if_pos h
theorem State.matches_settled {s : State} {b : BerthId} (h : (s.berth b).saturated = false) (doors : List TrainDoor) :
    s.matches b doors = settlePairs (s.pairs b doors) := if_neg (by rw [h]; decide)

/-- The matches are the claims that no other claim on the same train door beats (R78). -/
theorem State.mem_matches {s : State} {b : BerthId} {doors : List TrainDoor} (h : (s.berth b).saturated = false) {m : MatchRec} :
    m ∈ s.matches b doors ↔ ∃ x : TrainDoor, Claims s b doors m.p m.t x ∧ m.overlap = pairOverlap (s.pdt m.p) x
      ∧ m.residual = ((s.pdt m.p).centre : Int) - x.pos
      ∧ ∀ d : DoorNo, Claims s b doors d m.t x →
          pairOverlap (s.pdt d) x < m.overlap ∨ (pairOverlap (s.pdt d) x = m.overlap ∧ m.p ≤ d) := by
  rw [State.matches_settled h, mem_settlePairs, State.mem_pairs]
  constructor
  · rintro ⟨⟨d, k, x, claims, rfl⟩, wins⟩
    exact ⟨x, claims, rfl, rfl, fun c other => wins (claimRec s c k x) (State.mem_pairs.mpr ⟨c, k, x, other, rfl⟩) rfl⟩
  · rintro ⟨x, claims, overlap, residual, wins⟩
    refine ⟨⟨m.p, m.t, x, claims, ?_⟩, fun n pair same => ?_⟩
    · cases m; simp_all [claimRec]
    · obtain ⟨c, k, y, other, rfl⟩ := State.mem_pairs.mp pair
      obtain rfl : k = m.t := same
      have one : y = x := by
        obtain ⟨-, -, -, ⟨at_k, -⟩, -⟩ := claims
        obtain ⟨-, -, -, ⟨at_k', -⟩, -⟩ := other
        exact Option.some.inj (at_k'.symm.trans at_k)
      subst one
      exact wins c other

theorem State.matches_ascend (s : State) (b : BerthId) (doors : List TrainDoor) :
    (s.matches b doors).Pairwise fun m n => m.p < n.p := by
  cases h : (s.berth b).saturated with
  | true => rw [State.matches_saturated h]; exact .nil
  | false => rw [State.matches_settled h]; exact (s.pairs_ascend b doors).filter _

theorem State.matches_nodup (s : State) (b : BerthId) (doors : List TrainDoor) :
    ((s.matches b doors).map MatchRec.t).Nodup := by
  cases h : (s.berth b).saturated with
  | true => rw [State.matches_saturated h]; exact .nil
  | false => rw [State.matches_settled h]; exact settlePairs_nodup (s.pairs_ascend b doors)

/-- Settles O22: the search finds the nearest eligible train door, the pairs are the claims, and settling keeps of each train door the
pair that no other beats. -/
theorem alignmentSound : Obligations.AlignmentSound := by
  intro s b r
  refine ⟨rfl, fun h m => State.mem_matches h, s.matches_ascend b _, s.matches_nodup b _, rfl, rfl, fun d => ?_, fun t => ?_, rfl,
    fun h => ?_⟩
  · simp [r, State.computed]
  · simp [r, State.computed]
  · have nothing : r.matchList = [] := State.matches_saturated h _
    exact ⟨nothing, congrArg (fun ms : List MatchRec => some (verdictOf r.nEligible ms.length)) nothing⟩

end Sys2Proof.Machine

namespace Sys2Proof.Machine

/-! # The reads of records by number (R86, R111, R213) -/

/-- A request whose owner answers with data and changes nothing. -/
theorem exec_reads {s : State} {k : Kind} {src : Byte} {p data : List Byte} (taken : Taken s k src p)
    {owner : State → State × Answer} (e : owner s.popRequest = (s.popRequest, .accepted data)) :
    Host.Outcome.next (φ := Fault) (ρ := Refusal) (s.takeRequest k src p owner) = .next (s.popRequest.accepted k src data) :=
  congrArg _ (State.takeRequest_accepted taken e)

/-- A request whose owner refuses a field. -/
theorem exec_refusesRange {s : State} {k : Kind} {src : Byte} {p : List Byte} (taken : Taken s k src p) {f : Nat}
    {owner : State → State × Answer} (e : owner s.popRequest = refuse s.popRequest .range f) :
    Host.Outcome.next (φ := Fault) (ρ := Refusal) (s.takeRequest k src p owner)
      = .next (s.popRequest.refused k.code src .range f) :=
  congrArg _ (State.takeRequest_refused taken e)

/-- ALIGN_DETAIL by its fields (R86). -/
theorem State.alignDetail_eq (s : State) (p : List Byte) : s.alignDetail p =
    if 1 < u8 p 0 then refuse s .range 1
    else if 47 < u8 p 1 then refuse s .range 2
    else if u8 p 2 = 0 ∨ 24 < u8 p 2 then refuse s .range 3
    else (s, .accepted (alignDetailData (berthNamed p) (s.berth (berthNamed p)) (u8 p 1) (u8 p 2))) := by
  unfold State.alignDetail
  rw [berthAt_eq]
  by_cases unknown : 1 < u8 p 0
  · rw [if_pos unknown, if_pos unknown]
  · rw [if_neg unknown, if_neg unknown]

/-- Settles O24: each of the three reads makes its range checks in order, and else answers from the records. -/
theorem indexedReads : Obligations.IndexedReads := by
  intro s src p
  refine ⟨fun taken => ⟨fun badBerth => ?_, fun berth badFirst => ?_, fun berth first badCount => ?_, fun berth first some few => ?_⟩,
    fun taken => ⟨fun badFirst => ?_, fun first badCount => ?_, fun first some few => ?_⟩,
    fun taken => ⟨fun badFirst => ?_, fun first badCount => ?_, fun first some few => ?_⟩⟩
  · refine exec_refusesRange taken (State.alignDetail_eq _ p |>.trans ?_)
    rw [if_pos badBerth]
  · refine exec_refusesRange taken (State.alignDetail_eq _ p |>.trans ?_)
    rw [if_neg (by omega), if_pos badFirst]
  · refine exec_refusesRange taken (State.alignDetail_eq _ p |>.trans ?_)
    rw [if_neg (by omega), if_neg (by omega), if_pos badCount]
  · refine exec_reads taken (State.alignDetail_eq _ p |>.trans ?_)
    rw [if_neg (by omega), if_neg (by omega), if_neg (by omega), State.popRequest_berth]
  · exact exec_refusesRange taken (if_pos badFirst)
  · exact exec_refusesRange taken ((if_neg (by omega)).trans (if_pos badCount))
  · exact exec_reads taken ((if_neg (by omega)).trans (if_neg (by omega)))
  · exact exec_refusesRange taken (if_pos badFirst)
  · exact exec_refusesRange taken ((if_neg (by omega)).trans (if_pos badCount))
  · exact exec_reads taken ((if_neg (by omega)).trans (if_neg (by omega)))

end Sys2Proof.Machine

namespace Sys2Proof.Machine

/-! # A door's status (R115 to R135), act by act

Each act of the Door Supervisor writes the door's record and tells the station; it is said once for each which record it writes. -/

/-- What is known of a door's unit: its last known status and its isolation key (R112). -/
def Door.seen (r : Door) : Option UnitStatus × Option Bool := (r.lastStatus, r.isoKey)

/-- The record with a status taken into it (R115). -/
def Door.shown (r : Door) (u : UnitStatus) (iso : Bool) : Door := { r with lastStatus := some u, isoKey := some iso }

/-- The manual release as it is known; a door with no last known status counts as not released. -/
def Door.manualSeen (r : Door) : Bool := (r.lastStatus.map UnitStatus.manual).getD false

/-- The known status of a record written over it stands. -/
theorem Door.withReasons_seen (r : Door) (m : MotionLimits) (n : Reasons) : (r.withReasons m n).seen = r.seen := by
  unfold Door.withReasons Door.reasonsArise Door.reasonsCease
  split
  · rfl
  · split
    · dsimp only; split <;> rfl
    · split
      · dsimp only; split <;> rfl
      · rfl

theorem Door.closedThenReasons_seen (r : Door) (m : MotionLimits) : (r.closedThenReasons m).seen = r.seen := by
  unfold Door.closedThenReasons
  split <;> rfl

/-- CLOSED, then OPENING where a reason is held, which counts (R117, R120, R136). -/
theorem Door.closedThenReasons_idle {r : Door} (m : MotionLimits) (none : r.reasons = .empty) :
    r.closedThenReasons m = r.enterClosed := if_pos none
theorem Door.closedThenReasons_opens {r : Door} (m : MotionLimits) (some : r.reasons ≠ .empty) :
    r.closedThenReasons m = ({ r.enterClosed with counters := r.counters.incOpenCycles }).enterOpening m := if_neg some

theorem State.setDoor_setDoor (s : State) (d : DoorNo) (q r : Door) : (s.setDoor d q).setDoor d r = s.setDoor d r := by
  simp [State.setDoor]

/-! ## FAULT, and the leaf and the lock (R122 to R126, R130) -/

/-- A fault other than a comm loss is told by DOOR_FAULT (R130). -/
theorem State.faultDoor_eq_tell (s : State) (d : DoorNo) {c : FaultCause} (h : c ≠ .commLost) :
    s.faultDoor d c = (s.setDoor d ((s.door d).enterFault c)).tell (s.eventOf .doorFault d.val (enc1 c.code)) := by
  unfold State.faultDoor
  rw [if_neg h, State.raise_eq_tell]
  rfl

theorem State.faultDoor_door (s : State) (d : DoorNo) {c : FaultCause} (h : c ≠ .commLost) :
    (s.faultDoor d c).door d = (s.door d).enterFault c := by
  rw [State.faultDoor_eq_tell s d h, State.tell_door, State.door_setDoor_same]

section
variable {s : State} {d : DoorNo} (u : UnitStatus)

theorem State.applyLeaf_opening (h : (s.door d).state = .opening) :
    s.applyLeaf d u = if u.leaf = .opened then s.setDoor d (s.door d).enterOpened else s := by
  unfold State.applyLeaf; simp only [h]
theorem State.applyLeaf_closing (h : (s.door d).state = .closing) : s.applyLeaf d u =
    if u.leaf = .closed ∧ u.lock = true then s.setDoor d (s.door d).enterClosed
    else if u.leaf = .closed ∧ (s.door d).lockProof = .stopped then
      s.setDoor d { s.door d with motion := .stopped, lockProof := .running s.settings.lockProofTime }
    else s := by
  unfold State.applyLeaf; simp only [h]
theorem State.applyLeaf_closed (h : (s.door d).state = .closed) :
    s.applyLeaf d u = if u.lock = false ∨ u.leaf ≠ .closed then s.faultDoor d .lockLost else s := by
  unfold State.applyLeaf; simp only [h]
theorem State.applyLeaf_reopening (h : (s.door d).state = .reopening) : s.applyLeaf d u =
    if u.leaf = .opened ∧ (s.door d).reclose = .stopped then
      s.setDoor d { s.door d with motion := .stopped, reclose := .running s.settings.recloseDelay }
    else s := by
  unfold State.applyLeaf; simp only [h]

/-- The states in which leaf and lock change nothing. -/
def DoorState.LeafFree (st : DoorState) : Prop :=
  st ≠ .opening ∧ st ≠ .closing ∧ st ≠ .closed ∧ st ≠ .reopening

theorem State.applyLeaf_free (h : (s.door d).state.LeafFree) : s.applyLeaf d u = s := by
  obtain ⟨opening, closing, closed, reopening⟩ := h
  unfold State.applyLeaf
  dsimp only
  split
  case h_1 e => exact absurd e opening
  case h_2 e => exact absurd e closing
  case h_3 e => exact absurd e closed
  case h_4 e => exact absurd e reopening
  case h_5 => rfl

end

/-- An act that writes the record of one door, what is known of its unit standing, and tells the station. -/
def WritesDoor (d : DoorNo) (s t : State) : Prop :=
  ∃ (r : Door) (ts : List Telegram), r.seen = (s.door d).seen ∧ t = (s.setDoor d r).tell ts

theorem WritesDoor.refl (d : DoorNo) (s : State) : WritesDoor d s s :=
  ⟨s.door d, [], rfl, by rw [State.setDoor_self, State.tell_nil]⟩
theorem WritesDoor.setDoor {d : DoorNo} {s : State} {r : Door} (h : r.seen = (s.door d).seen) : WritesDoor d s (s.setDoor d r) :=
  ⟨r, [], h, by rw [State.tell_nil]⟩
theorem WritesDoor.faultDoor (s : State) (d : DoorNo) {c : FaultCause} (h : c ≠ .commLost) : WritesDoor d s (s.faultDoor d c) :=
  ⟨(s.door d).enterFault c, _, rfl, s.faultDoor_eq_tell d h⟩

theorem State.applyLeaf_writes (s : State) (d : DoorNo) (u : UnitStatus) : WritesDoor d s (s.applyLeaf d u) := by
  by_cases free : (s.door d).state.LeafFree
  · rw [State.applyLeaf_free u free]; exact .refl d s
  · unfold DoorState.LeafFree at free
    cases state : (s.door d).state with
    | opening =>
      rw [State.applyLeaf_opening u state]
      split
      · exact .setDoor rfl
      · exact .refl d s
    | closing =>
      rw [State.applyLeaf_closing u state]
      split
      · exact .setDoor rfl
      · split
        · exact .setDoor rfl
        · exact .refl d s
    | closed =>
      rw [State.applyLeaf_closed u state]
      split
      · exact .faultDoor s d (by decide)
      · exact .refl d s
    | reopening =>
      rw [State.applyLeaf_reopening u state]
      split
      · exact .setDoor rfl
      · exact .refl d s
    | unknown | outOfService | opened | held | releasedManual | fault => simp [state] at free

/-! ## The fault code and the manual release (R115, rules 2 and 3) -/

section
variable {s : State} {d : DoorNo} {u : UnitStatus} {wasManual : Bool}

theorem State.applyRules_fault (code : u.faultCode ≠ 0) (sees : (s.door d).state.seesFaultCode = true) :
    s.applyRules d u wasManual = s.faultDoor d .unitFault := if_pos ⟨code, sees⟩

theorem State.applyRules_manual (noFault : u.faultCode = 0) (manual : u.manual = true) (fresh : wasManual = false)
    (sees : (s.door d).state.seesManual = true) : s.applyRules d u wasManual
      = (s.setDoor d (s.door d).enterManual).raise .manualRelease d.val (enc1 (s.door d).state.code) :=
  (if_neg fun h => h.1 noFault).trans (if_pos ⟨manual, fresh, sees⟩)

theorem State.applyRules_restored (noFault : u.faultCode = 0) (restored : u.manual = false) (was : wasManual = true)
    (released : (s.door d).state = .releasedManual) : s.applyRules d u wasManual
      = s.setDoor d (if u.leaf = .closed ∧ u.lock = true then (s.door d).closedThenReasons (s.limits d)
          else (s.door d).enterHeld .manualRestored) := by
  refine ((if_neg fun h => h.1 noFault).trans ((if_neg fun h => ?_).trans (if_pos ⟨restored, was, released⟩))).trans ?_
  · rw [restored] at h; exact absurd h.1 (by decide)
  · split <;> rfl

/-- Neither rule applies, and leaf and lock decide. -/
theorem State.applyRules_leaf (noFault : u.faultCode = 0 ∨ (s.door d).state.seesFaultCode = false)
    (noManual : u.manual = false ∨ wasManual = true ∨ (s.door d).state.seesManual = false)
    (notRestored : u.manual = true ∨ wasManual = false ∨ (s.door d).state ≠ .releasedManual) :
    s.applyRules d u wasManual = s.applyLeaf d u := by
  refine (if_neg fun ⟨code, sees⟩ => ?_).trans ((if_neg fun ⟨manual, fresh, sees⟩ => ?_).trans
    (if_neg fun ⟨restored, was, released⟩ => ?_))
  · rcases noFault with e | e
    · exact code e
    · rw [e] at sees; exact absurd sees (by decide)
  · rcases noManual with e | e | e
    · rw [e] at manual; exact absurd manual (by decide)
    · rw [e] at fresh; exact absurd fresh (by decide)
    · rw [e] at sees; exact absurd sees (by decide)
  · rcases notRestored with e | e | e
    · rw [e] at restored; exact absurd restored (by decide)
    · rw [e] at was; exact absurd was (by decide)
    · exact e released

end

theorem State.applyRules_writes (s : State) (d : DoorNo) (u : UnitStatus) (wasManual : Bool) :
    WritesDoor d s (s.applyRules d u wasManual) := by
  unfold State.applyRules
  dsimp only
  split
  · exact .faultDoor s d (by decide)
  · split
    · exact ⟨(s.door d).enterManual, _, rfl, State.raise_eq_tell ..⟩
    · split
      · split
        · exact .setDoor (Door.closedThenReasons_seen _ _)
        · exact .setDoor rfl
      · exact s.applyLeaf_writes d u

/-! ## Leaving service (R84, R134, R164, R186) -/

theorem State.leaveService_door (s : State) (d : DoorNo) : (s.leaveService d).door d = (s.door d).enterOut := by
  rw [State.leaveService_frame]
  exact s.door_setDoor_same d _
theorem State.leaveService_other (s : State) {d c : DoorNo} (ne : c ≠ d) : (s.leaveService d).door c = s.door c := by
  rw [State.leaveService_frame]
  exact s.door_setDoor_ne _ ne
theorem State.leaveService_berth (s : State) (d : DoorNo) (b : BerthId) : (s.leaveService d).berth b = (s.berth b).leftBy d := by
  rw [State.leaveService_frame]
  cases b <;> rfl
theorem State.leaveService_zoneHere (s : State) (d : DoorNo) (z : ZoneId) : (s.leaveService d).zone d z =
    if (s.pdt d).inService = true then (s.zone d z).map ZoneRec.leave else none := by
  have zones : (s.leaveService d).zonesOf d = if (s.pdt d).inService then (s.zonesOf d).map (Option.map ZoneRec.leave)
      else Vector.replicate 6 none := by
    unfold State.leaveService State.leaveZones
    rw [State.dropFromBerths_eq]
    exact State.zonesOf_setZones_same ..
  unfold State.zone
  rw [zones]
  split
  · simp
  · simp
theorem State.leaveService_key (s : State) (d : DoorNo) : (s.leaveService d).key d =
    if (s.pdt d).inService = true then (if s.key d = .onGranted then .onNotGranted else s.key d) else .unseen := by
  unfold State.leaveService State.leaveZones State.leaveKey
  rw [State.dropFromBerths_eq]
  exact State.key_setKey_same ..

/-- Train doors taken out of an enable set, one after another. -/
theorem dropTrainDoors_getElem (l : List MatchRec) (v : Vector Bool 96) (k : Fin 96) :
    (l.foldl (fun v m => if h : m.t < 96 then v.set m.t false else v) v)[k] = (v[k] && !decide (∃ m ∈ l, m.t = k.val)) := by
  induction l generalizing v with
  | nil => simp
  | cons m l ih =>
    rw [List.foldl_cons, ih]
    by_cases here : m.t = k.val
    · simp [here]
    · split
      · simp [here]
      · simp [here]

theorem Berth.dropDoor_trainEnable (r : Berth) (d : DoorNo) (k : Fin 96) : (r.dropDoor d).trainEnable[k]
    = (r.trainEnable[k] && !decide (∃ m ∈ r.matchList, m.p = d ∧ m.t = k.val)) := by
  have drop := dropTrainDoors_getElem (r.matchList.filter fun m => m.p == d) r.trainEnable k
  simp only [List.mem_filter, beq_iff_eq, and_assoc] at drop
  exact drop

end Sys2Proof.Machine

namespace Sys2Proof.Machine

/-! # Re-adoption (R117) -/

/-- The record that a re-adoption starts from: its timers stopped, its causes gone, the status taken. -/
def Door.retaken (r : Door) (u : UnitStatus) (iso : Bool) : Door :=
  { r.still with lastStatus := some u, isoKey := some iso, reopenCount := 0, returning := false }

/-- The record that a re-adoption leaves of a door whose isolation key is off and whose entry is in service (R117). -/
def Door.adopt (r : Door) (m : MotionLimits) (u : UnitStatus) (c : HeldCause) : Door :=
  if u.faultCode ≠ 0 then (r.retaken u false).enterFault .unitFault
  else if u.manual then (r.retaken u false).enterManual
  else if u.leaf = .closed ∧ u.lock = true then (r.retaken u false).closedThenReasons m
  else (r.retaken u false).enterHeld c

/-- The held cause of the last finding of R117. -/
def heldOnReturn (recovered : Bool) : HeldCause := if recovered then .commRecovered else .startOpen

theorem heldOnReturn_order (recovered : Bool) : (heldOnReturn recovered).order = .none := by cases recovered <;> rfl

/-- A re-adopted door is as R117 says. -/
theorem Door.adopt_readopted (r : Door) (m : MotionLimits) (u : UnitStatus) {c : HeldCause} (order : c.order = .none) :
    Readopted r (r.adopt m u c) u c := by
  unfold Door.adopt
  split
  next code =>
    exact ⟨rfl, rfl, rfl, rfl, fun _ => ⟨rfl, rfl, rfl⟩, fun h => absurd h code, fun h => absurd h code, fun h => absurd h code⟩
  next sound =>
    have noFault := not_not.mp sound
    split
    next manual =>
      exact ⟨rfl, rfl, rfl, rfl, fun h => absurd noFault h, fun _ _ => ⟨rfl, rfl, rfl⟩, fun _ h => by simp [manual] at h,
        fun _ h => by simp [manual] at h⟩
    next noManual =>
      split
      next shut =>
        by_cases none : r.reasons = .empty
        · rw [Door.closedThenReasons_idle (r := r.retaken u false) m none]
          exact ⟨rfl, rfl, rfl, rfl, fun h => absurd noFault h, fun _ h => absurd h noManual,
            fun _ _ _ _ => ⟨fun _ => ⟨rfl, rfl⟩, fun h => absurd none h⟩, fun _ _ h => by simp [shut] at h⟩
        · rw [Door.closedThenReasons_opens (r := r.retaken u false) m none]
          exact ⟨rfl, rfl, rfl, rfl, fun h => absurd noFault h, fun _ h => absurd h noManual,
            fun _ _ _ _ => ⟨fun h => absurd h none, fun _ => ⟨rfl, rfl, rfl⟩⟩, fun _ _ h => by simp [shut] at h⟩
      next notShut =>
        exact ⟨rfl, rfl, rfl, rfl, fun h => absurd noFault h, fun _ h => absurd h noManual,
          fun _ _ closed locked => absurd ⟨closed, locked⟩ notShut, fun _ _ _ => ⟨rfl, rfl, order⟩⟩

/-- The state of a re-adopted door is one of five. -/
theorem Readopted.state {r t : Door} {u : UnitStatus} {c : HeldCause} (h : Readopted r t u c) :
    (u.faultCode ≠ 0 ∧ t.state = .fault) ∨ (u.faultCode = 0 ∧ u.manual = true ∧ t.state = .releasedManual)
    ∨ (u.faultCode = 0 ∧ u.manual = false ∧ u.leaf = .closed ∧ u.lock = true
        ∧ (t.state = .closed ∧ r.reasons = .empty ∨ t.state = .opening ∧ r.reasons ≠ .empty))
    ∨ (u.faultCode = 0 ∧ u.manual = false ∧ t.state = .held) := by
  obtain ⟨-, -, -, -, fault, manual, shut, held⟩ := h
  by_cases code : u.faultCode = 0
  · cases released : u.manual with
    | true => exact .inr (.inl ⟨code, rfl, (manual code released).1⟩)
    | false =>
      by_cases closed : u.leaf = .closed ∧ u.lock = true
      · obtain ⟨shutLeaf, locked⟩ := closed
        obtain ⟨idle, opens⟩ := shut code released shutLeaf locked
        by_cases none : r.reasons = .empty
        · exact .inr (.inr (.inl ⟨code, rfl, shutLeaf, locked, .inl ⟨(idle none).1, none⟩⟩))
        · exact .inr (.inr (.inl ⟨code, rfl, shutLeaf, locked, .inr ⟨(opens none).1, none⟩⟩))
      · have ajar : u.leaf ≠ .closed ∨ u.lock = false := by
          rw [← Bool.not_eq_true]; exact not_and_or.mp closed
        exact .inr (.inr (.inr ⟨code, rfl, (held code released ajar).1⟩))
  · exact .inl ⟨code, (fault code).1⟩

theorem Readopted.serves {r t : Door} {u : UnitStatus} {c : HeldCause} (h : Readopted r t u c) :
    t.state ≠ .unknown ∧ t.state ≠ .outOfService ∧ t.state ≠ .closing := by
  rcases h.state with ⟨-, e⟩ | ⟨-, -, e⟩ | ⟨-, -, -, -, ⟨e, -⟩ | ⟨e, -⟩⟩ | ⟨-, -, e⟩
  all_goals rw [e]; decide

section
variable (s : State) (d : DoorNo) (u : UnitStatus) (iso recovered : Bool)

/-- A door in service with its key off is re-adopted by R117, and told of. -/
theorem State.readopt_adopts (entry : (s.pdt d).inService = true) : ∃ ts : List Telegram, s.readopt d u false recovered
    = (s.setDoor d ((s.door d).adopt (s.limits d) u (heldOnReturn recovered))).tell ts := by
  have key : ¬ (false = true ∨ ((s.setDoor d ((s.door d).retaken u false)).pdt d).inService = false) := by
    rintro (h | h)
    · exact absurd h (by decide)
    · exact absurd (entry.symm.trans h) (by decide)
  refine Exists.imp (fun ts e => (if_neg key).trans e) ?_
  unfold Door.adopt
  split
  · refine ⟨s.eventOf .doorFault d.val (enc1 FaultCause.unitFault.code), (State.faultDoor_eq_tell _ d (by decide)).trans ?_⟩
    rw [State.door_setDoor_same, State.setDoor_setDoor]
    rfl
  · split
    · refine ⟨s.eventOf .manualRelease d.val (enc1 (s.door d).state.code), (State.raise_eq_tell ..).trans ?_⟩
      rw [State.setDoor_setDoor]
      rfl
    · refine ⟨[], ?_⟩
      rw [State.tell_nil]
      split <;> exact State.setDoor_setDoor ..

/-- A door whose key is on, or whose entry is out of service, leaves service, or stays out (R117, first finding). -/
theorem State.readopt_isolated (h : iso = true ∨ (s.pdt d).inService = false) :
    s.readopt d u iso recovered = if (s.door d).state = .outOfService then s.setDoor d ((s.door d).retaken u iso).enterOut
      else (s.setDoor d ((s.door d).retaken u iso)).leaveService d := by
  refine (if_pos h).trans ?_
  rw [State.setDoor_setDoor]
  rfl

/-- A re-adoption touches no other door's record. -/
theorem State.readopt_other {c : DoorNo} (ne : c ≠ d) : (s.readopt d u iso recovered).door c = s.door c := by
  by_cases out : iso = true ∨ (s.pdt d).inService = false
  · rw [State.readopt_isolated s d u iso recovered out]
    split
    · exact State.door_setDoor_ne _ _ ne
    · rw [State.leaveService_other _ ne, State.door_setDoor_ne _ _ ne]
  · obtain ⟨key, entry⟩ := not_or.mp out
    obtain rfl : iso = false := by simpa using key
    obtain ⟨ts, e⟩ := State.readopt_adopts s d u recovered (by simpa using entry)
    rw [e, State.tell_door, State.door_setDoor_ne _ _ ne]

/-- The status re-adopted from becomes the last known one. -/
theorem State.readopt_seen : ((s.readopt d u iso recovered).door d).seen = (some u, some iso) := by
  by_cases out : iso = true ∨ (s.pdt d).inService = false
  · rw [State.readopt_isolated s d u iso recovered out]
    split
    · rw [State.door_setDoor_same]; rfl
    · rw [State.leaveService_door, State.door_setDoor_same]; rfl
  · obtain ⟨key, entry⟩ := not_or.mp out
    obtain rfl : iso = false := by simpa using key
    obtain ⟨ts, e⟩ := State.readopt_adopts s d u recovered (by simpa using entry)
    obtain ⟨status, isoKey, -⟩ := (s.door d).adopt_readopted (s.limits d) u (heldOnReturn_order recovered)
    rw [e, State.tell_door, State.door_setDoor_same]
    exact Prod.ext status isoKey

theorem State.doorEvent_door {f : State → State} (c : DoorNo) : (s.doorEvent d f).door c = (f s).door c :=
  (s.doorEvent_handed d f).door c

/-! ## Re-adoption as one event, and FIRE on a return to service (R135, R182) -/

/-- FIRE stands with ALL_IN_SERVICE, so that a door returning to service takes it (R182). -/
def State.FireReturns (s : State) : Prop := OverrideKind.fire ∈ s.ou.list ∧ s.settings.fireScope = .allInService

/-- The re-adoption itself, as one event. -/
def State.readoption (s : State) (d : DoorNo) (u : UnitStatus) (iso recovered : Bool) : State :=
  s.doorEvent d fun s => s.readopt d u iso recovered

theorem State.readoption_handed : Handed (s.readopt d u iso recovered) (s.readoption d u iso recovered) :=
  s.doorEvent_handed d fun s => s.readopt d u iso recovered

theorem State.readoption_ts : (s.readoption d u iso recovered).ts = s.ts :=
  State.ts_of_ground (doorEvent_ground (s.readopt_ground d u iso recovered))

theorem State.readoption_fireReturns : (s.readoption d u iso recovered).FireReturns ↔ s.FireReturns := by
  have list : (s.readoption d u iso recovered).ou.list = s.ou.list := by
    rw [(s.readoption_handed d u iso recovered).ou]
    exact congrArg Edge.list (s.readopt_act d u iso recovered).edge
  unfold State.FireReturns
  rw [list, State.settings_congr (s.readoption_ts d u iso recovered)]

theorem State.fireReturns_iff (s : State) : s.present .fire = true ∧ s.settings.fireScope = .allInService ↔ s.FireReturns := by
  rw [State.present, decide_eq_true_iff]
  rfl

variable {s d u iso recovered}

/-- A door that does not return to service, or under no such FIRE, or that leaves service, is only re-adopted. -/
theorem State.readoptEvent_plain (h : ((s.door d).state ≠ .outOfService ∧ (s.door d).returning = false) ∨ ¬ s.FireReturns
      ∨ ((s.readopt d u iso recovered).door d).state = .outOfService) :
    s.readoptEvent d u iso recovered = s.readoption d u iso recovered := by
  refine (ite_eq_right_iff.mpr fun ⟨returns, serves⟩ => ?_)
  rcases h with ⟨inService, taken⟩ | noFire | out
  · rcases returns with e | e
    · exact absurd e inService
    · rw [taken] at e; exact absurd e (by decide)
  · exact if_neg fun fire => noFire ((s.readoption_fireReturns d u iso recovered).mp ((State.fireReturns_iff _).mp fire))
  · have gone : ((s.readoption d u iso recovered).door d).state = .outOfService := by
      rw [(s.readoption_handed d u iso recovered).door]; exact out
    exact absurd gone (bne_iff_ne.mp serves)

/-- A door that returns to service under FIRE with ALL_IN_SERVICE takes FIRE once it is re-adopted (R182). -/
theorem State.readoptEvent_fires (returns : (s.door d).state = .outOfService ∨ (s.door d).returning = true)
    (fire : s.FireReturns) (serves : ((s.readopt d u iso recovered).door d).state ≠ .outOfService) :
    s.readoptEvent d u iso recovered = (s.readoption d u iso recovered).addReason d .fire := by
  have stays : (s.readoption d u iso recovered).inService d = true := by
    refine bne_iff_ne.mpr ?_
    rw [(s.readoption_handed d u iso recovered).door]
    exact serves
  refine (if_pos ⟨returns, stays⟩).trans (if_pos ?_)
  exact (State.fireReturns_iff _).mpr ((s.readoption_fireReturns d u iso recovered).mpr fire)

/-- Whether or not FIRE follows. -/
theorem State.readoptEvent_cases (s : State) (d : DoorNo) (u : UnitStatus) (iso recovered : Bool) :
    s.readoptEvent d u iso recovered = s.readoption d u iso recovered
    ∨ s.readoptEvent d u iso recovered = (s.readoption d u iso recovered).addReason d .fire := by
  by_cases h : ((s.door d).state = .outOfService ∨ (s.door d).returning = true) ∧ s.FireReturns
      ∧ ((s.readopt d u iso recovered).door d).state ≠ .outOfService
  · obtain ⟨returns, fire, serves⟩ := h
    exact .inr (State.readoptEvent_fires returns fire serves)
  · refine .inl (State.readoptEvent_plain ?_)
    simpa only [not_and_or, not_or, not_not, Bool.not_eq_true, ne_eq] using h

theorem State.readoptEvent_other {c : DoorNo} (ne : c ≠ d) : (s.readoptEvent d u iso recovered).door c = s.door c := by
  have event : (s.readoption d u iso recovered).door c = s.door c :=
    ((s.readoption_handed d u iso recovered).door c).trans (s.readopt_other d u iso recovered ne)
  rcases s.readoptEvent_cases d u iso recovered with e | e
  · rw [e, event]
  · rw [e, State.addReason, State.putReason_other _ _ _ _ _ ne, event]

theorem State.readoptEvent_seen : ((s.readoptEvent d u iso recovered).door d).seen = (some u, some iso) := by
  have event : ((s.readoption d u iso recovered).door d).seen = (some u, some iso) := by
    rw [(s.readoption_handed d u iso recovered).door]
    exact s.readopt_seen d u iso recovered
  rcases s.readoptEvent_cases d u iso recovered with e | e
  · rw [e, event]
  · rw [e, State.addReason, State.putReason_door, Door.withReasons_seen, event]

theorem State.readoption_door (entry : (s.pdt d).inService = true) : (s.readoption d u false recovered).door d
    = (s.door d).adopt (s.limits d) u (heldOnReturn recovered) := by
  obtain ⟨ts, e⟩ := State.readopt_adopts s d u recovered entry
  rw [(s.readoption_handed d u false recovered).door, e, State.tell_door, State.door_setDoor_same]

end
end Sys2Proof.Machine

namespace Sys2Proof.Machine

/-! # The status taken, by the state it finds (R115) -/

/-- The door neither leaves service nor re-adopts at a status with this isolation key. -/
def State.Stays (s : State) (d : DoorNo) (iso : Bool) : Prop :=
  (iso = false ∧ (s.door d).state ≠ .unknown ∧ (s.door d).state ≠ .outOfService)
    ∨ ((s.door d).state = .outOfService ∧ (iso = true ∨ (s.pdt d).inService = false))

section
variable {s : State} {d : DoorNo} {u : UnitStatus} {iso : Bool}

/-- A status that finds the door UNKNOWN, or OUT_OF_SERVICE and free to return, re-adopts it (R117, R135). -/
theorem State.applyStatus_readopts (h : (s.door d).state = .unknown
      ∨ ((s.door d).state = .outOfService ∧ iso = false ∧ (s.pdt d).inService = true)) :
    s.applyStatus d u iso = s.readoptEvent d u iso false := by
  unfold State.applyStatus
  dsimp only
  split
  · rfl
  next known => exact if_pos (h.resolve_left known)

/-- Rules 2 to 4 work a door that stays in service, or out of it. -/
theorem State.applyStatus_stays (h : s.Stays d iso) : s.applyStatus d u iso = s.doorEvent d fun s' =>
    (s'.setDoor d ((s.door d).shown u iso)).applyRules d u (s.door d).manualSeen := by
  have noReadoption : (s.door d).state ≠ .unknown
      ∧ ¬ ((s.door d).state = .outOfService ∧ iso = false ∧ (s.pdt d).inService = true) := by
    rcases h with ⟨-, known, serves⟩ | ⟨out, shut⟩
    · exact ⟨known, fun ⟨out, _⟩ => serves out⟩
    · refine ⟨by rw [out]; decide, fun ⟨_, key, entry⟩ => ?_⟩
      rcases shut with e | e
      · rw [e] at key; exact absurd key (by decide)
      · rw [e] at entry; exact absurd entry (by decide)
  have notLeaving : ¬ (iso = true ∧ (s.door d).state ≠ .outOfService) := by
    rintro ⟨key, serves⟩
    rcases h with ⟨e, -⟩ | ⟨out, -⟩
    · rw [e] at key; exact absurd key (by decide)
    · exact serves out
  unfold State.applyStatus
  dsimp only
  rw [if_neg noReadoption.1, if_neg noReadoption.2]
  congr 1
  funext s'
  exact if_neg notLeaving

theorem State.applyStatus_door (h : s.Stays d iso) (c : DoorNo) : (s.applyStatus d u iso).door c
    = ((s.setDoor d ((s.door d).shown u iso)).applyRules d u (s.door d).manualSeen).door c := by
  rw [State.applyStatus_stays h, State.doorEvent_door]

/-- The isolation key takes a door out of service, whatever its state (R134). -/
theorem State.applyStatus_isolated (serves : (s.door d).state ≠ .outOfService) :
    Handed ((s.setDoor d ((s.door d).shown u true)).leaveService d) (s.applyStatus d u true) := by
  by_cases unknown : (s.door d).state = .unknown
  · have left : s.readopt d u true false = (s.setDoor d ((s.door d).shown u true)).leaveService d := by
      have same : ((s.door d).retaken u true).enterOut = ((s.door d).shown u true).enterOut := rfl
      rw [State.readopt_isolated s d u true false (.inl rfl), if_neg serves, State.leaveService, State.leaveService,
        State.door_setDoor_same, State.door_setDoor_same, State.setDoor_setDoor, State.setDoor_setDoor, same]
    have out : ((s.readopt d u true false).door d).state = .outOfService := by
      rw [left, State.leaveService_door]; rfl
    rw [State.applyStatus_readopts (.inl unknown), State.readoptEvent_plain (.inr (.inr out)), ← left]
    exact s.readoption_handed d u true false
  · have event : s.applyStatus d u true
        = s.doorEvent d fun s' => (s'.setDoor d ((s.door d).shown u true)).leaveService d := by
      unfold State.applyStatus
      dsimp only
      rw [if_neg unknown, if_neg fun h => serves h.1]
      congr 1
      funext s'
      exact if_pos ⟨rfl, serves⟩
    rw [event]
    exact s.doorEvent_handed d fun s' => (s'.setDoor d ((s.door d).shown u true)).leaveService d

/-- A status re-adopts the door, takes it out of service, or is worked by rules 2 to 4. -/
theorem State.applyStatus_which (s : State) (d : DoorNo) (iso : Bool) :
    ((s.door d).state = .unknown ∨ ((s.door d).state = .outOfService ∧ iso = false ∧ (s.pdt d).inService = true))
    ∨ (iso = true ∧ (s.door d).state ≠ .outOfService) ∨ s.Stays d iso := by
  unfold State.Stays
  by_cases unknown : (s.door d).state = .unknown
  · exact .inl (.inl unknown)
  · by_cases out : (s.door d).state = .outOfService
    · cases iso
      · cases entry : (s.pdt d).inService
        · exact .inr (.inr (.inr ⟨out, .inr rfl⟩))
        · exact .inl (.inr ⟨out, rfl, rfl⟩)
      · exact .inr (.inr (.inr ⟨out, .inl rfl⟩))
    · cases iso
      · exact .inr (.inr (.inl ⟨rfl, unknown, out⟩))
      · exact .inr (.inl ⟨rfl, out⟩)

/-- A status touches no other door's record. -/
theorem State.applyStatus_other {c : DoorNo} (ne : c ≠ d) : (s.applyStatus d u iso).door c = s.door c := by
  rcases s.applyStatus_which d iso with readopts | ⟨rfl, serves⟩ | stays
  · rw [State.applyStatus_readopts readopts, State.readoptEvent_other ne]
  · rw [(State.applyStatus_isolated serves).door, State.leaveService_other _ ne, State.door_setDoor_ne _ _ ne]
  · obtain ⟨r, ts, -, e⟩ := (s.setDoor d ((s.door d).shown u iso)).applyRules_writes d u (s.door d).manualSeen
    rw [State.applyStatus_door stays, e, State.tell_door, State.setDoor_setDoor, State.door_setDoor_ne _ _ ne]

/-- The status becomes the last known one. -/
theorem State.applyStatus_seen : ((s.applyStatus d u iso).door d).seen = (some u, some iso) := by
  rcases s.applyStatus_which d iso with readopts | ⟨rfl, serves⟩ | stays
  · rw [State.applyStatus_readopts readopts, State.readoptEvent_seen]
  · rw [(State.applyStatus_isolated serves).door, State.leaveService_door, State.door_setDoor_same]
    rfl
  · obtain ⟨r, ts, seen, e⟩ := (s.setDoor d ((s.door d).shown u iso)).applyRules_writes d u (s.door d).manualSeen
    rw [State.applyStatus_door stays, e, State.tell_door, State.door_setDoor_same, seen, State.door_setDoor_same]
    rfl

/-! ## A door that leaves service by its key (R84, R134, R164, R186) -/

theorem State.isolated_door (serves : (s.door d).state ≠ .outOfService) :
    (s.applyStatus d u true).door d = ((s.door d).shown u true).enterOut := by
  rw [(State.applyStatus_isolated serves).door, State.leaveService_door, State.door_setDoor_same]

/-- A berth that does not enable the door keeps its record but for what the hand-over of the loop does to its proof. -/
theorem State.isolated_berth (serves : (s.door d).state ≠ .outOfService) (b : BerthId) :
    (s.applyStatus d u true).berth b = { (s.berth b).leftBy d with
      state := ((s.applyStatus d u true).berth b).state, permit := ((s.applyStatus d u true).berth b).permit
      proofTimer := ((s.applyStatus d u true).berth b).proofTimer } := by
  have berth : (s.setDoor d ((s.door d).shown u true)).berth b = s.berth b := by cases b <;> rfl
  have handed := (State.applyStatus_isolated (u := u) serves).berth b
  rw [State.leaveService_berth, berth] at handed
  exact handed

theorem State.isolated_zone (serves : (s.door d).state ≠ .outOfService) (z : ZoneId) :
    (s.applyStatus d u true).zone d z = if (s.pdt d).inService = true then (s.zone d z).map ZoneRec.leave else none := by
  rw [State.zone_congr (State.applyStatus_isolated serves).zones, State.leaveService_zoneHere]
  rfl

theorem State.isolated_key (serves : (s.door d).state ≠ .outOfService) : (s.applyStatus d u true).key d =
    if (s.pdt d).inService = true then (if s.key d = .onGranted then .onNotGranted else s.key d) else .unseen := by
  rw [State.key_congr (State.applyStatus_isolated serves).ou, State.leaveService_key]
  rfl

/-! ## A door that stays (R115, rules 2 to 4) -/

theorem DoorState.seesFaultCode_of_seesManual {st : DoorState} (h : st.seesManual = true) : st.seesFaultCode = true := by
  cases st <;> simp_all [DoorState.seesManual, DoorState.seesFaultCode]

/-- A door whose unit fault code acts is neither UNKNOWN nor OUT_OF_SERVICE. -/
theorem State.stays_of_seesFaultCode (sees : (s.door d).state.seesFaultCode = true) : s.Stays d false := by
  refine .inl ⟨rfl, fun e => ?_, fun e => ?_⟩
  all_goals rw [e] at sees; exact absurd sees (by decide)

/-- Rule 2: a fault code (R115). -/
theorem State.status_fault (code : u.faultCode ≠ 0) (sees : (s.door d).state.seesFaultCode = true) :
    (s.applyStatus d u false).door d = ((s.door d).shown u false).enterFault .unitFault := by
  rw [State.applyStatus_door (State.stays_of_seesFaultCode sees),
    State.applyRules_fault code (by rw [State.door_setDoor_same]; exact sees), State.faultDoor_door _ _ (by decide),
    State.door_setDoor_same]

/-- Rule 3: the manual release newly on (R115, R132). -/
theorem State.status_manual (noFault : u.faultCode = 0) (manual : u.manual = true) (fresh : (s.door d).manualSeen = false)
    (sees : (s.door d).state.seesManual = true) :
    (s.applyStatus d u false).door d = ((s.door d).shown u false).enterManual := by
  rw [State.applyStatus_door (State.stays_of_seesFaultCode (DoorState.seesFaultCode_of_seesManual sees)),
    State.applyRules_manual noFault manual fresh (by rw [State.door_setDoor_same]; exact sees), State.raise_eq_tell, State.tell_door,
    State.door_setDoor_same, State.door_setDoor_same]

/-- Rule 3: the manual release off again (R133). -/
theorem State.status_restored (noFault : u.faultCode = 0) (released : (s.door d).state = .releasedManual) (restored : u.manual = false)
    (was : (s.door d).manualSeen = true) :
    let t := (s.applyStatus d u false).door d
    (u.leaf = .closed → u.lock = true → (s.door d).reasons = .empty → t.state = .closed ∧ t.order = .close)
    ∧ (u.leaf = .closed → u.lock = true → (s.door d).reasons ≠ .empty → t.state = .opening ∧ t.order = .opn
        ∧ t.reasons = (s.door d).reasons ∧ t.counters.openCycles = min 65535 ((s.door d).counters.openCycles + 1))
    ∧ (u.leaf ≠ .closed ∨ u.lock = false → t.state = .held ∧ t.heldCause = some .manualRestored ∧ t.order = .none
        ∧ t.reasons = (s.door d).reasons) := by
  intro t
  have door : t = if u.leaf = .closed ∧ u.lock = true then ((s.door d).shown u false).closedThenReasons (s.limits d)
      else ((s.door d).shown u false).enterHeld .manualRestored := by
    have stays : s.Stays d false := State.stays_of_seesFaultCode (by rw [released]; rfl)
    refine (State.applyStatus_door stays d).trans ?_
    rw [State.applyRules_restored noFault restored was (by rw [State.door_setDoor_same]; exact released), State.door_setDoor_same,
      State.door_setDoor_same]
    rfl
  refine ⟨fun shut locked none => ?_, fun shut locked some => ?_, fun ajar => ?_⟩
  · rw [door, if_pos ⟨shut, locked⟩, Door.closedThenReasons_idle (r := (s.door d).shown u false) _ none]
    exact ⟨rfl, rfl⟩
  · rw [door, if_pos ⟨shut, locked⟩, Door.closedThenReasons_opens (r := (s.door d).shown u false) _ some]
    exact ⟨rfl, rfl, rfl, rfl⟩
  · rw [door, if_neg fun ⟨shut, locked⟩ => ajar.elim (fun h => h shut) fun unlocked => by simp [unlocked] at locked]
    exact ⟨rfl, rfl, rfl, rfl⟩

/-- Rule 4: with no fault and no new manual release, leaf and lock decide. -/
theorem State.status_leaf (noFault : u.faultCode = 0) (noManual : u.manual = false ∨ (s.door d).manualSeen = true)
    (sees : (s.door d).state.seesManual = true) :
    (s.applyStatus d u false).door d = ((s.setDoor d ((s.door d).shown u false)).applyLeaf d u).door d := by
  have notReleased : (s.door d).state ≠ .releasedManual := fun e => by rw [e] at sees; exact absurd sees (by decide)
  rw [State.applyStatus_door (State.stays_of_seesFaultCode (DoorState.seesFaultCode_of_seesManual sees)),
    State.applyRules_leaf (.inl noFault) (noManual.imp_right .inl) (.inr (.inr (by rw [State.door_setDoor_same]; exact notReleased)))]

/-- A status that no rule acts on is only taken, and there is no change to hand over. -/
theorem State.applyStatus_quiet (stays : s.Stays d iso) (noFault : u.faultCode = 0 ∨ (s.door d).state.seesFaultCode = false)
    (noManual : u.manual = false ∨ (s.door d).manualSeen = true ∨ (s.door d).state.seesManual = false)
    (notRestored : u.manual = true ∨ (s.door d).manualSeen = false ∨ (s.door d).state ≠ .releasedManual)
    (leaf : (s.setDoor d ((s.door d).shown u iso)).applyLeaf d u = s.setDoor d ((s.door d).shown u iso)) :
    s.applyStatus d u iso = s.setDoor d ((s.door d).shown u iso) := by
  have state : ((s.setDoor d ((s.door d).shown u iso)).door d).state = (s.door d).state := by rw [State.door_setDoor_same]; rfl
  have rules : (s.setDoor d ((s.door d).shown u iso)).applyRules d u (s.door d).manualSeen
      = s.setDoor d ((s.door d).shown u iso) := by
    rw [State.applyRules_leaf (by rw [state]; exact noFault) (by rw [state]; exact noManual) (by rw [state]; exact notRestored), leaf]
  rw [State.applyStatus_stays stays, State.doorEvent_same, rules]
  rw [rules, State.door_setDoor_same]
  rfl

/-- The states in which leaf and lock change nothing, with no rule acting. -/
theorem State.applyStatus_free (stays : s.Stays d iso) (noFault : u.faultCode = 0 ∨ (s.door d).state.seesFaultCode = false)
    (noManual : u.manual = false ∨ (s.door d).manualSeen = true ∨ (s.door d).state.seesManual = false)
    (notRestored : u.manual = true ∨ (s.door d).manualSeen = false ∨ (s.door d).state ≠ .releasedManual)
    (free : (s.door d).state.LeafFree) : s.applyStatus d u iso = s.setDoor d ((s.door d).shown u iso) :=
  State.applyStatus_quiet stays noFault noManual notRestored
    (State.applyLeaf_free u (by rw [State.door_setDoor_same]; exact free))

end

/-! ## Leaf and lock in each state (R122 to R126) -/

/-- Rule 4 of R115 decides at a door with this record: its key is off, its unit reports no fault and no new manual release. -/
structure LeafDecides (r : Door) (u : UnitStatus) : Prop where
  noFault : u.faultCode = 0
  noManual : u.manual = false ∨ r.manualSeen = true

section
variable {s : State} {d : DoorNo} {u : UnitStatus} (h : LeafDecides (s.door d) u)
include h

theorem LeafDecides.door {t : State} (sees : (s.door d).state.seesManual = true)
    (e : (s.setDoor d ((s.door d).shown u false)).applyLeaf d u = t) : (s.applyStatus d u false).door d = t.door d := by
  rw [State.status_leaf h.noFault h.noManual sees, e]

/-- A CLOSED door that is no longer closed and locked has lost its lock (R124). -/
theorem LeafDecides.closed (state : (s.door d).state = .closed) :
    let t := (s.applyStatus d u false).door d
    (u.leaf = .closed → u.lock = true → t = (s.door d).shown u false)
    ∧ (u.leaf ≠ .closed ∨ u.lock = false → t.state = .fault ∧ t.faultCause = some .lockLost ∧ t.order = .stop) := by
  intro t
  have door : t = _ := h.door (by rw [state]; rfl) (State.applyLeaf_closed u (by rw [State.door_setDoor_same]; exact state))
  refine ⟨fun shut locked => ?_, fun lost => ?_⟩
  · rw [door, if_neg (by simp [shut, locked]), State.door_setDoor_same]
  · rw [door, if_pos lost.symm, State.faultDoor_door _ _ (by decide)]
    exact ⟨rfl, rfl, rfl⟩

/-- An OPENING door is OPEN once its leaf is (R122). -/
theorem LeafDecides.opening (state : (s.door d).state = .opening) :
    let t := (s.applyStatus d u false).door d
    (u.leaf = .opened → t.state = .opened ∧ t.order = .opn ∧ t.motion = .stopped ∧ t.reasons = (s.door d).reasons)
    ∧ (u.leaf ≠ .opened → t = (s.door d).shown u false) := by
  intro t
  have door : t = _ := h.door (by rw [state]; rfl) (State.applyLeaf_opening u (by rw [State.door_setDoor_same]; exact state))
  refine ⟨fun opened => ?_, fun notYet => ?_⟩
  · rw [door, if_pos opened, State.door_setDoor_same, State.door_setDoor_same]
    exact ⟨rfl, rfl, rfl, rfl⟩
  · rw [door, if_neg notYet, State.door_setDoor_same]

/-- A CLOSING door is CLOSED once closed and locked; closed alone, it waits for its lock to prove (R123). -/
theorem LeafDecides.closing (state : (s.door d).state = .closing) :
    let t := (s.applyStatus d u false).door d
    (u.leaf = .closed → u.lock = true → t.state = .closed ∧ t.order = .close ∧ t.reopenCount = 0
      ∧ t.motion = .stopped ∧ t.lockProof = .stopped)
    ∧ (u.leaf = .closed → u.lock = false → (s.door d).lockProof = .stopped →
        t = { (s.door d).shown u false with motion := .stopped, lockProof := .running s.settings.lockProofTime })
    ∧ (u.leaf ≠ .closed ∨ (u.lock = false ∧ (s.door d).lockProof ≠ .stopped) → t = (s.door d).shown u false) := by
  intro t
  have door : t = _ := h.door (by rw [state]; rfl) (State.applyLeaf_closing u (by rw [State.door_setDoor_same]; exact state))
  rw [State.door_setDoor_same] at door
  refine ⟨fun shut locked => ?_, fun shut unlocked waits => ?_, fun nothing => ?_⟩
  · rw [door, if_pos ⟨shut, locked⟩, State.door_setDoor_same]
    exact ⟨rfl, rfl, rfl, rfl, rfl⟩
  · rw [door, if_neg (by simp [unlocked]), if_pos ⟨shut, waits⟩, State.door_setDoor_same]
    rfl
  · have notShut : ¬ (u.leaf = .closed ∧ u.lock = true) := fun ⟨shut, locked⟩ =>
      nothing.elim (fun ajar => ajar shut) fun ⟨unlocked, _⟩ => by simp [unlocked] at locked
    have notWaiting : ¬ (u.leaf = .closed ∧ ((s.door d).shown u false).lockProof = .stopped) := fun ⟨shut, waits⟩ =>
      nothing.elim (fun ajar => ajar shut) fun ⟨_, proving⟩ => proving waits
    rw [door, if_neg notShut, if_neg notWaiting, State.door_setDoor_same]

/-- A REOPENING door that is open waits to reclose (R126). -/
theorem LeafDecides.reopening (state : (s.door d).state = .reopening) :
    let t := (s.applyStatus d u false).door d
    (u.leaf = .opened → (s.door d).reclose = .stopped →
      t = { (s.door d).shown u false with motion := .stopped, reclose := .running s.settings.recloseDelay })
    ∧ (u.leaf ≠ .opened ∨ (s.door d).reclose ≠ .stopped → t = (s.door d).shown u false) := by
  intro t
  have door : t = _ := h.door (by rw [state]; rfl) (State.applyLeaf_reopening u (by rw [State.door_setDoor_same]; exact state))
  rw [State.door_setDoor_same] at door
  refine ⟨fun opened waits => ?_, fun nothing => ?_⟩
  · rw [door, if_pos ⟨opened, waits⟩, State.door_setDoor_same]
    rfl
  · rw [door, if_neg fun ⟨opened, waits⟩ => nothing.elim (fun h => h opened) fun h => h waits, State.door_setDoor_same]

theorem LeafDecides.still (state : (s.door d).state = .opened ∨ (s.door d).state = .held) :
    (s.applyStatus d u false).door d = (s.door d).shown u false := by
  have sees : (s.door d).state.seesFaultCode = true := by rcases state with e | e <;> rw [e] <;> rfl
  have free : (s.door d).state.LeafFree := by rcases state with e | e <;> rw [e] <;> simp [DoorState.LeafFree]
  have notReleased : (s.door d).state ≠ .releasedManual := by rcases state with e | e <;> rw [e] <;> decide
  rw [State.applyStatus_free (State.stays_of_seesFaultCode sees) (.inl h.noFault) (h.noManual.imp_right .inl)
    (.inr (.inr notReleased)) free, State.door_setDoor_same]

end

section
variable {s : State} {d : DoorNo} {u : UnitStatus}

/-- A door in FAULT only shows a status with its key off (R130). -/
theorem State.status_inFault (state : (s.door d).state = .fault) : s.applyStatus d u false = s.setDoor d ((s.door d).shown u false) :=
  State.applyStatus_free (.inl ⟨rfl, by rw [state]; decide, by rw [state]; decide⟩) (.inr (by rw [state]; rfl))
    (.inr (.inr (by rw [state]; rfl))) (.inr (.inr (by rw [state]; decide))) (by rw [state]; simp [DoorState.LeafFree])

/-- A door released by hand waits for the release to go off (R133). -/
theorem State.status_released (noFault : u.faultCode = 0) (state : (s.door d).state = .releasedManual)
    (released : u.manual = true ∨ (s.door d).manualSeen = false) :
    s.applyStatus d u false = s.setDoor d ((s.door d).shown u false) :=
  State.applyStatus_free (State.stays_of_seesFaultCode (by rw [state]; rfl)) (.inl noFault)
    (.inr (.inr (by rw [state]; rfl))) (released.imp_right .inl) (by rw [state]; simp [DoorState.LeafFree])

/-- A door out of service that does not return only shows its status (R134, R135). -/
theorem State.status_out {iso : Bool} (out : (s.door d).state = .outOfService) (shut : iso = true ∨ (s.pdt d).inService = false) :
    s.applyStatus d u iso = s.setDoor d ((s.door d).shown u iso) :=
  State.applyStatus_free (.inr ⟨out, shut⟩) (.inr (by rw [out]; rfl)) (.inr (.inr (by rw [out]; rfl)))
    (.inr (.inr (by rw [out]; decide))) (by rw [out]; simp [DoorState.LeafFree])

/-! ## A return to service (R117, R135, R182) -/

/-- A door that is UNKNOWN or OUT_OF_SERVICE re-adopts, and takes no FIRE where none returns. -/
theorem State.status_returns (entry : (s.pdt d).inService = true)
    (state : (s.door d).state = .unknown ∨ (s.door d).state = .outOfService)
    (plain : ¬ s.FireReturns ∨ ((s.door d).state = .unknown ∧ (s.door d).returning = false)) :
    Readopted (s.door d) ((s.applyStatus d u false).door d) u .startOpen := by
  have quiet : ((s.door d).state ≠ .outOfService ∧ (s.door d).returning = false) ∨ ¬ s.FireReturns
      ∨ ((s.readopt d u false false).door d).state = .outOfService :=
    plain.elim (fun noFire => .inr (.inl noFire)) fun ⟨unknown, taken⟩ => .inl ⟨by rw [unknown]; decide, taken⟩
  rw [State.applyStatus_readopts (state.imp_right fun out => ⟨out, rfl, entry⟩), State.readoptEvent_plain quiet,
    State.readoption_door entry]
  exact (s.door d).adopt_readopted _ u rfl

/-- A reason given to a CLOSED or HELD door that holds none drives it open (R120). -/
theorem Door.withReasons_drivesOpen {r : Door} {m : MotionLimits} {n : Reasons} (none : r.reasons = .empty) (some : n ≠ .empty)
    (state : r.state = .closed ∨ r.state = .held) : (r.withReasons m n).state = .opening ∧ (r.withReasons m n).order = .opn := by
  have notOut : ¬ r.state = .outOfService := by rcases state with e | e <;> rw [e] <;> decide
  unfold Door.withReasons
  rw [if_neg notOut, if_pos ⟨none, some⟩]
  unfold Door.reasonsArise
  rcases state with e | e <;> simp only [e] <;> exact ⟨rfl, rfl⟩

/-- Under FIRE with ALL_IN_SERVICE a door that returns to service takes FIRE, and opens unless its unit is in fault or released by
hand (R182). -/
theorem State.status_fires (entry : (s.pdt d).inService = true) (fire : s.FireReturns)
    (state : (s.door d).state = .unknown ∨ (s.door d).state = .outOfService)
    (returns : (s.door d).state = .outOfService ∨ (s.door d).returning = true) (none : (s.door d).reasons = .empty) :
    let t := (s.applyStatus d u false).door d
    t.reasons = { Reasons.empty with fire := true }
      ∧ (u.faultCode = 0 → u.manual = false → t.state = .opening ∧ t.order = .opn) := by
  have adopted := (s.door d).adopt_readopted (s.limits d) u (heldOnReturn_order false)
  obtain ⟨-, stays, -⟩ := adopted.serves
  have ⟨_, _, kept, _⟩ := adopted
  have door := State.readoption_door (u := u) (recovered := false) entry
  have serves : ((s.readopt d u false false).door d).state ≠ .outOfService := by
    rw [← (s.readoption_handed d u false false).door, door]
    exact stays
  have after : (s.applyStatus d u false).door d
      = ((s.readoption d u false false).door d).withReasons ((s.readoption d u false false).limits d)
        (((s.readoption d u false false).door d).reasons.put true .fire) := by
    rw [State.applyStatus_readopts (state.imp_right fun out => ⟨out, rfl, entry⟩), State.readoptEvent_fires returns fire serves,
      State.addReason, State.putReason_door]
  have reasons : ((s.readoption d u false false).door d).reasons = .empty := by
    rw [door, kept, none]
  rw [after, reasons]
  refine ⟨?_, fun noFault noManual => Door.withReasons_drivesOpen reasons (by decide) ?_⟩
  · rw [Door.withReasons_reasons, door, if_neg stays]
    rfl
  · rw [door]
    rcases adopted.state with ⟨code, -⟩ | ⟨-, manual, -⟩ | ⟨-, -, -, -, closed⟩ | ⟨-, -, held⟩
    · exact absurd noFault code
    · rw [noManual] at manual; exact absurd manual (by decide)
    · rcases closed with ⟨closed, -⟩ | ⟨-, some⟩
      · exact .inl closed
      · exact absurd none some
    · exact .inr held

end

end Sys2Proof.Machine

namespace Sys2Proof.Machine

/-! # A reopen trigger (R125) -/

section
variable {s : State} {d : DoorNo}

/-- It acts on a CLOSING door alone. -/
theorem State.reopenTrigger_idle (h : (s.door d).state ≠ .closing) : s.reopenTrigger d = s := by
  have idle : s.reopenOrHold d = s := if_pos h
  have event : s.reopenTrigger d = s.reopenOrHold d := State.doorEvent_same (f := fun s => s.reopenOrHold d) (by rw [idle])
  rw [event, idle]

theorem State.reopenTrigger_other {c : DoorNo} (ne : c ≠ d) : (s.reopenTrigger d).door c = s.door c :=
  (s.doorEvent_door d c).trans ((Reworked.refl d s).reopenOrHold.others c ne)

/-- Below REOPEN_LIMIT the door is driven open, and counted; at the limit it is held open. -/
theorem State.reopenTrigger_closing (closing : (s.door d).state = .closing) :
    let t := (s.reopenTrigger d).door d
    t.reasons = (s.door d).reasons ∧ t.order = .opn
    ∧ ((s.door d).reopenCount < s.settings.reopenLimit → t.state = .reopening ∧ t.reopenCount = (s.door d).reopenCount + 1
        ∧ t.counters.reopens = min 65535 ((s.door d).counters.reopens + 1)
        ∧ t.motion = .running (s.settings.openTimeLimit * 1000))
    ∧ (s.settings.reopenLimit ≤ (s.door d).reopenCount → t.state = .held ∧ t.heldCause = some .obstructed
        ∧ t.reopenCount = (s.door d).reopenCount) := by
  intro t
  have acts : ¬ (s.door d).state ≠ .closing := not_not.mpr closing
  have event : t = (s.reopenOrHold d).door d := s.doorEvent_door d d
  by_cases below : (s.door d).reopenCount < s.settings.reopenLimit
  · have driven : s.reopenOrHold d = s.setDoor d ((s.door d).enterReopening (s.limits d)) := (if_neg acts).trans (if_pos below)
    rw [event, driven, State.door_setDoor_same]
    exact ⟨rfl, rfl, fun _ => ⟨rfl, rfl, rfl, rfl⟩, fun limit => absurd below (not_lt.mpr limit)⟩
  · have held : s.reopenOrHold d = (s.setDoor d ((s.door d).enterHeld .obstructed)).raise .obstructed d.val
        (enc1 (s.door d).reopenCount) := (if_neg acts).trans (if_neg below)
    rw [event, held, State.raise_eq_tell, State.tell_door, State.door_setDoor_same]
    exact ⟨rfl, rfl, fun lower => absurd lower below, fun _ => ⟨rfl, rfl, rfl⟩⟩

end

/-! # A recovered slot (R100) -/

/-- From `s` to `t` the records of the other doors, the tables, the override list and the keys stand, and telegrams are offered. -/
structure SlotWorked (d : DoorNo) (s t : State) : Prop where
  ts : t.ts = s.ts
  ou : t.ou = s.ou
  others : ∀ c : DoorNo, c ≠ d → t.door c = s.door c
  told : ∃ ts : List Telegram, Tells s t ts

/-- Two records of a door differ at most in E, the blank count and GAP_EVENTS. -/
def GaugesOnly (q r : Door) : Prop :=
  r = { q with effort := r.effort, blank := r.blank, counters := { q.counters with gapEvents := r.counters.gapEvents } }

theorem GaugesOnly.refl (q : Door) : GaugesOnly q q := rfl
theorem GaugesOnly.trans {q r t : Door} (h : GaugesOnly q r) (k : GaugesOnly r t) : GaugesOnly q t := by
  unfold GaugesOnly at *; rw [k, h]
theorem GaugesOnly.state {q r : Door} (h : GaugesOnly q r) : r.state = q.state := by rw [h]

/-- A re-adoption is not told from the gauges. -/
theorem Readopted.gauges {r q t : Door} {u : UnitStatus} {c : HeldCause} (h : Readopted r q u c) (k : GaugesOnly q t) :
    Readopted r t u c := by
  rw [k]; exact h

/-- Acts of a slot's hand-over that leave the door its state: readings of it change, and what else `SlotWorked` leaves open. -/
structure Gauged (d : DoorNo) (s t : State) : Prop extends SlotWorked d s t where
  door : GaugesOnly (s.door d) (t.door d)

theorem Tells.refl (s : State) : Tells s s [] := ⟨rfl, by simp [LineLink.losesEvent]⟩

namespace SlotWorked
variable {d : DoorNo} {s t u : State}

theorem trans (h : SlotWorked d s t) (k : SlotWorked d t u) : SlotWorked d s u := by
  obtain ⟨ts, told⟩ := h.told
  obtain ⟨us, told'⟩ := k.told
  exact ⟨k.ts.trans h.ts, k.ou.trans h.ou, fun c ne => (k.others c ne).trans (h.others c ne), ⟨ts ++ us, tells_append told told'⟩⟩

/-- A hand-over tells the station and touches no door. -/
theorem of_handed (h : Handed s t) (told : ∃ ts : List Telegram, Tells s t ts) : SlotWorked d s t :=
  ⟨h.ts, h.ou, fun c _ => h.door c, told⟩

theorem setDoor_tell (d : DoorNo) (s : State) (r : Door) (ts : List Telegram) : SlotWorked d s ((s.setDoor d r).tell ts) :=
  ⟨rfl, rfl, fun _ ne => s.door_setDoor_ne r ne, ⟨ts, rfl, rfl⟩⟩

theorem handDoor (s : State) (d : DoorNo) : SlotWorked d s (s.handDoor d) := by
  obtain ⟨u, worked, -, e⟩ := s.handDoor_before_report d
  obtain ⟨ts, told⟩ := worked.told
  have report : Tells u (u.reportDoor d) (u.doorChange d) := by rw [State.reportDoor_eq]; exact ⟨rfl, rfl⟩
  exact .of_handed (s.handDoor_handed d) ⟨_, tells_append told.tells (e ▸ report)⟩

/-- An event on the door, with its hand-over (R116). -/
theorem doorEvent {f : State → State} (acted : SlotWorked d s (f s)) : SlotWorked d s (s.doorEvent d f) := by
  unfold State.doorEvent
  split
  · exact acted
  · exact acted.trans (.handDoor _ d)

end SlotWorked

namespace Gauged
variable {d : DoorNo} {s t u : State}

theorem refl (d : DoorNo) (s : State) : Gauged d s s := ⟨⟨rfl, rfl, fun _ _ => rfl, [], Tells.refl s⟩, .refl _⟩
theorem trans (h : Gauged d s t) (k : Gauged d t u) : Gauged d s u :=
  ⟨h.toSlotWorked.trans k.toSlotWorked, h.door.trans k.door⟩

theorem setDoor {r : Door} (h : GaugesOnly (s.door d) r) : Gauged d s (s.setDoor d r) :=
  ⟨⟨rfl, rfl, fun _ ne => s.door_setDoor_ne r ne, [], Tells.refl s⟩, by rw [State.door_setDoor_same]; exact h⟩
theorem setZone (d : DoorNo) (s : State) (z : ZoneId) (r : Option ZoneRec) : Gauged d s (s.setZone d z r) :=
  ⟨⟨rfl, rfl, fun _ _ => rfl, [], Tells.refl s⟩, .refl _⟩
theorem raise (d : DoorNo) (s : State) (e : EventKind) (n : Nat) (items : List Byte) : Gauged d s (s.raise e n items) := by
  rw [State.raise_eq_tell]
  exact ⟨⟨rfl, rfl, fun _ _ => rfl, _, s.tells_tell _⟩, .refl _⟩
theorem handProofOfZone (d : DoorNo) (s : State) (z : Zone) : Gauged d s (s.handProofOfZone z) := by
  obtain ⟨ts, told⟩ := (s.handProofOfZone_worked z).told
  have handed := s.handProofOfZone_handed z
  exact ⟨.of_handed handed ⟨ts, told.tells⟩, by rw [handed.door]; exact .refl _⟩

theorem handGap (d : DoorNo) (s : State) (z : ZoneId) : Gauged d s (s.handGap d z) := by
  unfold State.handGap
  split
  · exact .handProofOfZone d s _
  · exact .refl d s

/-- A fold of acts that each keep the door off CLOSING. -/
theorem foldl {α : Type} {act : State → α → State} (each : ∀ t x, (t.door d).state ≠ .closing → Gauged d t (act t x)) (l : List α)
    {s : State} (still : (s.door d).state ≠ .closing) : Gauged d s (l.foldl act s) := by
  induction l generalizing s with
  | nil => exact .refl d s
  | cons x l ih =>
    have one := each s x still
    exact one.trans (ih (by rw [one.door.state]; exact still))

/-! ## Samples at a door that is not closing (R154 to R170) -/

section
variable (still : (s.door d).state ≠ .closing)
include still

theorem gapSensed (z : ZoneId) (p : SensingProfile) (occupied : Bool) : Gauged d s (s.gapSensed d z p occupied) := by
  unfold State.gapSensed
  split
  · have gauge : GaugesOnly (s.door d) ((s.door d).count DoorCounters.incGapEvents) := rfl
    have counted : Gauged d s ((s.countDoor d DoorCounters.incGapEvents).raise .gapOccupied d.val (enc1 z.idx.val)) :=
      (setDoor gauge).trans (.raise d _ _ _ _)
    have intruded := counted.trans (.raise d _ .intrusion d.val (enc1 z.idx.val))
    dsimp only
    split
    · rw [State.reopenTrigger_idle]
      · split
        · exact intruded
        · exact counted
      · split
        · rw [intruded.door.state]; exact still
        · rw [counted.door.state]; exact still
    · split
      · exact intruded
      · exact counted
  · exact .refl d s

theorem handSensed (z : ZoneId) (p : SensingProfile) (occupied : Bool) : Gauged d s (s.handSensed d z p occupied) := by
  cases gap : z.isGap with
  | true =>
    rw [State.handSensed_gap _ _ _ gap]
    exact (gapSensed still z p occupied).trans (.handProofOfZone d _ _)
  | false =>
    rw [State.handSensed_outer _ _ _ gap, State.reopenTrigger_idle still, ite_self]
    exact .refl d s

theorem sampleZone (bit : Bool) (z : ZoneId) : Gauged d s (s.sampleZone d bit z) := by
  have handed : ∀ (same : Prop) [Decidable same] (r : Option ZoneRec) (p : SensingProfile) (occupied : Bool),
      Gauged d s (if same then s.setZone d z r else (s.setZone d z r).handSensed d z p occupied) := by
    intro same _ r p occupied
    have written := setZone d s z r
    split
    · exact written
    · exact written.trans (handSensed (by exact still) z p occupied)
  unfold State.sampleZone
  split
  · split
    · exact .refl d s
    · dsimp only
      split
      · exact ((handed _ _ _ _).trans (.raise d _ _ _ _)).trans (.handGap d _ z)
      · exact handed _ _ _ _
  · exact .refl d s

theorem takeSensors (y : Reply) : Gauged d s (s.takeSensors d y) :=
  foldl (fun _ z still => sampleZone still (y.sensor z) z) _ still

end
end Gauged

end Sys2Proof.Machine

namespace Sys2Proof.Machine

/-! ## Zones: a recovery notice, and the first sample after it (R155, R156, R163) -/

theorem State.handGap_handed (s : State) (d : DoorNo) (z : ZoneId) : Handed s (s.handGap d z) := by
  unfold State.handGap
  split
  · exact s.handProofOfZone_handed _
  · exact .refl s

theorem State.reopenTrigger_zones (s : State) (d : DoorNo) : (s.reopenTrigger d).zones = s.zones := by
  have act : (s.reopenOrHold d).zones = s.zones := by rw [(Reworked.refl d s).reopenOrHold.frame]
  exact (s.doorEvent_handed d fun s => s.reopenOrHold d).zones.trans act

theorem State.gapSensed_zones (s : State) (d : DoorNo) (z : ZoneId) (p : SensingProfile) (occupied : Bool) :
    (s.gapSensed d z p occupied).zones = s.zones := by
  unfold State.gapSensed State.countDoor
  dsimp only
  split
  · split
    · rw [State.reopenTrigger_zones]; split <;> simp
    · split <;> simp
  · rfl

theorem State.handSensed_zones (s : State) (d : DoorNo) (z : ZoneId) (p : SensingProfile) (occupied : Bool) :
    (s.handSensed d z p occupied).zones = s.zones := by
  cases gap : z.isGap with
  | true => rw [State.handSensed_gap _ _ _ gap, (State.handProofOfZone_handed _ _).zones, State.gapSensed_zones]
  | false =>
    rw [State.handSensed_outer _ _ _ gap]
    split
    · exact s.reopenTrigger_zones d
    · rfl

/-- A sample writes one zone record, if any. -/
theorem State.sampleZone_zones (s : State) (d : DoorNo) (bit : Bool) (z : ZoneId) :
    ∃ x : Option ZoneRec, (s.sampleZone d bit z).zones = (s.setZone d z x).zones := by
  have none : ∃ x : Option ZoneRec, s.zones = (s.setZone d z x).zones := ⟨s.zone d z, by rw [State.setZone_self]⟩
  have handed : ∀ (same : Prop) [Decidable same] (r : Option ZoneRec) (p : SensingProfile) (occupied : Bool),
      (if same then s.setZone d z r else (s.setZone d z r).handSensed d z p occupied).zones = (s.setZone d z r).zones := by
    intro same _ r p occupied
    split
    · rfl
    · exact State.handSensed_zones ..
  unfold State.sampleZone
  split
  · split
    · exact none
    · dsimp only
      split
      · exact ⟨_, (State.handGap_handed _ d z).zones.trans ((State.raise_zones ..).trans (handed _ _ _ _))⟩
      · exact ⟨_, handed _ _ _ _⟩
  · exact none

theorem State.sampleZone_zone_ne (s : State) (d : DoorNo) (bit : Bool) {y z : ZoneId} (ne : y ≠ z) :
    (s.sampleZone d bit z).zone d y = s.zone d y := by
  obtain ⟨x, e⟩ := s.sampleZone_zones d bit z
  rw [State.zone_congr e, State.zone_setZone_ne _ _ _ ne]

/-- The record of a zone after the first sample of an empty window (R155, R156). -/
def ZoneRec.first (p : SensingProfile) (bit : Bool) : ZoneRec :=
  let n := if bit = true then 1 else 0
  { window := [bit], count := n, state := if p.kOn ≤ n then .occupied else .clear, run := if p.kOn ≤ n then 1 else 0
    forced := false }

theorem ZoneRec.sample_fresh {p : SensingProfile} (n : 1 ≤ p.n) (bit : Bool) : ZoneRec.fresh.sample p bit = .first p bit := by
  have window : pushSample [] p.n bit = [bit] := if_neg (not_lt.mpr n)
  have count : occupiedCount [bit] = if bit = true then 1 else 0 := by cases bit <;> rfl
  unfold ZoneRec.sample ZoneRec.first ZoneRec.fresh
  simp only [window, count, decideZone]
  generalize (if bit = true then 1 else 0 : Nat) = k
  by_cases on : p.kOn ≤ k <;> simp [on, satInc]

theorem State.zone_first {s : State} {d : DoorNo} {z : ZoneId} {p : SensingProfile} (serves : (s.door d).state ≠ .outOfService)
    (sensing : s.sensing d = some p) (n : 1 ≤ p.n) (limit : p.stuckLimit ≠ 1) (fresh : s.zone d z = some .fresh) (bit : Bool) :
    (s.sampleZone d bit z).zone d z = some (.first p bit) := by
  have free : ¬ (s.inService d = false ∨ ZoneRec.fresh.forced = true) := by
    simp [State.inService, serves, ZoneRec.fresh]
  have notStuck : s.becomesStuck d p (.first p bit) = false := by
    have run : (ZoneRec.first p bit).run ≤ 1 := by
      unfold ZoneRec.first
      dsimp only
      split_ifs <;> omega
    unfold State.becomesStuck
    simp only [Bool.and_eq_false_iff, bne_eq_false_iff_eq, decide_eq_false_iff_not]
    omega
  unfold State.sampleZone
  simp only [fresh, sensing, if_neg free, ZoneRec.sample_fresh n, notStuck, Bool.false_eq_true, if_false]
  split
  · exact State.zone_setZone_same ..
  · rw [State.zone_congr (State.handSensed_zones ..), State.zone_setZone_same]

/-- In a fold over distinct places one place is worked once, from a state that the acts before it have kept in `P`. -/
theorem foldl_once {ι β σ : Type} [DecidableEq ι] (read : σ → ι → β) (P : σ → Prop) (act : σ → ι → σ) {i : ι} {x y : β}
    (kept : ∀ t j, P t → P (act t j)) (other : ∀ t j, i ≠ j → read (act t j) i = read t i)
    (own : ∀ t, P t → read t i = x → read (act t i) i = y) {l : List ι} (distinct : l.Nodup) (mem : i ∈ l) {s : σ} (start : P s)
    (before : read s i = x) : read (l.foldl act s) i = y := by
  have untouched : ∀ (l : List ι) (t : σ), i ∉ l → read (l.foldl act t) i = read t i := by
    intro l
    induction l with
    | nil => exact fun _ _ => rfl
    | cons j l ih =>
      intro t out
      obtain ⟨ne, out⟩ := not_or.mp (List.mem_cons.not.mp out)
      rw [List.foldl_cons, ih _ out, other t j ne]
  induction l generalizing s with
  | nil => exact absurd mem (by simp)
  | cons j l ih =>
    obtain ⟨fresh, distinct⟩ := List.nodup_cons.mp distinct
    rw [List.foldl_cons]
    by_cases here : i = j
    · subst here
      rw [untouched l _ fresh, own s start before]
    · exact ih distinct ((List.mem_cons.mp mem).resolve_left here) (kept s j start) ((other s j here).trans before)

theorem mem_allZoneIds (z : ZoneId) : z ∈ allZoneIds := by cases z <;> decide

/-- The sensor bits of a reply are the first samples of zones that start afresh. -/
theorem State.takeSensors_first {s : State} {d : DoorNo} {z : ZoneId} {p : SensingProfile} (y : Reply)
    (serves : (s.door d).state ≠ .outOfService) (still : (s.door d).state ≠ .closing) (sensing : s.sensing d = some p)
    (n : 1 ≤ p.n) (limit : p.stuckLimit ≠ 1) (fresh : s.zone d z = some .fresh) :
    (s.takeSensors d y).zone d z = some (.first p (y.sensor z)) := by
  refine foldl_once (fun t z => t.zone d z) (Gauged d s) (fun t z => t.sampleZone d (y.sensor z) z)
    (fun t z kept => kept.trans (.sampleZone (by rw [kept.door.state]; exact still) _ z))
    (fun t z ne => t.sampleZone_zone_ne d _ ne) (fun t kept before => ?_) (by decide) (mem_allZoneIds z) (.refl d s) fresh
  exact State.zone_first (by rw [kept.door.state]; exact serves) (by rw [State.sensing_congr kept.ts]; exact sensing) n limit before _

/-- One zone of a recovery notice (R163). -/
def State.recoverZone (s : State) (d : DoorNo) (z : ZoneId) : State :=
  match s.zone d z with
  | some r => if r.state = .clear then s.setZone d z (some .fresh) else (s.setZone d z (some .fresh)).handGap d z
  | none => s

theorem State.recoverZones_eq (s : State) (d : DoorNo) :
    s.recoverZones d = allZoneIds.foldl (fun t z => t.recoverZone d z) s := rfl

theorem State.recoverZone_zones (s : State) (d : DoorNo) (z : ZoneId) :
    (s.recoverZone d z).zones = (s.setZone d z ((s.zone d z).map fun _ => .fresh)).zones := by
  unfold State.recoverZone
  split
  next r e =>
    rw [e]
    split
    · rfl
    · exact (State.handGap_handed _ d z).zones
  next e =>
    have same : (s.zone d z).map (fun _ => ZoneRec.fresh) = s.zone d z := by rw [e]; rfl
    rw [same, State.setZone_self]

theorem State.recoverZones_zone (s : State) (d : DoorNo) (z : ZoneId) :
    (s.recoverZones d).zone d z = (s.zone d z).map fun _ => .fresh := by
  rw [State.recoverZones_eq, foldl_each (fun (t : State) z => t.zone d z) (fun _ => ()) (fun t z => t.recoverZone d z)
    (fun _ r => r.map fun _ => .fresh) (by decide) (fun _ _ => rfl) (fun t _ y _ => ?_) (fun t y x ne => ?_) z,
    if_pos (mem_allZoneIds z)]
  · rw [State.zone_congr (t.recoverZone_zones d y), State.zone_setZone_same]
  · rw [State.zone_congr (t.recoverZone_zones d y), State.zone_setZone_ne _ _ _ ne]

theorem State.recoverZone_gauged (s : State) (d : DoorNo) (z : ZoneId) : Gauged d s (s.recoverZone d z) := by
  unfold State.recoverZone
  split
  · split
    · exact .setZone d s z _
    · exact (Gauged.setZone d s z _).trans (.handGap d _ z)
  · exact .refl d s

theorem State.recoverZones_door (s : State) (d : DoorNo) : (s.recoverZones d).doors = s.doors := by
  rw [State.recoverZones_eq]
  refine foldl_keeps State.doors _ (fun t z => ?_) _ s
  unfold State.recoverZone
  split
  · split
    · rfl
    · exact (State.handGap_handed _ d z).doors
  · rfl

/-! ## The reply of a recovered slot (R100) -/

section
variable {s : State} {d : DoorNo}

/-- A current no greater than I_NOM only cools the accumulator, or counts the blanking down (R141 to R145). -/
theorem State.takeCurrent_calm {i : Nat} (calm : ∀ c : DriveClass, s.driveClass d = some c → i ≤ c.iNom ∧ c.iNom < c.iHard) :
    ∃ r : Door, GaugesOnly (s.door d) r ∧ s.takeCurrent d i = s.setDoor d r := by
  have same : ∃ r : Door, GaugesOnly (s.door d) r ∧ s = s.setDoor d r := ⟨s.door d, .refl _, (s.setDoor_self d).symm⟩
  unfold State.takeCurrent
  dsimp only
  split
  · exact same
  next c e =>
    obtain ⟨low, high⟩ := calm c e
    split
    · exact same
    · split
      · refine ⟨_, ?_, rfl⟩
        rfl
      · rw [if_neg (by omega), if_neg (by omega)]
        refine ⟨_, ?_, rfl⟩
        rfl

/-- The status a door was re-adopted from, taken again, changes nothing. -/
theorem State.applyStatus_adopted {r : Door} {u : UnitStatus} {c : HeldCause} (h : Readopted r (s.door d) u c) :
    s.applyStatus d u false = s := by
  have ⟨status, key, _⟩ := h
  obtain ⟨known, serves, -⟩ := h.serves
  have shown : s.setDoor d ((s.door d).shown u false) = s := by
    have same : (s.door d).shown u false = s.door d := by unfold Door.shown; rw [← status, ← key]
    rw [same, State.setDoor_self]
  have stays : s.Stays d false := .inl ⟨rfl, known, serves⟩
  have was : (s.door d).manualSeen = u.manual := by unfold Door.manualSeen; rw [status]; rfl
  have asBefore : u.manual = false ∨ (s.door d).manualSeen = true ∨ (s.door d).state.seesManual = false := by
    rw [was]; cases u.manual <;> simp
  have notRestored : u.manual = true ∨ (s.door d).manualSeen = false ∨ (s.door d).state ≠ .releasedManual := by
    rw [was]; cases u.manual <;> simp
  suffices leaf : s.applyLeaf d u = s ∧ (u.faultCode = 0 ∨ (s.door d).state.seesFaultCode = false) by
    obtain ⟨leaf, noFault⟩ := leaf
    exact (State.applyStatus_quiet stays noFault asBefore notRestored (by rw [shown]; exact leaf)).trans shown
  have free : ∀ st : DoorState, (s.door d).state = st → st.LeafFree → s.applyLeaf d u = s :=
    fun st e free => State.applyLeaf_free u (by rw [e]; exact free)
  rcases h.state with ⟨-, e⟩ | ⟨noFault, -, e⟩ | ⟨noFault, -, leaf, lock, ⟨e, -⟩ | ⟨e, -⟩⟩ | ⟨noFault, -, e⟩
  · exact ⟨free _ e (by simp [DoorState.LeafFree]), .inr (by rw [e]; rfl)⟩
  · exact ⟨free _ e (by simp [DoorState.LeafFree]), .inl noFault⟩
  · exact ⟨by rw [State.applyLeaf_closed u e, if_neg (by simp [leaf, lock])], .inl noFault⟩
  · exact ⟨by rw [State.applyLeaf_opening u e, if_neg (by simp [leaf])], .inl noFault⟩
  · exact ⟨free _ e (by simp [DoorState.LeafFree]), .inl noFault⟩

/-- A key that is not seen yet takes its starting position (R184). -/
theorem State.takeKey_unseen (unseen : s.key d = .unseen) (on : Bool) :
    s.takeKey d on = s.setKey d (if on = true then .onNotGranted else .off) := by
  unfold State.takeKey
  cases on <;> simp only [unseen] <;> rfl

/-- The reply handed on at a door just re-adopted from its status: the readings, the zones, and the key (R95, R100). -/
theorem State.handReply_adopted {y : Reply} {r : Door} {c : HeldCause} (h : Readopted r (s.door d) y.unitStatus c)
    (unseen : s.key d = .unseen) (calm : ∀ c : DriveClass, s.driveClass d = some c → y.current.toNat ≤ c.iNom ∧ c.iNom < c.iHard)
    (key : y.isoKey = false) :
    ∃ u : State, Gauged d s u ∧ s.handReply d y = u.setKey d (if y.staffKey = true then .onNotGranted else .off)
      ∧ u.zones = (s.takeSensors d y).zones := by
  obtain ⟨-, -, still⟩ := h.serves
  have sensed := Gauged.takeSensors still y
  obtain ⟨q, gauge, cooled⟩ := State.takeCurrent_calm (s := s.takeSensors d y) (d := d) (i := y.current.toNat)
    (by rw [State.driveClass_congr sensed.ts]; exact calm)
  have read := sensed.trans (.setDoor gauge)
  refine ⟨(s.takeSensors d y).setDoor d q, read, ?_, State.setDoor_zones ..⟩
  unfold State.handReply
  rw [cooled, key, State.applyStatus_adopted (h.gauges read.door), State.takeKey_unseen]
  rw [State.key_congr read.ou]
  exact unseen

end
end Sys2Proof.Machine

namespace Sys2Proof.Machine

/-! # A slot recovers at a door in FAULT (R100, R117, R163, R184) -/

/-- A re-adoption of a door in service, with its hand-over. -/
theorem State.readoption_worked {s : State} {d : DoorNo} (entry : (s.pdt d).inService = true) (u : UnitStatus) (recovered : Bool) :
    SlotWorked d s (s.readoption d u false recovered) ∧ (s.readoption d u false recovered).zones = s.zones := by
  obtain ⟨ts, e⟩ := State.readopt_adopts s d u recovered entry
  have act : SlotWorked d s (s.readopt d u false recovered) := by rw [e]; exact .setDoor_tell d s _ ts
  refine ⟨.doorEvent (f := fun s => s.readopt d u false recovered) act, ?_⟩
  rw [(s.readoption_handed d u false recovered).zones, e]
  rfl

/-- What COMM_RECOVERED and the recovery notice leave of the door that re-adopts. -/
def State.recovering (s : State) (d : DoorNo) : State := (s.raise .commRecovered d.val []).recoverZones d

section
variable {s : State} {d : DoorNo}

theorem State.recovering_door : (s.recovering d).doors = s.doors := (State.recoverZones_door _ d).trans (State.raise_doors ..)

/-- COMM_RECOVERED is told first; the zones start afresh (R100, R163). -/
theorem State.recovering_worked (still : (s.door d).state ≠ .closing) :
    (s.recovering d).ts = s.ts ∧ (s.recovering d).ou = s.ou
    ∧ ∃ ts : List Telegram, Tells s (s.recovering d) (s.eventOf .commRecovered d.val [] ++ ts) := by
  have raised : Tells s (s.raise .commRecovered d.val []) (s.eventOf .commRecovered d.val []) := by
    rw [State.raise_eq_tell]; exact s.tells_tell _
  have told : Gauged d (s.raise .commRecovered d.val []) (s.recovering d) := by
    refine .foldl (act := fun t z => t.recoverZone d z) (fun t z _ => t.recoverZone_gauged d z) _ ?_
    rw [State.door_congr (State.raise_doors ..)]
    exact still
  obtain ⟨ts, tells⟩ := told.told
  exact ⟨told.ts.trans (State.raise_ts ..), told.ou.trans (State.raise_ou ..), ts, tells_append raised tells⟩

theorem State.recovering_zone (z : ZoneId) : (s.recovering d).zone d z = (s.zone d z).map fun _ => .fresh := by
  rw [State.recovering, State.recoverZones_zone, State.zone_congr (State.raise_zones ..)]

/-- What a recovered slot leaves of a door in FAULT whose key is off and whose entry is in service. -/
theorem State.handRecovery_faulted {y : Reply} (fault : (s.door d).state = .fault) (taken : (s.door d).returning = false)
    (isoKey : y.isoKey = false) (entry : (s.pdt d).inService = true) (unseen : s.key d = .unseen)
    (calm : ∀ c : DriveClass, s.driveClass d = some c → y.current.toNat ≤ c.iNom ∧ c.iNom < c.iHard) :
    let t := s.handRecovery d y
    Readopted (s.door d) (t.door d) y.unitStatus .commRecovered
      ∧ (∀ c : DoorNo, c ≠ d → t.door c = s.door c)
      ∧ t.key d = (if y.staffKey = true then .onNotGranted else .off)
      ∧ (∀ (z : ZoneId) (x : ZoneRec) (p : SensingProfile), s.zone d z = some x → s.sensing d = some p → 1 ≤ p.n →
          p.stuckLimit ≠ 1 → t.zone d z = some (.first p (y.sensor z)))
      ∧ ∃ ts : List Telegram, Tells s t (s.eventOf .commRecovered d.val [] ++ ts) := by
  intro t
  obtain ⟨ts, ou, told⟩ := State.recovering_worked (s := s) (d := d) (by rw [fault]; decide)
  have door : ∀ c, (s.recovering d).door c = s.door c := State.door_congr State.recovering_door
  have entry' : ((s.recovering d).pdt d).inService = true := by rw [State.pdt_congr ts]; exact entry
  obtain ⟨adopting, zones⟩ := State.readoption_worked entry' y.unitStatus true
  have plain : (s.recovering d).readoptEvent d y.unitStatus y.isoKey true = (s.recovering d).readoption d y.unitStatus false true := by
    rw [isoKey]
    exact State.readoptEvent_plain (.inl ⟨by rw [door, fault]; decide, by rw [door]; exact taken⟩)
  have adopted : Readopted (s.door d) (((s.recovering d).readoption d y.unitStatus false true).door d) y.unitStatus
      .commRecovered := by
    rw [State.readoption_door entry', door]
    exact (s.door d).adopt_readopted _ _ rfl
  obtain ⟨u, read, e, sensed⟩ := State.handReply_adopted adopted
    (by rw [State.key_congr adopting.ou, State.key_congr ou]; exact unseen)
    (by rw [State.driveClass_congr adopting.ts, State.driveClass_congr ts]; exact calm) isoKey
  have final : t = u.setKey d (if y.staffKey = true then .onNotGranted else .off) := by
    show ((s.recovering d).readoptEvent d y.unitStatus y.isoKey true).handReply d y = _
    rw [plain, e]
  rw [final]
  refine ⟨adopted.gauges read.door, fun c ne => ?_, State.key_setKey_same .., fun z x p stands sensing n limit => ?_, ?_⟩
  · exact ((read.others c ne).trans (adopting.others c ne)).trans (door c)
  · obtain ⟨-, serves, still⟩ := adopted.serves
    have fresh : ((s.recovering d).readoption d y.unitStatus false true).zone d z = some .fresh := by
      rw [State.zone_congr zones, State.recovering_zone, stands]; rfl
    refine (State.zone_congr sensed d z).trans (State.takeSensors_first y serves still ?_ n limit fresh)
    rw [State.sensing_congr adopting.ts, State.sensing_congr ts]
    exact sensing
  · obtain ⟨first, tells⟩ := told
    obtain ⟨more, tells'⟩ := (adopting.trans read.toSlotWorked).told
    refine ⟨first ++ more, ?_⟩
    rw [← List.append_assoc]
    exact tells_append tells tells'

end

/-! # The settlement -/

/-- The states in which a door moves, or stands ready to. -/
theorem DoorState.seesManual_iff {st : DoorState} : st.seesManual = true ↔
    st = .closed ∨ st = .opening ∨ st = .opened ∨ st = .closing ∨ st = .reopening ∨ st = .held := by
  cases st <;> simp [DoorState.seesManual]

section
variable {s : State} {d : DoorNo} {u : UnitStatus}

/-- What the departure of a door leaves of a berth (R84). -/
theorem State.isolated_berth_cases (serves : (s.door d).state ≠ .outOfService) (b : BerthId) :
    let old := s.berth b
    let new := (s.applyStatus d u true).berth b
    (old.platformEnable[d] = false → new = { old with state := new.state, permit := new.permit, proofTimer := new.proofTimer })
    ∧ (old.platformEnable[d] = true → new = { old with
        state := new.state, permit := new.permit, proofTimer := new.proofTimer
        platformEnable := old.platformEnable.set d false
        matchList := old.matchList.filter fun m => decide (m.p ≠ d)
        trainEnable := new.trainEnable }
      ∧ ∀ k : Fin 96, new.trainEnable[k] = (old.trainEnable[k] && !decide (∃ m ∈ old.matchList, m.p = d ∧ m.t = k.val))) := by
  intro old new
  have berth : new = { old.leftBy d with state := new.state, permit := new.permit, proofTimer := new.proofTimer } :=
    State.isolated_berth serves b
  refine ⟨fun off => ?_, fun on => ?_⟩
  · have left : old.leftBy d = old := if_neg (by rw [off]; decide)
    rw [left] at berth
    exact berth
  · have left : old.leftBy d = old.dropDoor d := if_pos on
    rw [left] at berth
    have train : new.trainEnable = (old.dropDoor d).trainEnable := by rw [berth]
    have kept : (old.matchList.filter fun m => m.p != d) = old.matchList.filter fun m => decide (m.p ≠ d) :=
      List.filter_congr fun m _ => by simp [bne, beq_eq_decide]
    refine ⟨?_, fun k => by rw [train]; exact old.dropDoor_trainEnable d k⟩
    rw [← kept, train]
    exact berth

end
end Sys2Proof.Machine

namespace Sys2Proof.Machine

/-- Settles O35: each clause is the rule of its state; the isolation key, the fault code and the manual release come before the
leaf and the lock by the order of the cases. -/
theorem closedDoorStatus : Obligations.ClosedDoorStatus := by
  intro s d r fireReturns
  refine ⟨fun u iso => ?_, ?_, fun y fault taken isoKey entry unseen calm =>
    State.handRecovery_faulted fault taken isoKey entry unseen calm⟩
  · intro t known wasManual moves leafRules
    obtain ⟨status, isoKey⟩ := Prod.mk.inj (State.applyStatus_seen (s := s) (d := d) (u := u) (iso := iso))
    have sees : moves → r.state.seesManual = true := DoorState.seesManual_iff.mpr
    have decides : leafRules → iso = false ∧ LeafDecides r u := fun ⟨key, noFault, noManual⟩ => ⟨key, noFault, noManual⟩
    refine ⟨fun c ne => State.applyStatus_other ne, status, isoKey, ?_, ?_, ?_, ?_, ?_, ?_, ?_, ?_, ?_, ?_, ?_, ?_, ?_⟩
    · rintro rfl serves
      have out : t = (r.shown u true).enterOut := State.isolated_door serves
      rw [out]
      exact ⟨rfl, rfl, rfl⟩
    · rintro rfl serves
      have out : t = (r.shown u true).enterOut := State.isolated_door serves
      rw [out]
      exact ⟨State.isolated_berth_cases serves, State.isolated_zone serves, State.isolated_key serves,
        rfl, rfl, rfl, rfl, rfl, rfl, rfl⟩
    · rintro rfl code acts
      have sees : r.state.seesFaultCode = true :=
        acts.elim (fun h => DoorState.seesFaultCode_of_seesManual (sees h)) fun released => by rw [released]; rfl
      have faulted : t = (r.shown u false).enterFault .unitFault := State.status_fault code sees
      rw [faulted]
      exact ⟨rfl, rfl, rfl, rfl⟩
    · rintro rfl noFault manual fresh acts
      have released : t = (r.shown u false).enterManual := State.status_manual noFault manual fresh (sees acts)
      rw [released]
      exact ⟨rfl, rfl, rfl, rfl⟩
    · intro rules closed
      obtain ⟨rfl, leaf⟩ := decides rules
      exact leaf.closed closed
    · intro rules opening
      obtain ⟨rfl, leaf⟩ := decides rules
      exact leaf.opening opening
    · intro rules closing
      obtain ⟨rfl, leaf⟩ := decides rules
      exact leaf.closing closing
    · intro rules reopening
      obtain ⟨rfl, leaf⟩ := decides rules
      exact leaf.reopening reopening
    · intro rules still
      obtain ⟨rfl, leaf⟩ := decides rules
      exact leaf.still still
    · rintro rfl fault
      exact (congrArg (State.door · d) (State.status_inFault fault)).trans (State.door_setDoor_same ..)
    · rintro rfl noFault released
      refine ⟨fun waits => ?_, State.status_restored noFault released⟩
      exact (congrArg (State.door · d) (State.status_released noFault released waits)).trans (State.door_setDoor_same ..)
    · intro out shut
      exact (congrArg (State.door · d) (State.status_out out shut)).trans (State.door_setDoor_same ..)
    · rintro rfl entry state
      exact ⟨fun plain => State.status_returns entry state plain, fun fire returns none =>
        State.status_fires entry fire state returns none⟩
  · exact ⟨State.reopenTrigger_idle, fun closing => ⟨fun c ne => State.reopenTrigger_other ne, State.reopenTrigger_closing closing⟩⟩

end Sys2Proof.Machine

namespace Sys2Proof.Machine

/-! # Copies of a cycle (R90) -/

theorem RingMaster.passes_iff (m : RingMaster) (copy : List Byte) :
    m.passes copy = true ↔ copy.length = 652 ∧ copy.take 2 = [m.kind.code, m.cycleNo] := by
  simp [RingMaster.passes]

/-- A copy that passes is its line's copy, unless the line has brought one. -/
theorem RingMaster.takeCopy_passes {m : RingMaster} {copy : List Byte} (passes : m.passes copy = true) (q : Port) :
    m.takeCopy q copy = match q with
      | .A => if m.copyA = none then { m with copyA := some copy } else m
      | .B => if m.copyB = none then { m with copyB := some copy } else m := by
  unfold RingMaster.takeCopy
  rw [if_pos passes]
  cases q <;> simp only [Option.isNone_iff_eq_none]

/-- Settles O25: a copy is discarded where the part does not run or a check of R90 fails, and is otherwise taken where the line is
free. -/
theorem ringCopyTaken : Obligations.RingCopyTaken := by
  intro s copy
  refine ⟨fun running size header => ?_, fun q discarded => ?_⟩
  · have passes := (s.drm.passes_iff copy).mpr ⟨size, header⟩
    have taken : ∀ q, exec (.ringCopyReceived q copy) s = .next { s with drm := s.drm.takeCopy q copy } := fun q =>
      congrArg Host.Outcome.next (if_pos running)
    simp only [taken, RingMaster.takeCopy_passes passes]
    exact ⟨fun free => by rw [if_pos free], fun free => by rw [if_pos free], fun used => by rw [if_neg used],
      fun used => by rw [if_neg used]⟩
  · refine congrArg Host.Outcome.next ?_
    split
    next running =>
      have fails : s.drm.passes copy ≠ true := fun passes => by
        obtain ⟨size, header⟩ := (s.drm.passes_iff copy).mp passes
        exact discarded.elim (· running) (Or.elim · (· size) (· header))
      have same : s.drm.takeCopy q copy = s.drm := if_neg fails
      rw [same]
    next => rfl

end Sys2Proof.Machine

namespace Sys2Proof.Machine

/-! # Override kinds that enter and leave (R106, R172, R173) -/

/-- The override list and the ring master replaced, and nothing else. -/
def State.moded (s : State) (l : List OverrideKind) (m : RingMaster) : State := { s with drm := m, ou := { s.ou with list := l } }

/-- The override list without a kind. -/
def State.without (s : State) (k : OverrideKind) : List OverrideKind := s.ou.list.filter (· ≠ k)

/-- A running test, if there is one, aborts and is reported (R106, R107). -/
theorem State.abortTest_eq (s : State) : s.abortTest = ({ s with drm := s.drm.aborted }).tell s.drm.abortReport := by
  unfold State.abortTest RingMaster.abortReport RingMaster.aborted
  dsimp only
  split
  · exact State.offer_eq_tell _ (by simp [ringTestReport])
  · exact s.tell_nil.symm

theorem State.raiseMode_eq (s : State) (k : OverrideKind) (left : Nat) : s.raiseMode k left = s.tell (s.modeChange k left) :=
  s.raise_eq_tell ..

/-- MODE_CHANGE depends on the event mask and the override list alone. -/
theorem State.modeChange_congr {s t : State} (mask : t.er.mask = s.er.mask) (list : t.ou.list = s.ou.list) (k : OverrideKind)
    (left : Nat) : t.modeChange k left = s.modeChange k left := by
  unfold State.modeChange State.modeCode State.topMode
  rw [State.eventOf_congr mask, list]

/-- EVAC or FIRE enters on top of the list, told by MODE_CHANGE, and a running ring test aborts. -/
theorem State.enterMode_aborts (s : State) {k : OverrideKind} (h : k = .evac ∨ k = .fire) : s.enterMode k
    = (s.moded (s.ou.list ++ [k]) s.drm.aborted).tell ((s.enterMode k).modeChange k 0 ++ s.drm.abortReport) := by
  have entered : s.enterMode k = (s.moded (s.ou.list ++ [k]) s.drm.aborted).tell
      ((s.moded (s.ou.list ++ [k]) s.drm).modeChange k 0 ++ s.drm.abortReport) := by
    refine (if_pos h).trans ?_
    rw [State.abortTest_eq, State.raiseMode_eq, ← State.tell_tell]
    rfl
  have change : (s.enterMode k).modeChange k 0 = (s.moded (s.ou.list ++ [k]) s.drm).modeChange k 0 := by
    rw [entered]; rfl
  rw [change]
  exact entered

theorem State.without_eq (s : State) (k : OverrideKind) : s.ou.list.filter (· != k) = s.without k :=
  List.filter_congr fun x _ => by simp [bne, beq_eq_decide]

/-- TEST leaves the list, told by MODE_CHANGE, and a running ring test aborts. -/
theorem State.leaveMode_test (s : State) : s.leaveMode .test = (s.moded (s.without .test) s.drm.aborted).tell
    ((s.moded (s.without .test) s.drm).modeChange .test 1 ++ s.drm.abortReport) := by
  unfold State.leaveMode
  dsimp only
  rw [if_pos rfl, State.without_eq, State.abortTest_eq, State.raiseMode_eq, ← State.tell_tell]
  rfl

/-- Another kind leaves the list, told by MODE_CHANGE. -/
theorem State.leaveMode_other (s : State) {k : OverrideKind} (h : k ≠ .test) :
    s.leaveMode k = (s.moded (s.without k) s.drm).tell ((s.leaveMode k).modeChange k 1) := by
  have left : s.leaveMode k = (s.moded (s.without k) s.drm).tell ((s.moded (s.without k) s.drm).modeChange k 1) := by
    unfold State.leaveMode
    dsimp only
    rw [if_neg h, State.without_eq, State.raiseMode_eq]
    rfl
  have change : (s.leaveMode k).modeChange k 1 = (s.moded (s.without k) s.drm).modeChange k 1 := by rw [left]; rfl
  rw [change]
  exact left

theorem State.present_iff {s : State} {k : OverrideKind} : s.present k = true ↔ k ∈ s.ou.list := decide_eq_true_iff

/-- Doors worked behind a change of the override list and its telegrams. -/
theorem Told.moded {s u t : State} {l : List OverrideKind} {m : RingMaster} {us ts : List Telegram} (told : Told none u t ts)
    (e : u = (s.moded l m).tell us) :
    t.ou = { s.ou with list := l } ∧ t.drm = m ∧ DoorsAndBerthsOnly { s with ou := t.ou, drm := t.drm } t
      ∧ Tells s t (us ++ ts) ∧ ChangesTold s t ts := by
  subst e
  have drm : t.drm = m := by
    obtain ⟨frame, -⟩ := told.only
    rw [frame]
    rfl
  have before : DoorsAndBerthsOnly (s.moded l m) ((s.moded l m).tell us) := (State.tell_told _ us).only
  have changes := told.changesTold_all
  refine ⟨told.ou_eq, drm, ?_, tells_append ⟨rfl, rfl⟩ told.tells, changes.1, fun b moved => changes.2 b ?_⟩
  · rw [told.ou_eq, drm]
    exact doorsAndBerthsOnly_trans before told.only
  · rw [State.tell_berth]
    cases b <;> exact moved

theorem Told.moded_popRequest {s u t : State} {l : List OverrideKind} {m : RingMaster} {us ts : List Telegram}
    (told : Told none u t ts) (e : u = (s.popRequest.moded l m).tell us) :
    t.ou = { s.ou with list := l } ∧ t.drm = m ∧ DoorsAndBerthsOnly { s with ou := t.ou, drm := t.drm } t
      ∧ Tells s.popRequest t (us ++ ts) ∧ ChangesTold s t ts := by
  obtain ⟨ou, drm, only, tells, changes⟩ := told.moded e
  have popped : ChangesTold s t ts := ⟨changes.1, fun b moved => changes.2 b (by rw [State.popRequest_berth]; exact moved)⟩
  exact ⟨ou, drm, doorsAndBerthsOnly_of_popRequest (s := { s with ou := t.ou, drm := t.drm }) only, tells, popped⟩

/-! # One reason given to doors, or taken from them, one after another (R119, R120) -/

/-- One reason given to each door of a list, or taken from it. -/
def State.putReasons (s : State) (ds : List DoorNo) (v : Bool) (k : Reason) : State :=
  forDoors ds (fun d s => s.putReason d v k) s

theorem mem_allDoors (d : DoorNo) : d ∈ allDoors := by simp [allDoors]
theorem allDoors_nodup : allDoors.Nodup := List.nodup_finRange 48

theorem State.putReasons_worked (s : State) (ds : List DoorNo) (v : Bool) (k : Reason) : Worked s (s.putReasons ds v k) :=
  .forDoors (fun d s => s.putReason_worked d v k) ds s

/-- Each door of the list is worked once, as if it alone were. -/
theorem State.putReasons_door (s : State) {ds : List DoorNo} (distinct : ds.Nodup) (v : Bool) (k : Reason) (d : DoorNo) :
    (s.putReasons ds v k).door d = if d ∈ ds then (s.putReason d v k).door d else s.door d := by
  rw [State.putReason_door]
  exact State.forDoors_door (act := fun d s => s.putReason d v k) (g := fun d m _ r => r.withReasons (m d) (r.reasons.put v k))
    (fun d s => s.putReason_worked d v k) (fun d s => s.putReason_door d v k) (fun d c s ne => s.putReason_other d c v k ne)
    distinct s d

/-- What one reason does to a door depends on the tables and its record alone. -/
theorem State.putReason_door_congr {s t : State} (ts : t.ts = s.ts) {d : DoorNo} (door : t.door d = s.door d) (v : Bool) (k : Reason) :
    (t.putReason d v k).door d = (s.putReason d v k).door d := by
  rw [State.putReason_door, State.putReason_door, State.limits_congr ts, door]

@[simp] theorem Reasons.put_maint (r : Reasons) (v : Bool) : r.put v .maint = { r with maint := v } := rfl

/-- A HELD door whose reason set does not become non-empty stays HELD (R120). -/
theorem Door.withReasons_staysHeld {r : Door} (m : MotionLimits) {n : Reasons} (held : r.state = .held)
    (stays : ¬ (r.reasons = .empty ∧ n ≠ .empty)) : (r.withReasons m n).state = .held := by
  unfold Door.withReasons Door.reasonsCease
  rw [if_neg (by rw [held]; decide), if_neg stays]
  split
  · simp only [held]
  · exact held

theorem State.putReason_reasons {s : State} {d : DoorNo} (serves : (s.door d).state ≠ .outOfService) (v : Bool) (k : Reason) :
    ((s.putReason d v k).door d).reasons = (s.door d).reasons.put v k := by
  rw [State.putReason_door, Door.withReasons_reasons, if_neg serves]

/-- A door out of service takes no reason (R119). -/
theorem State.putReason_out {s : State} {d : DoorNo} (out : (s.door d).state = .outOfService) (v : Bool) (k : Reason) :
    (s.putReason d v k).door d = s.door d := by
  rw [State.putReason_door, Door.withReasons, if_pos out]

end Sys2Proof.Machine

namespace Sys2Proof.Machine

/-! # MODE_EXIT (R175, R176) -/

theorem modeAt_beyond {p : List Byte} (h : 1 < u8 p 0) : modeAt p = none := by
  unfold modeAt
  split
  case h_1 e => omega
  case h_2 e => omega
  case h_3 => rfl
theorem modeAt_maint {p : List Byte} (h : u8 p 0 = 0) : modeAt p = some .maint := by unfold modeAt; simp only [h]
theorem modeAt_test {p : List Byte} (h : u8 p 0 = 1) : modeAt p = some .test := by unfold modeAt; simp only [h]

section
variable {s : State} {p : List Byte}

/-- A kind that is not present does not leave. -/
theorem State.modeExit_absent {k : OverrideKind} (kind : modeAt p = some k) (absent : k ∉ s.ou.list) :
    s.modeExit p = refuse s .wrongState := by
  unfold State.modeExit
  rw [kind]
  exact if_pos (State.present_eq_false.mpr absent)
theorem State.modeExit_test (kind : u8 p 0 = 1) (present : .test ∈ s.ou.list) : s.modeExit p = (s.leaveMode .test, .ok) := by
  unfold State.modeExit
  rw [modeAt_test kind]
  exact (if_neg (by rw [State.present_iff.mpr present]; decide)).trans (if_neg (by decide))
theorem State.modeExit_maint (kind : u8 p 0 = 0) (present : .maint ∈ s.ou.list) : s.modeExit p = (s.leaveMaint, .ok) := by
  unfold State.modeExit
  rw [modeAt_maint kind]
  exact (if_neg (by rw [State.present_iff.mpr present]; decide)).trans (if_pos rfl)

end

/-- TEST leaves before MAINT does, where it is present. -/
def State.testLeft (s : State) : State := if s.present .test then s.leaveMode .test else s

/-- What is offered where TEST leaves: its MODE_CHANGE, and the report of a test that aborts. -/
def State.testLeftTold (s : State) : List Telegram :=
  if OverrideKind.test ∈ s.ou.list then (s.moded (s.without .test) s.drm).modeChange .test 1 ++ s.drm.abortReport else []

theorem State.testLeft_eq (s : State) : s.testLeft
    = (s.moded (s.without .test) (if OverrideKind.test ∈ s.ou.list then s.drm.aborted else s.drm)).tell s.testLeftTold := by
  unfold State.testLeft State.testLeftTold
  by_cases h : OverrideKind.test ∈ s.ou.list
  · rw [if_pos (State.present_iff.mpr h), if_pos h, if_pos h, State.leaveMode_test]
  · have same : s.without .test = s.ou.list :=
      List.filter_eq_self.mpr fun k present => decide_eq_true fun e => h (e ▸ present)
    rw [if_neg (by rw [State.present_iff]; exact h), if_neg h, if_neg h, same, State.tell_nil]
    rfl

/-- MAINT and TEST gone, each told, before any door loses its MAINT reason. -/
def State.maintLeft (s : State) : State := s.testLeft.leaveMode .maint

theorem State.leaveMaint_eq (s : State) : s.leaveMaint = s.maintLeft.putReasons allDoors false .maint := rfl

theorem State.maintLeft_eq (s : State) : s.maintLeft
    = (s.moded (s.ou.list.filter fun k => k ≠ .maint ∧ k ≠ .test)
        (if OverrideKind.test ∈ s.ou.list then s.drm.aborted else s.drm)).tell
        (s.testLeftTold ++ s.maintLeft.modeChange .maint 1) := by
  have list : (s.without .test).filter (· ≠ OverrideKind.maint) = s.ou.list.filter fun k => k ≠ .maint ∧ k ≠ .test := by
    unfold State.without
    rw [List.filter_filter]
    exact List.filter_congr fun k _ => by simp
  refine (s.testLeft.leaveMode_other (k := .maint) (by decide)).trans ?_
  rw [← State.tell_tell, ← list, ← State.maintLeft, State.testLeft_eq]
  rfl

/-- What is left of a door whose MAINT reason is taken. -/
theorem State.unmaintained_door (s : State) (d : DoorNo) :
    let r := (s.putReason d false .maint).door d
    ((s.door d).state = .opening ∨ (s.door d).state = .opened → (s.door d).reasons = { Reasons.empty with maint := true } →
        r.state = .closing ∧ r.order = .close)
    ∧ ((s.door d).reasons.maint = false → r = s.door d)
    ∧ ((s.door d).state ≠ .outOfService → r.reasons = { (s.door d).reasons with maint := false })
    ∧ ((s.door d).state = .held → r.state = .held) := by
  intro r
  have door : r = _ := s.putReason_door d false .maint
  refine ⟨fun motion alone => ?_, fun none => ?_, fun serves => State.putReason_reasons serves false .maint, fun held => ?_⟩
  · have empty : (s.door d).reasons.put false .maint = .empty := by rw [alone]; rfl
    rw [door, empty, Door.withReasons_ceases _ (by rw [alone]; decide) motion]
    exact ⟨rfl, rfl⟩
  · have same : (s.door d).reasons.put false .maint = (s.door d).reasons := by rw [Reasons.put_maint, ← none]
    rw [door, same, Door.withReasons_self]
  · have kept : (s.door d).reasons = .empty → (s.door d).reasons.put false .maint = .empty := fun none => by rw [none]; rfl
    rw [door]
    exact Door.withReasons_staysHeld _ held fun arises => absurd (kept arises.1) arises.2

/-- Settles O39: MODE_EXIT by its kind; MAINT takes TEST with it, and then the MAINT reason from each door. -/
theorem modeExitRemoves : Obligations.ModeExitRemoves := by
  intro s src p taken noTest
  have refused : ∀ {c : Code} {f : Nat}, s.popRequest.modeExit p = refuse s.popRequest c f →
      exec (.modeExit src p) s = .next (s.popRequest.refused Kind.modeExit.code src c f) := fun e =>
    congrArg Host.Outcome.next (State.takeRequest_refused taken (owner := fun s => s.modeExit p) e)
  have accepted : ∀ {t : State}, s.popRequest.modeExit p = (t, .ok) →
      exec (.modeExit src p) s = .next (t.accepted .modeExit src []) := fun e =>
    congrArg Host.Outcome.next (State.takeRequest_accepted taken (owner := fun s => s.modeExit p) e)
  refine ⟨fun beyond => refused ?_, fun kind absent => refused (State.modeExit_absent (modeAt_maint kind) absent),
    fun kind absent => refused (State.modeExit_absent (modeAt_test kind) absent), fun kind present => ?_, fun kind present => ?_⟩
  · unfold State.modeExit
    rw [modeAt_beyond beyond]
  · refine ⟨_, accepted (State.modeExit_test kind present), ?_⟩
    rw [State.leaveMode_test]
    exact ⟨rfl, ⟨rfl, rfl⟩, rfl⟩
  · obtain ⟨ts, told⟩ := (s.popRequest.maintLeft.putReasons_worked allDoors false .maint).told
    rw [← State.leaveMaint_eq] at told
    obtain ⟨ou, drm, only, tells, changes⟩ := told.moded_popRequest s.popRequest.maintLeft_eq
    refine ⟨_, ts, accepted (State.modeExit_maint kind present), ou, drm, only, ?_, changes, fun d => ?_⟩
    · rw [State.modeChange_congr told.mask (congrArg OverrideUnit.list told.ou_eq)]
      exact tells
    · have before : s.popRequest.maintLeft.ts = s.ts ∧ s.popRequest.maintLeft.door d = s.door d := by
        rw [State.maintLeft_eq]; exact ⟨rfl, rfl⟩
      have worked : s.popRequest.leaveMaint.door d = (s.putReason d false .maint).door d := by
        have own := (s.popRequest.maintLeft.putReasons_door allDoors_nodup false .maint d).trans (if_pos (mem_allDoors d))
        exact own.trans (State.putReason_door_congr before.1 before.2 ..)
      rw [worked]
      exact ⟨rfl, s.unmaintained_door d⟩

end Sys2Proof.Machine

namespace Sys2Proof.Machine

/-! # EVACUATE (R177 to R179) -/

theorem State.outranked_evac (s : State) : s.outranked .evac = true ↔ OverrideKind.fire ∈ s.ou.list := by
  have rank : ∀ x : OverrideKind, OverrideKind.rank .evac < x.rank ↔ x = .fire := by intro x; cases x <;> decide
  simp [State.outranked, rank]

section
variable {s : State} {p : List Byte}

theorem State.evacuate_beyond (h : 1 < u8 p 0) : s.evacuate p = refuse s .range 1 := by
  unfold State.evacuate
  rw [flagAt_eq, if_pos h]
theorem State.evacuate_on (h : u8 p 0 = 1) : s.evacuate p =
    if OverrideKind.evac ∈ s.ou.list then refuse s .wrongState
    else if OverrideKind.fire ∈ s.ou.list then refuse s .overridden else (s.enterEvac, .ok) := by
  unfold State.evacuate
  rw [flagAt_eq, if_neg (by omega), h]
  simp only [decide_true, State.present_iff, State.outranked_evac]
theorem State.evacuate_off (h : u8 p 0 = 0) : s.evacuate p =
    if OverrideKind.evac ∈ s.ou.list then (s.leaveMode .evac, .ok) else refuse s .wrongState := by
  unfold State.evacuate
  rw [flagAt_eq, if_neg (by omega), h]
  simp only [Nat.zero_ne_one, decide_false, State.present_iff]

end

theorem State.mem_enabledDoors {s : State} {d : DoorNo} :
    d ∈ s.enabledDoors ↔ s.berthA.platformEnable[d] = true ∨ s.berthB.platformEnable[d] = true := by
  unfold State.enabledDoors State.enabled
  rw [mem_allDoors_filter, Bool.or_eq_true]

theorem State.enterEvac_eq (s : State) :
    s.enterEvac = (s.enterMode .evac).putReasons (s.enterMode .evac).enabledDoors true .evac := rfl

/-- A reason given to a moving or HELD door that holds none opens it (R120). -/
theorem Door.withReasons_reopens {r : Door} (m : MotionLimits) {n : Reasons} (none : r.reasons = .empty) (some : n ≠ .empty)
    (state : r.state = .closing ∨ r.state = .reopening ∨ r.state = .held) :
    (r.withReasons m n).state = .opening ∧ (r.withReasons m n).order = .opn ∧ (r.withReasons m n).reopenCount = 0 := by
  unfold Door.withReasons Door.reasonsArise
  rw [if_neg (by rcases state with e | e | e <;> rw [e] <;> decide), if_pos ⟨none, some⟩]
  rcases state with e | e | e <;> simp only [e] <;> exact ⟨rfl, rfl, rfl⟩

/-- The records that a change of the override list and its telegrams leave as they were. -/
theorem State.enterMode_kept (s : State) {k : OverrideKind} (h : k = .evac ∨ k = .fire) :
    (s.enterMode k).ts = s.ts ∧ (s.enterMode k).doors = s.doors ∧ (s.enterMode k).berthA = s.berthA
      ∧ (s.enterMode k).berthB = s.berthB := by
  rw [State.enterMode_aborts s h]
  exact ⟨rfl, rfl, rfl, rfl⟩

/-- A kind enters and gives its reason to doors: each of them, and no other, is worked as if it alone were. -/
theorem State.entered_door (s : State) {k : OverrideKind} (h : k = .evac ∨ k = .fire) {ds : List DoorNo} (distinct : ds.Nodup)
    (reason : Reason) (d : DoorNo) : ((s.enterMode k).putReasons ds true reason).door d
      = if d ∈ ds then (s.putReason d true reason).door d else s.door d := by
  obtain ⟨ts, doors, -⟩ := s.enterMode_kept h
  rw [State.putReasons_door _ distinct, State.door_congr doors, State.putReason_door_congr ts (State.door_congr doors d)]

/-- A kind other than TEST that leaves takes its place in the list with it, and nothing else but the telegram. -/
theorem State.leaveMode_frame (s : State) {k : OverrideKind} (h : k ≠ .test) :
    let t := s.leaveMode k
    t = { s with lli := t.lli, er := t.er, ou := { s.ou with list := s.ou.list.filter (· ≠ k) } }
      ∧ Tells s t (t.modeChange k 1) ∧ QueueOnly s.lli t.lli ∧ MapOnly s.er t.er := by
  intro t
  have left : t = _ := s.leaveMode_other h
  have told := State.tells_tell (s.moded (s.without k) s.drm) (t.modeChange k 1)
  rw [← left] at told
  refine ⟨?_, told, ?_, ?_⟩
  · rw [left]; rfl
  · rw [left]; exact s.lli.offers_queueOnly _
  · rw [left]; rfl

theorem Reasons.put_ne_empty (r : Reasons) (k : Reason) : r.put true k ≠ .empty := by
  cases k <;> simp [Reasons.put, Reasons.empty]

/-- Settles O40: EVACUATE by its flag; ON gives EVAC to the doors of the platform enable sets, and OFF takes it from the list alone. -/
theorem evacuateActs : Obligations.EvacuateActs := by
  intro s src p taken
  have refused : ∀ {c : Code} {f : Nat}, s.popRequest.evacuate p = refuse s.popRequest c f →
      exec (.evacuate src p) s = .next (s.popRequest.refused Kind.evacuate.code src c f) := fun e =>
    congrArg Host.Outcome.next (State.takeRequest_refused taken (owner := fun s => s.evacuate p) e)
  have accepted : ∀ {t : State}, s.popRequest.evacuate p = (t, .ok) →
      exec (.evacuate src p) s = .next (t.accepted .evacuate src []) := fun e =>
    congrArg Host.Outcome.next (State.takeRequest_accepted taken (owner := fun s => s.evacuate p) e)
  refine ⟨fun beyond => refused (State.evacuate_beyond beyond),
    fun on present => refused ((State.evacuate_on on).trans (if_pos present)),
    fun on absent fire => refused ((State.evacuate_on on).trans ((if_neg absent).trans (if_pos fire))),
    fun on absent noFire => ?_, fun off absent => refused ((State.evacuate_off off).trans (if_neg absent)),
    fun off present => ?_⟩
  · obtain ⟨ts, told⟩ :=
      ((s.popRequest.enterMode .evac).putReasons_worked (s.popRequest.enterMode .evac).enabledDoors true .evac).told
    rw [← State.enterEvac_eq] at told
    obtain ⟨ou, drm, only, tells, changes⟩ := told.moded_popRequest (s.popRequest.enterMode_aborts (.inl rfl))
    have door : ∀ d, s.popRequest.enterEvac.door d = if s.berthA.platformEnable[d] = true ∨ s.berthB.platformEnable[d] = true
        then (s.putReason d true .evac).door d else s.door d := by
      intro d
      obtain ⟨-, -, berthA, berthB⟩ := s.popRequest.enterMode_kept (k := .evac) (.inl rfl)
      have worked := s.popRequest.entered_door (k := .evac) (.inl rfl) (allDoors_filter_nodup (s.popRequest.enterMode .evac).enabled)
        .evac d
      have enabled : d ∈ (s.popRequest.enterMode .evac).enabledDoors
          ↔ s.berthA.platformEnable[d] = true ∨ s.berthB.platformEnable[d] = true := by
        rw [State.mem_enabledDoors, berthA, berthB]; rfl
      exact worked.trans (if_congr enabled (State.putReason_door_congr (s := s) (t := s.popRequest) rfl rfl ..) rfl)
    refine ⟨_, ts, accepted ((State.evacuate_on on).trans ((if_neg absent).trans (if_neg noFire))), ou, drm, only, ?_, changes,
      fun d offA offB => ?_, fun d enabled => ?_⟩
    · rw [State.modeChange_congr told.mask (congrArg OverrideUnit.list told.ou_eq)]
      exact tells
    · rw [door, if_neg (by simp [offA, offB])]
    · rw [door, if_pos enabled]
      refine ⟨rfl, fun serves => State.putReason_reasons serves true .evac, fun none closed => ?_, fun none moving => ?_⟩
      · rw [State.putReason_door]; exact Door.withReasons_opens _ closed none (Reasons.put_ne_empty _ _)
      · rw [State.putReason_door]; exact Door.withReasons_reopens _ none (Reasons.put_ne_empty _ _) moving
  · refine ⟨_, accepted ((State.evacuate_off off).trans (if_pos present)), ?_⟩
    exact s.popRequest.leaveMode_frame (by decide)

end Sys2Proof.Machine

namespace Sys2Proof.Machine

/-! # The FIRE input (R180 to R182) -/

/-- The FIRE input stands at a level, and the Override Unit takes it. -/
def State.fireAt (s : State) (level : Bool) : State := { s with firePin := level, ou := { s.ou with fireTaken := level } }

theorem State.takeFire_enters {s : State} (taken : s.ou.fireTaken = false) (absent : OverrideKind.fire ∉ s.ou.list) :
    State.takeFire { s with firePin := true } = ((s.fireAt true).enterMode .fire).putReasons
      ((s.fireAt true).enterMode .fire).fireDoors true .fire := by
  have apart : ¬ true = s.ou.fireTaken := by rw [taken]; decide
  have enters : ¬ (s.fireAt true).present .fire = true := fun present => absent (State.present_iff.mp present)
  exact ((if_neg apart).trans (if_pos rfl)).trans (if_neg enters)

theorem State.takeFire_leaves {s : State} (taken : s.ou.fireTaken = true) (present : OverrideKind.fire ∈ s.ou.list) :
    State.takeFire { s with firePin := false } = (s.fireAt false).leaveMode .fire := by
  have apart : ¬ false = s.ou.fireTaken := by rw [taken]; decide
  have leaves : (s.fireAt false).present .fire = true := State.present_iff.mpr present
  exact ((if_neg apart).trans (if_neg Bool.false_ne_true)).trans (if_pos leaves)

/-- FIRE_SCOPE names a door (R181). -/
def State.FireNames (s : State) (d : DoorNo) : Prop :=
  s.settings.fireScope = .allInService ∨ s.berthA.platformEnable[d] = true ∨ s.berthB.platformEnable[d] = true

theorem State.fireNames_of_mem {s : State} {d : DoorNo} (h : d ∈ s.fireDoors) : s.FireNames d := by
  unfold State.fireDoors at h
  split at h
  · exact .inr (State.mem_enabledDoors.mp h)
  next all => exact .inl all

theorem State.mem_fireDoors {s : State} {d : DoorNo} (named : s.FireNames d) (serves : (s.door d).state ≠ .outOfService) :
    d ∈ s.fireDoors := by
  unfold State.fireDoors
  split
  next aligned =>
    refine State.mem_enabledDoors.mpr (named.resolve_left fun all => ?_)
    rw [aligned] at all
    exact absurd all (by decide)
  next => exact mem_allDoors_filter.mpr (bne_iff_ne.mpr serves)

theorem State.fireDoors_nodup (s : State) : s.fireDoors.Nodup := by
  unfold State.fireDoors State.enabledDoors
  split <;> exact allDoors_filter_nodup _

/-- FIRE that enters works the doors FIRE_SCOPE names that serve, and no other. -/
theorem State.fireEntered_door (s : State) (d : DoorNo) :
    let t := (s.enterMode .fire).putReasons (s.enterMode .fire).fireDoors true .fire
    (¬ s.FireNames d ∨ (s.door d).state = .outOfService → t.door d = s.door d)
    ∧ (s.FireNames d → (s.door d).state ≠ .outOfService → t.door d = (s.putReason d true .fire).door d) := by
  intro t
  obtain ⟨ts, doors, berthA, berthB⟩ := s.enterMode_kept (k := .fire) (.inr rfl)
  have worked : t.door d = _ := s.entered_door (.inr rfl) (s.enterMode .fire).fireDoors_nodup .fire d
  have named : (s.enterMode .fire).FireNames d ↔ s.FireNames d := by
    unfold State.FireNames
    rw [State.settings_congr ts, berthA, berthB]
  have door := State.door_congr doors d
  rw [worked]
  refine ⟨fun idle => ?_, fun names serves => if_pos (State.mem_fireDoors (named.mpr names) (by rw [door]; exact serves))⟩
  split
  next here => exact State.putReason_out (idle.resolve_left fun unnamed => unnamed (named.mp (State.fireNames_of_mem here))) ..
  next => rfl

/-- Settles O41: the FIRE input by what was last taken of it; FIRE that enters is given to the doors FIRE_SCOPE names. -/
theorem fireChangeActs : Obligations.FireChangeActs := by
  intro s level
  have taken : s.phase = .running → exec (.fireChange level) s = .next (State.takeFire { s with firePin := level }) := fun running =>
    congrArg Host.Outcome.next (if_pos running)
  refine ⟨fun idle => congrArg Host.Outcome.next (if_neg idle),
    fun running same => (taken running).trans (congrArg Host.Outcome.next (if_pos same)), ?_, ?_⟩
  · rintro running rfl before absent
    rw [taken running, State.takeFire_enters before absent]
    obtain ⟨ts, told⟩ :=
      (((s.fireAt true).enterMode .fire).putReasons_worked ((s.fireAt true).enterMode .fire).fireDoors true .fire).told
    have door := (s.fireAt true).fireEntered_door
    obtain ⟨ou, drm, only, tells, changes⟩ := told.moded ((s.fireAt true).enterMode_aborts (.inr rfl))
    refine ⟨_, ts, rfl, ou, drm, only, ?_, changes, fun d => ?_⟩
    · rw [State.modeChange_congr told.mask (congrArg OverrideUnit.list told.ou_eq)]
      exact tells
    · obtain ⟨idle, worked⟩ := door d
      intro named
      have given : ((s.fireAt true).putReason d true .fire).door d = (s.putReason d true .fire).door d :=
        State.putReason_door_congr (s := s) (t := s.fireAt true) rfl rfl ..
      refine ⟨idle, fun names serves => ?_, fun names none closed => ?_⟩
      · rw [worked names serves, given]
        exact ⟨State.putReason_reasons serves true .fire, rfl⟩
      · rw [worked names (show (s.door d).state ≠ .outOfService by rw [closed]; decide), given, State.putReason_door]
        obtain ⟨state, order, -⟩ := Door.withReasons_opens (s.limits d) closed none (Reasons.put_ne_empty _ .fire)
        exact ⟨state, order⟩
  · rintro running rfl before present
    rw [taken running, State.takeFire_leaves before present]
    exact ⟨_, rfl, (s.fireAt false).leaveMode_frame (by decide)⟩

end Sys2Proof.Machine

namespace Sys2Proof.Machine

/-! # What the hand-over of a slot looks at

Two states are alike at some doors when nothing that the hand-over of one of these doors looks at tells them apart: its record, its
zone records and its key record, the tables, the override list, and of the berths what R159, R167 and R185 read. Where they are alike
as a whole, nothing tells them apart but the ring master, the link interface and the Event Reporter. An act on such a door leaves
alike states alike, which is said once for each act, in the order of the model's definitions. -/

/-- An evaluation handed over: berths gain and lose their proof, and nothing else that is looked at changes (R116, R198). -/
structure Evaluated (s t : State) : Prop where
  handed : Handed s t
  moved : ∀ b : BerthId, ProofMoved s.proofMs (s.berth b) (t.berth b)

theorem State.handProofOfZone_evaluated (s : State) (z : Zone) : Evaluated s (s.handProofOfZone z) :=
  ⟨s.handProofOfZone_handed z, s.handProofOfZone_moved z⟩
theorem State.handDoor_evaluated (s : State) (d : DoorNo) : Evaluated s (s.handDoor d) := ⟨s.handDoor_handed d, s.handDoor_moved d⟩

/-- `s` and `t` are alike at the doors of `D`, and, under `whole`, altogether. -/
structure Alike (whole : Prop) (D : DoorNo → Prop) (s t : State) : Prop where
  ts : t.ts = s.ts
  list : t.ou.list = s.ou.list
  span : ∀ b, (t.berth b).span = (s.berth b).span
  vacant : ∀ b, (t.berth b).state = .vacant ↔ (s.berth b).state = .vacant
  door : ∀ d, D d → t.door d = s.door d
  zonesOf : ∀ d, D d → t.zonesOf d = s.zonesOf d
  key : ∀ d, D d → t.key d = s.key d
  enable : ∀ d, D d → ∀ b, (t.berth b).platformEnable[d] = (s.berth b).platformEnable[d]
  everyDoor : whole → ∀ d, D d
  berth : whole → t.berth = s.berth
  loop : whole → t.loop = s.loop
  panel : whole → t.panel = s.panel

/-- Alike at some doors, at least. -/
abbrev AlikeAt (D : DoorNo → Prop) (s t : State) : Prop := Alike False D s t

namespace Alike

section
variable {W : Prop} {D : DoorNo → Prop} {s t : State}

theorem refl (D : DoorNo → Prop) (s : State) : AlikeAt D s s :=
  ⟨rfl, rfl, fun _ => rfl, fun _ => .rfl, fun _ _ => rfl, fun _ _ => rfl, fun _ _ => rfl, fun _ _ _ => rfl, False.elim, False.elim,
    False.elim, False.elim⟩

variable (h : Alike W D s t)
include h

theorem trans {u : State} (k : Alike W D t u) : Alike W D s u where
  ts := k.ts.trans h.ts
  list := k.list.trans h.list
  span b := (k.span b).trans (h.span b)
  vacant b := (k.vacant b).trans (h.vacant b)
  door d here := (k.door d here).trans (h.door d here)
  zonesOf d here := (k.zonesOf d here).trans (h.zonesOf d here)
  key d here := (k.key d here).trans (h.key d here)
  enable d here b := (k.enable d here b).trans (h.enable d here b)
  everyDoor := h.everyDoor
  berth w := (k.berth w).trans (h.berth w)
  loop w := (k.loop w).trans (h.loop w)
  panel w := (k.panel w).trans (h.panel w)

/-- Alike at fewer doors. -/
theorem fewer {E : DoorNo → Prop} (less : ∀ d, E d → D d) : AlikeAt E s t where
  ts := h.ts
  list := h.list
  span := h.span
  vacant := h.vacant
  door d here := h.door d (less d here)
  zonesOf d here := h.zonesOf d (less d here)
  key d here := h.key d (less d here)
  enable d here := h.enable d (less d here)
  everyDoor := False.elim
  berth := False.elim
  loop := False.elim
  panel := False.elim

/-! ## Reading -/

theorem pdt : t.pdt = s.pdt := funext (State.pdt_congr h.ts)
theorem settings : t.settings = s.settings := State.settings_congr h.ts
theorem limits : t.limits = s.limits := State.limits_congr h.ts
theorem sensing : t.sensing = s.sensing := funext (State.sensing_congr h.ts)
theorem driveClass : t.driveClass = s.driveClass := funext (State.driveClass_congr h.ts)
theorem zoneOf : t.zoneOf = s.zoneOf := by unfold State.zoneOf; rw [h.pdt]
theorem present (k : OverrideKind) : t.present k = s.present k := by unfold State.present; rw [h.list]

theorem held : t.held = s.held := by
  have holds : ∀ b z, (t.berth b).holds z = (s.berth b).holds z := by
    intro b z
    unfold Berth.holds
    rw [h.span b, Bool.eq_iff_iff]
    simp only [Bool.and_eq_true, bne_iff_ne, ne_eq, h.vacant b]
  unfold State.held State.holder
  simp only [holds, h.zoneOf]

section
variable {d : DoorNo} (here : D d)
include here

theorem zone (z : ZoneId) : t.zone d z = s.zone d z := by unfold State.zone; rw [h.zonesOf d here]
theorem inService : t.inService d = s.inService d := by unfold State.inService; rw [h.door d here]
theorem becomesStuck (p : SensingProfile) (r : ZoneRec) : t.becomesStuck d p r = s.becomesStuck d p r := by
  unfold State.becomesStuck; rw [h.door d here, h.held]
theorem keyPermitted : t.keyPermitted d = s.keyPermitted d := by
  have enabled : t.enabled d = s.enabled d := congrArg₂ or (h.enable d here .A) (h.enable d here .B)
  unfold State.keyPermitted
  rw [h.inService here, enabled, h.present]

end

/-! ## Writing one record, and telling the station -/

/-- Records of doors are written, alike in both states. -/
theorem written {s' t' : State} (ts : s'.ts = s.ts ∧ t'.ts = t.ts) (list : s'.ou.list = s.ou.list ∧ t'.ou.list = t.ou.list)
    (berth : s'.berth = s.berth ∧ t'.berth = t.berth) (loop : s'.loop = s.loop ∧ t'.loop = t.loop)
    (panel : s'.panel = s.panel ∧ t'.panel = t.panel) (door : ∀ d, D d → t'.door d = s'.door d)
    (zonesOf : ∀ d, D d → t'.zonesOf d = s'.zonesOf d) (key : ∀ d, D d → t'.key d = s'.key d) : Alike W D s' t' where
  ts := by rw [ts.1, ts.2, h.ts]
  list := by rw [list.1, list.2, h.list]
  span b := by rw [berth.1, berth.2, h.span b]
  vacant b := by rw [berth.1, berth.2, h.vacant b]
  door := door
  zonesOf := zonesOf
  key := key
  enable d here b := by rw [berth.1, berth.2, h.enable d here b]
  everyDoor := h.everyDoor
  berth w := by rw [berth.1, berth.2, h.berth w]
  loop w := by rw [loop.1, loop.2, h.loop w]
  panel w := by rw [panel.1, panel.2, h.panel w]

end
end Alike

/-- A reading of the berths, the loops or the panels looks at those records alone. -/
theorem State.berth_congr {s t : State} (a : t.berthA = s.berthA) (b : t.berthB = s.berthB) : t.berth = s.berth := by
  funext c; cases c; exacts [a, b]
theorem State.loop_congr {s t : State} (front : t.loopFront = s.loopFront) (rear : t.loopRear = s.loopRear) : t.loop = s.loop := by
  funext z; cases z; exacts [front, rear]
theorem State.panels_congr {s t : State} (front : t.ou.panelFront = s.ou.panelFront) (rear : t.ou.panelRear = s.ou.panelRear) :
    t.panel = s.panel := by
  funext z; cases z; exacts [front, rear]

namespace Alike

section
variable {W : Prop} {D : DoorNo → Prop} {s t : State} (h : Alike W D s t)
include h

/-- Nothing that is looked at has changed. -/
theorem same {s' t' : State} (e : s' = { s with drm := s'.drm, lli := s'.lli, er := s'.er })
    (e' : t' = { t with drm := t'.drm, lli := t'.lli, er := t'.er }) : Alike W D s' t' := by
  rw [e, e']
  exact h.written ⟨rfl, rfl⟩ ⟨rfl, rfl⟩ ⟨State.berth_congr rfl rfl, State.berth_congr rfl rfl⟩
    ⟨State.loop_congr rfl rfl, State.loop_congr rfl rfl⟩ ⟨State.panels_congr rfl rfl, State.panels_congr rfl rfl⟩
    h.door h.zonesOf h.key

theorem tell (ts us : List Telegram) : Alike W D (s.tell ts) (t.tell us) := h.same rfl rfl
theorem offer (x y : Telegram) : Alike W D (s.offer x) (t.offer y) := h.same rfl rfl
theorem raise (e : EventKind) (n : Nat) (l l' : List Byte) : Alike W D (s.raise e n l) (t.raise e n l') := by
  rw [State.raise_eq_tell, State.raise_eq_tell]; exact h.tell _ _

theorem setDoor (d : DoorNo) (r : Door) : Alike W D (s.setDoor d r) (t.setDoor d r) := by
  refine h.written ⟨rfl, rfl⟩ ⟨rfl, rfl⟩ ⟨State.berth_congr rfl rfl, State.berth_congr rfl rfl⟩ ⟨rfl, rfl⟩ ⟨rfl, rfl⟩
    (fun c here => ?_) h.zonesOf h.key
  by_cases e : c = d
  · rw [e, State.door_setDoor_same, State.door_setDoor_same]
  · rw [State.door_setDoor_ne _ _ e, State.door_setDoor_ne _ _ e, h.door c here]
theorem setZones (d : DoorNo) (x : DoorZones) : Alike W D (s.setZones d x) (t.setZones d x) := by
  refine h.written ⟨rfl, rfl⟩ ⟨rfl, rfl⟩ ⟨State.berth_congr rfl rfl, State.berth_congr rfl rfl⟩ ⟨rfl, rfl⟩ ⟨rfl, rfl⟩
    h.door (fun c here => ?_) h.key
  by_cases e : c = d
  · rw [e, State.zonesOf_setZones_same, State.zonesOf_setZones_same]
  · rw [State.zonesOf_setZones_ne _ _ e, State.zonesOf_setZones_ne _ _ e, h.zonesOf c here]
theorem setZone {d : DoorNo} (here : D d) (z : ZoneId) (r : Option ZoneRec) : Alike W D (s.setZone d z r) (t.setZone d z r) := by
  unfold State.setZone
  rw [h.zonesOf d here]
  exact h.setZones d _
theorem setKey (d : DoorNo) (k : KeyState) : Alike W D (s.setKey d k) (t.setKey d k) := by
  refine h.written ⟨rfl, rfl⟩ ⟨rfl, rfl⟩ ⟨State.berth_congr rfl rfl, State.berth_congr rfl rfl⟩ ⟨rfl, rfl⟩ ⟨rfl, rfl⟩
    h.door h.zonesOf fun c here => ?_
  by_cases e : c = d
  · rw [e, State.key_setKey_same, State.key_setKey_same]
  · rw [State.key_setKey_ne _ _ e, State.key_setKey_ne _ _ e, h.key c here]

/-- A panel's record is written, the same in both states. -/
theorem setPanel (z : Zone) (p : Option Panel) : Alike W D (s.setPanel z p) (t.setPanel z p) where
  ts := by rw [State.setPanel_ts, State.setPanel_ts, h.ts]
  list := by cases z <;> exact h.list
  span b := by cases z <;> cases b; exacts [h.span .A, h.span .B, h.span .A, h.span .B]
  vacant b := by cases z <;> cases b; exacts [h.vacant .A, h.vacant .B, h.vacant .A, h.vacant .B]
  door d here := by cases z <;> exact h.door d here
  zonesOf d here := by cases z <;> exact h.zonesOf d here
  key d here := by cases z <;> exact h.key d here
  enable d here b := by
    cases z <;> cases b
    exacts [h.enable d here .A, h.enable d here .B, h.enable d here .A, h.enable d here .B]
  everyDoor := h.everyDoor
  berth w := by
    have e := h.berth w
    cases z <;> exact e
  loop w := by
    have e := h.loop w
    cases z <;> exact e
  panel w := by
    have front := congrFun (h.panel w) .front
    have rear := congrFun (h.panel w) .rear
    cases z
    · exact State.panels_congr rfl rear
    · exact State.panels_congr front rfl

omit h in
/-- A panel's record is not looked at by the hand-over of a door. -/
theorem panelWritten (D : DoorNo → Prop) (s : State) (z : Zone) (p : Option Panel) : AlikeAt D s (s.setPanel z p) := by
  cases z <;>
    exact ⟨rfl, rfl, fun b => by cases b <;> rfl, fun b => by cases b <;> rfl, fun _ _ => rfl, fun _ _ => rfl, fun _ _ => rfl,
      fun _ _ b => by cases b <;> rfl, False.elim, False.elim, False.elim, False.elim⟩

end
end Alike
end Sys2Proof.Machine

namespace Sys2Proof.Machine

/-! # Berths and loops written alike, and an evaluation of the proof -/

namespace Alike

section
variable {W : Prop} {D : DoorNo → Prop} {s t : State} (h : Alike W D s t)
include h

/-- An evaluation leaves alike what it finds alike. -/
theorem evaluated {s' t' : State} (parted : ¬ W) (e : Evaluated s s') (e' : Evaluated t t') : Alike W D s' t' where
  ts := by rw [e.handed.ts, e'.handed.ts, h.ts]
  list := by rw [e.handed.ou, e'.handed.ou, h.list]
  span b := by rw [e.handed.span, e'.handed.span, h.span]
  vacant b := by rw [(e.moved b).kept.vacant, (e'.moved b).kept.vacant, h.vacant]
  door d here := by rw [e.handed.door, e'.handed.door, h.door d here]
  zonesOf d here := by rw [State.zonesOf, State.zonesOf, e.handed.zones, e'.handed.zones]; exact h.zonesOf d here
  key d here := by rw [State.key_congr e.handed.ou, State.key_congr e'.handed.ou, h.key d here]
  enable d here b := by rw [e.handed.platformEnable, e'.handed.platformEnable, h.enable d here b]
  everyDoor := fun w => absurd w parted
  berth := fun w => absurd w parted
  loop := fun w => absurd w parted
  panel := fun w => absurd w parted

/-- A berth's record is written, the same in both states. -/
theorem setBerth (whole : W) (b : BerthId) (r : Berth) : Alike W D (s.setBerth b r) (t.setBerth b r) := by
  have same : (t.setBerth b r).berth = (s.setBerth b r).berth := by
    have A := congrFun (h.berth whole) .A
    have B := congrFun (h.berth whole) .B
    cases b
    · exact State.berth_congr rfl B
    · exact State.berth_congr A rfl
  exact {
    ts := by rw [State.setBerth_ts, State.setBerth_ts, h.ts]
    list := by rw [State.setBerth_ou, State.setBerth_ou, h.list]
    span := fun c => by rw [same]
    vacant := fun c => by rw [same]
    door := fun d here => by rw [State.door_congr (s.setBerth_doors b r), State.door_congr (t.setBerth_doors b r), h.door d here]
    zonesOf := fun d here => by
      rw [State.zonesOf, State.zonesOf, State.setBerth_zones, State.setBerth_zones]; exact h.zonesOf d here
    key := fun d here => by rw [State.key_congr (s.setBerth_ou b r), State.key_congr (t.setBerth_ou b r), h.key d here]
    enable := fun d here c => by rw [same]
    everyDoor := h.everyDoor
    berth := fun _ => same
    loop := fun w => by cases b <;> exact h.loop w
    panel := fun w => by
      have panels := h.panel w
      cases b <;> exact panels }

/-- A loop is set, the same in both states. -/
theorem setLoop (whole : W) (z : Zone) (v : Bool) : Alike W D (s.setLoop z v) (t.setLoop z v) := by
  have same : (t.setLoop z v).loop = (s.setLoop z v).loop := by
    have front := congrFun (h.loop whole) .front
    have rear := congrFun (h.loop whole) .rear
    cases z
    · exact State.loop_congr rfl rear
    · exact State.loop_congr front rfl
  exact {
    ts := by cases z <;> exact h.ts
    list := by cases z <;> exact h.list
    span := fun c => by rw [State.setLoop_berth, State.setLoop_berth, h.span]
    vacant := fun c => by rw [State.setLoop_berth, State.setLoop_berth, h.vacant]
    door := fun d here => by cases z <;> exact h.door d here
    zonesOf := fun d here => by cases z <;> exact h.zonesOf d here
    key := fun d here => by cases z <;> exact h.key d here
    enable := fun d here c => by rw [State.setLoop_berth, State.setLoop_berth, h.enable d here]
    everyDoor := h.everyDoor
    berth := fun w => by funext c; rw [State.setLoop_berth, State.setLoop_berth, h.berth w]
    loop := fun _ => same
    panel := fun w => by
      have panels := h.panel w
      cases z <;> exact panels }

theorem zoneDoors : t.zoneDoors = s.zoneDoors := by unfold State.zoneDoors; rw [h.zoneOf]
theorem reportBerth (b : BerthId) (st st' : BerthState) (c c' : Option CloseCause) (n n' : Nat) :
    Alike W D (s.reportBerth b st c n) (t.reportBerth b st' c' n') := by
  unfold State.reportBerth
  exact (h.same rfl rfl).raise _ _ _ _

section
variable (whole : W)
include whole

theorem everywhere : t.door = s.door ∧ t.zone = s.zone ∧ t.key = s.key ∧ t.inService = s.inService := by
  have here := h.everyDoor whole
  exact ⟨funext fun d => h.door d (here d), funext fun d => funext fun z => h.zone (here d) z, funext fun d => h.key d (here d),
    funext fun d => h.inService (here d)⟩

theorem spanDoors : t.spanDoors = s.spanDoors := by unfold State.spanDoors; rw [h.berth whole, h.zoneOf]

theorem loopCondition : t.loopCondition = s.loopCondition := by
  obtain ⟨door, -, -, inService⟩ := h.everywhere whole
  unfold State.loopCondition
  rw [h.ts, h.zoneDoors, door, inService]

theorem proofCondition : t.proofCondition = s.proofCondition := by
  obtain ⟨-, zone, -, inService⟩ := h.everywhere whole
  have front : t.loopFront = s.loopFront := congrFun (h.loop whole) .front
  have rear : t.loopRear = s.loopRear := congrFun (h.loop whole) .rear
  unfold State.proofCondition State.gapBlocked
  rw [h.berth whole, h.spanDoors whole, front, rear, inService, zone]

theorem evaluateProof (b : BerthId) : Alike W D (s.evaluateProof b) (t.evaluateProof b) := by
  unfold State.evaluateProof
  rw [h.berth whole, h.proofCondition whole]
  split
  · unfold State.gainProof
    rw [h.berth whole]
    exact (h.setBerth whole _ _).offer _ _
  · split
    · unfold State.loseProof
      rw [h.berth whole, h.settings]
      exact (h.setBerth whole _ _).offer _ _
    · exact h

theorem handProof (b : BerthId) : Alike W D (s.handProof b) (t.handProof b) := by
  have k := h.evaluateProof whole b
  unfold State.handProof
  dsimp only
  rw [h.berth whole, k.berth whole]
  split
  · exact k
  · exact (k.reportBerth _ _ _ _ _ _ _).offer _ _

theorem handProofOfZone (z : Zone) : Alike W D (s.handProofOfZone z) (t.handProofOfZone z) := by
  have one : ∀ {u v : State}, Alike W D u v → ∀ b, Alike W D
      (if (((u.berth b).span.map (Span.has · z)).getD false) then u.handProof b else u)
      (if (((v.berth b).span.map (Span.has · z)).getD false) then v.handProof b else v) := by
    intro u v k b
    rw [k.berth whole]
    split
    · exact k.handProof whole b
    · exact k
  exact one (one h .A) .B

theorem judgeLoop (z : Zone) : Alike W D (s.judgeLoop z) (t.judgeLoop z) := by
  unfold State.judgeLoop
  rw [h.loop whole, h.loopCondition whole]
  split
  · exact h
  · exact (h.setLoop whole _ _).handProofOfZone whole z

end

/-- A door's change is handed over (R116). -/
theorem handDoor (d : DoorNo) : Alike W D (s.handDoor d) (t.handDoor d) := by
  by_cases whole : W
  · unfold State.handDoor
    rw [h.zoneOf]
    have judged := (h.judgeLoop whole (s.zoneOf d)).handProofOfZone whole (s.zoneOf d)
    unfold State.reportDoor
    exact (judged.same rfl rfl).raise _ _ _ _
  · exact h.evaluated whole (s.handDoor_evaluated d) (t.handDoor_evaluated d)

theorem zoneProof (z : Zone) : Alike W D (s.handProofOfZone z) (t.handProofOfZone z) := by
  by_cases whole : W
  · exact h.handProofOfZone whole z
  · exact h.evaluated whole (s.handProofOfZone_evaluated z) (t.handProofOfZone_evaluated z)

end
end Alike
end Sys2Proof.Machine

namespace Sys2Proof.Machine

/-! # What the hand-over of a slot leaves as it was, and that it leaves alike states alike

Both are said of one act at a time: two states go through the act side by side, and the first is compared with a state it comes
from. -/

/-- The counters of a door that a cycle close counts (R94, R97). -/
def Door.ringCounters (r : Door) : Nat × Nat := (r.counters.disagree, r.counters.commMisses)

/-- From `s` to `t` acts on the doors of `C` have worked: nothing that the hand-over of another door looks at has changed, the ring
master, the panels, the event mask and the ring's counters stand, and telegrams have been offered. -/
structure Acted (C : DoorNo → Prop) (s t : State) : Prop where
  apart : AlikeAt (fun d => ¬ C d) s t
  drm : t.drm = s.drm
  panel : t.panel = s.panel
  mask : t.er.mask = s.er.mask
  counters : ∀ d, (t.door d).ringCounters = (s.door d).ringCounters
  told : ∃ ts : List Telegram, Tells s t ts

namespace Acted
variable {C : DoorNo → Prop} {s t u : State}

theorem refl (C : DoorNo → Prop) (s : State) : Acted C s s := ⟨.refl _ s, rfl, rfl, rfl, fun _ => rfl, [], Tells.refl s⟩

theorem trans (h : Acted C s t) (k : Acted C t u) : Acted C s u := by
  obtain ⟨ts, told⟩ := h.told
  obtain ⟨us, told'⟩ := k.told
  exact ⟨h.apart.trans k.apart, k.drm.trans h.drm, k.panel.trans h.panel, k.mask.trans h.mask,
    fun d => (k.counters d).trans (h.counters d), ts ++ us, tells_append told told'⟩

theorem tell (C : DoorNo → Prop) (s : State) (ts : List Telegram) : Acted C s (s.tell ts) :=
  ⟨(Alike.refl _ s).same rfl rfl, rfl, rfl, rfl, fun _ => rfl, ts, s.tells_tell ts⟩

/-- A door's record is written, and the ring's counters in it stand. -/
theorem setDoor {d : DoorNo} (here : C d) {r : Door} (ring : r.ringCounters = (s.door d).ringCounters) :
    Acted C s (s.setDoor d r) where
  apart := (Alike.refl _ s).written ⟨rfl, rfl⟩ ⟨rfl, rfl⟩ ⟨rfl, State.berth_congr rfl rfl⟩ ⟨rfl, rfl⟩ ⟨rfl, rfl⟩
    (fun _ other => s.door_setDoor_ne r fun e => other (e ▸ here)) (fun _ _ => rfl) (fun _ _ => rfl)
  drm := rfl
  panel := rfl
  mask := rfl
  counters c := by
    by_cases e : c = d
    · rw [e, State.door_setDoor_same, ring]
    · rw [State.door_setDoor_ne _ _ e]
  told := ⟨[], Tells.refl s⟩

theorem setZones {d : DoorNo} (here : C d) (x : DoorZones) : Acted C s (s.setZones d x) where
  apart := (Alike.refl _ s).written ⟨rfl, rfl⟩ ⟨rfl, rfl⟩ ⟨rfl, State.berth_congr rfl rfl⟩ ⟨rfl, rfl⟩ ⟨rfl, rfl⟩
    (fun _ _ => rfl) (fun _ other => State.zonesOf_setZones_ne s x fun e => other (e ▸ here)) (fun _ _ => rfl)
  drm := rfl
  panel := rfl
  mask := rfl
  counters _ := rfl
  told := ⟨[], Tells.refl s⟩

theorem setKey {d : DoorNo} (here : C d) (x : KeyState) : Acted C s (s.setKey d x) where
  apart := (Alike.refl _ s).written ⟨rfl, rfl⟩ ⟨rfl, rfl⟩ ⟨rfl, State.berth_congr rfl rfl⟩ ⟨rfl, rfl⟩ ⟨rfl, rfl⟩
    (fun _ _ => rfl) (fun _ _ => rfl) (fun _ other => State.key_setKey_ne s x fun e => other (e ▸ here))
  drm := rfl
  panel := rfl
  mask := rfl
  counters _ := rfl
  told := ⟨[], Tells.refl s⟩

/-- An evaluation that tells what it does. -/
theorem evaluated (h : Evaluated s t) (told : ∃ ts : List Telegram, Tells s t ts) : Acted C s t where
  apart := (Alike.refl _ s).evaluated id ⟨.refl s, fun _ => .refl _⟩ h
  drm := h.handed.drm
  panel := funext (State.panel_congr h.handed.ou)
  mask := by rw [h.handed.er]
  counters d := by rw [h.handed.door]
  told := told

theorem handDoor (C : DoorNo → Prop) (s : State) (d : DoorNo) : Acted C s (s.handDoor d) :=
  .evaluated (s.handDoor_evaluated d) (SlotWorked.handDoor s d).told
theorem handProofOfZone (C : DoorNo → Prop) (s : State) (z : Zone) : Acted C s (s.handProofOfZone z) := by
  obtain ⟨ts, told⟩ := (s.handProofOfZone_worked z).told
  exact .evaluated (s.handProofOfZone_evaluated z) ⟨ts, told.tells⟩

/-- A berth's record is written; its span stands, it is VACANT if and only if it was, and it enables the doors that are not worked as
before. -/
theorem setBerth {b : BerthId} {r : Berth} (span : r.span = (s.berth b).span)
    (vacant : r.state = .vacant ↔ (s.berth b).state = .vacant)
    (enable : ∀ d : DoorNo, ¬ C d → r.platformEnable[d] = (s.berth b).platformEnable[d]) : Acted C s (s.setBerth b r) where
  apart := {
    ts := s.setBerth_ts b r
    list := by rw [State.setBerth_ou]
    span := fun c => by cases b <;> cases c; exacts [span, rfl, rfl, span]
    vacant := fun c => by cases b <;> cases c; exacts [vacant, .rfl, .rfl, vacant]
    door := fun _ _ => State.door_congr (s.setBerth_doors b r) _
    zonesOf := fun _ _ => by rw [State.zonesOf, State.setBerth_zones]; rfl
    key := fun _ _ => State.key_congr (s.setBerth_ou b r) _
    enable := fun d other c => by cases b <;> cases c; exacts [enable d other, rfl, rfl, enable d other]
    everyDoor := False.elim
    berth := False.elim
    loop := False.elim
    panel := False.elim }
  drm := by cases b <;> rfl
  panel := funext (State.panel_congr (s.setBerth_ou b r))
  mask := by cases b <;> rfl
  counters d := by rw [State.door_congr (s.setBerth_doors b r)]
  told := ⟨[], by cases b <;> exact Tells.refl s⟩

end Acted

/-! ## The door leaves the platform enable sets (R84) -/

theorem Berth.leftBy_span (r : Berth) (d : DoorNo) : (r.leftBy d).span = r.span := by unfold Berth.leftBy; split <;> rfl
theorem Berth.leftBy_state (r : Berth) (d : DoorNo) : (r.leftBy d).state = r.state := by unfold Berth.leftBy; split <;> rfl
theorem Berth.leftBy_enable (r : Berth) (d c : DoorNo) : (r.leftBy d).platformEnable[c] = (r.platformEnable[c] && c != d) := by
  unfold Berth.leftBy
  by_cases e : c = d
  · subst e
    split
    · simp [Berth.dropDoor]
    next off => simpa using off
  · split
    · simp [Berth.dropDoor, Fin.val_inj, e, Ne.symm e]
    · simp [e]

theorem State.dropFromBerths_berth (s : State) (d : DoorNo) (b : BerthId) :
    (s.dropFromBerths d).berth b = (s.berth b).leftBy d := by rw [State.dropFromBerths_eq]; cases b <;> rfl

/-- A door that leaves service is dropped from the berths alike. -/
theorem Alike.dropFromBerths {W : Prop} {D : DoorNo → Prop} {s t : State} (h : Alike W D s t) (d : DoorNo) :
    Alike W D (s.dropFromBerths d) (t.dropFromBerths d) where
  ts := by rw [State.dropFromBerths_eq, State.dropFromBerths_eq]; exact h.ts
  list := by rw [State.dropFromBerths_eq, State.dropFromBerths_eq]; exact h.list
  span b := by simp only [State.dropFromBerths_berth, Berth.leftBy_span, h.span]
  vacant b := by simp only [State.dropFromBerths_berth, Berth.leftBy_state, h.vacant]
  door c here := by rw [State.dropFromBerths_eq, State.dropFromBerths_eq]; exact h.door c here
  zonesOf c here := by rw [State.dropFromBerths_eq, State.dropFromBerths_eq]; exact h.zonesOf c here
  key c here := by rw [State.dropFromBerths_eq, State.dropFromBerths_eq]; exact h.key c here
  enable c here b := by simp only [State.dropFromBerths_berth, Berth.leftBy_enable, h.enable c here]
  everyDoor := h.everyDoor
  berth w := by funext b; rw [State.dropFromBerths_berth, State.dropFromBerths_berth, h.berth w]
  loop w := by rw [State.dropFromBerths_eq, State.dropFromBerths_eq]; exact h.loop w
  panel w := by rw [State.dropFromBerths_eq, State.dropFromBerths_eq]; exact h.panel w

theorem Acted.dropFromBerths {C : DoorNo → Prop} {d : DoorNo} (here : C d) (s : State) : Acted C s (s.dropFromBerths d) where
  apart := {
    ts := by rw [State.dropFromBerths_eq]
    list := by rw [State.dropFromBerths_eq]
    span := fun b => by rw [State.dropFromBerths_berth, Berth.leftBy_span]
    vacant := fun b => by rw [State.dropFromBerths_berth, Berth.leftBy_state]
    door := fun _ _ => by rw [State.dropFromBerths_eq]; rfl
    zonesOf := fun _ _ => by rw [State.dropFromBerths_eq]; rfl
    key := fun _ _ => by rw [State.dropFromBerths_eq]; rfl
    enable := fun c other b => by
      have ne : c ≠ d := fun e => other (e ▸ here)
      rw [State.dropFromBerths_berth, Berth.leftBy_enable, bne_iff_ne.mpr ne, Bool.and_true]
    everyDoor := False.elim
    berth := False.elim
    loop := False.elim
    panel := False.elim }
  drm := by rw [State.dropFromBerths_eq]
  panel := by rw [State.dropFromBerths_eq]; rfl
  mask := by rw [State.dropFromBerths_eq]
  counters _ := by rw [State.dropFromBerths_eq]; rfl
  told := ⟨[], by rw [State.dropFromBerths_eq]; exact Tells.refl s⟩

/-! ## The ring's counters in a door's record that is written -/

theorem Door.withReasons_ringCounters (r : Door) (m : MotionLimits) (n : Reasons) :
    (r.withReasons m n).ringCounters = r.ringCounters := by
  unfold Door.withReasons Door.reasonsArise Door.reasonsCease
  dsimp only
  repeat' split
  all_goals rfl
theorem Door.closedThenReasons_ringCounters (r : Door) (m : MotionLimits) :
    (r.closedThenReasons m).ringCounters = r.ringCounters := by
  unfold Door.closedThenReasons
  split <;> rfl

/-- Two states that go through acts on the doors of `C` side by side, alike at the doors of `D`; the first comes from `o`. -/
structure Tandem (W : Prop) (D C : DoorNo → Prop) (o s t : State) : Prop where
  alike : Alike W D s t
  acted : Acted C o s
  here : ∀ d, C d → D d

namespace Tandem

section
variable {W : Prop} {D C : DoorNo → Prop} {o s t : State} (h : Tandem W D C o s t)
include h

/-! ## Writing one record, and telling the station -/

theorem tell (ts us : List Telegram) : Tandem W D C o (s.tell ts) (t.tell us) :=
  ⟨h.alike.tell ts us, h.acted.trans (.tell C s ts), h.here⟩
theorem raise (e : EventKind) (n : Nat) (l : List Byte) : Tandem W D C o (s.raise e n l) (t.raise e n l) := by
  rw [State.raise_eq_tell, State.raise_eq_tell]; exact h.tell _ _
theorem handDoor (d : DoorNo) : Tandem W D C o (s.handDoor d) (t.handDoor d) :=
  ⟨h.alike.handDoor d, h.acted.trans (.handDoor C s d), h.here⟩
theorem handProofOfZone (z : Zone) : Tandem W D C o (s.handProofOfZone z) (t.handProofOfZone z) :=
  ⟨h.alike.zoneProof z, h.acted.trans (.handProofOfZone C s z), h.here⟩

/-- An act repeated over a list. -/
theorem foldl {α : Type} {act : State → α → State}
    (each : ∀ {u v : State} (x : α), Tandem W D C o u v → Tandem W D C o (act u x) (act v x)) (l : List α) :
    Tandem W D C o (l.foldl act s) (l.foldl act t) := by
  induction l generalizing s t with
  | nil => exact h
  | cons x l ih => exact ih (each x h)

section
variable {d : DoorNo} (c : C d)
include c

theorem door : t.door d = s.door d := h.alike.door d (h.here d c)
theorem inService : t.inService d = s.inService d := h.alike.inService (h.here d c)
theorem zone (z : ZoneId) : t.zone d z = s.zone d z := h.alike.zone (h.here d c) z
theorem zonesOf : t.zonesOf d = s.zonesOf d := h.alike.zonesOf d (h.here d c)
theorem key : t.key d = s.key d := h.alike.key d (h.here d c)

theorem setDoor (r : Door) (ring : r.ringCounters = (s.door d).ringCounters) : Tandem W D C o (s.setDoor d r) (t.setDoor d r) :=
  ⟨h.alike.setDoor d r, h.acted.trans (.setDoor c ring), h.here⟩
theorem setZones (x : DoorZones) : Tandem W D C o (s.setZones d x) (t.setZones d x) :=
  ⟨h.alike.setZones d x, h.acted.trans (.setZones c x), h.here⟩
theorem setZone (z : ZoneId) (r : Option ZoneRec) : Tandem W D C o (s.setZone d z r) (t.setZone d z r) := by
  unfold State.setZone
  rw [h.zonesOf c]
  exact h.setZones c _
theorem setKey (x : KeyState) : Tandem W D C o (s.setKey d x) (t.setKey d x) :=
  ⟨h.alike.setKey d x, h.acted.trans (.setKey c x), h.here⟩
theorem dropFromBerths : Tandem W D C o (s.dropFromBerths d) (t.dropFromBerths d) :=
  ⟨h.alike.dropFromBerths d, h.acted.trans (.dropFromBerths c s), h.here⟩

/-! ## Doors -/

theorem doorEvent {f g : State → State} (k : Tandem W D C o (f s) (g t)) : Tandem W D C o (s.doorEvent d f) (t.doorEvent d g) := by
  unfold State.doorEvent
  rw [h.door c, k.door c]
  split
  · exact k
  · exact k.handDoor d

theorem putReason (v : Bool) (k : Reason) : Tandem W D C o (s.putReason d v k) (t.putReason d v k) := by
  refine h.doorEvent c ?_
  rw [h.door c, h.alike.limits]
  exact h.setDoor c _ (Door.withReasons_ringCounters ..)
theorem addReason (k : Reason) : Tandem W D C o (s.addReason d k) (t.addReason d k) := h.putReason c true k

theorem faultDoor (x : FaultCause) : Tandem W D C o (s.faultDoor d x) (t.faultDoor d x) := by
  unfold State.faultDoor
  dsimp only
  rw [h.door c]
  have written := h.setDoor c ((s.door d).enterFault x) rfl
  split
  · exact written
  · exact written.raise _ _ _
theorem reopenOrHold : Tandem W D C o (s.reopenOrHold d) (t.reopenOrHold d) := by
  unfold State.reopenOrHold
  dsimp only
  rw [h.door c, h.alike.settings, h.alike.limits]
  split
  · exact h
  · split
    · exact h.setDoor c _ rfl
    · exact (h.setDoor c _ (by rfl)).raise _ _ _
theorem reopenTrigger : Tandem W D C o (s.reopenTrigger d) (t.reopenTrigger d) := h.doorEvent c (h.reopenOrHold c)
theorem latchReset : Tandem W D C o (s.latchReset d) (t.latchReset d) := by
  refine h.doorEvent c ?_
  dsimp only
  rw [h.door c, h.alike.limits]
  split
  · exact h
  · split <;> exact h.setDoor c _ rfl

theorem leaveZones : Tandem W D C o (s.leaveZones d) (t.leaveZones d) := by
  unfold State.leaveZones
  rw [h.zonesOf c, h.alike.pdt]
  exact h.setZones c _
theorem leaveKey : Tandem W D C o (s.leaveKey d) (t.leaveKey d) := by
  unfold State.leaveKey
  rw [h.key c, h.alike.pdt]
  exact h.setKey c _
theorem leaveService : Tandem W D C o (s.leaveService d) (t.leaveService d) := by
  unfold State.leaveService
  rw [h.door c]
  exact (((h.setDoor c _ (by rfl)).dropFromBerths c).leaveZones c).leaveKey c

theorem readopt (u : UnitStatus) (iso recovered : Bool) :
    Tandem W D C o (s.readopt d u iso recovered) (t.readopt d u iso recovered) := by
  unfold State.readopt
  dsimp only
  rw [h.door c]
  have taken := h.setDoor c
    { (s.door d).still with lastStatus := some u, isoKey := some iso, reopenCount := 0, returning := false } rfl
  rw [taken.alike.pdt, taken.alike.limits]
  split
  · split
    · exact taken.setDoor c _ (by rw [State.door_setDoor_same]; rfl)
    · exact taken.leaveService c
  · split
    · exact taken.faultDoor c _
    · split
      · exact (taken.setDoor c _ (by rw [State.door_setDoor_same]; rfl)).raise _ _ _
      · split
        · exact taken.setDoor c _ (by rw [State.door_setDoor_same, Door.closedThenReasons_ringCounters])
        · exact taken.setDoor c _ (by rw [State.door_setDoor_same]; rfl)

theorem fireOnReturn : Tandem W D C o (s.fireOnReturn d) (t.fireOnReturn d) := by
  unfold State.fireOnReturn
  rw [h.alike.present, h.alike.settings]
  split
  · exact h.addReason c .fire
  · exact h

theorem readoptEvent (u : UnitStatus) (iso recovered : Bool) :
    Tandem W D C o (s.readoptEvent d u iso recovered) (t.readoptEvent d u iso recovered) := by
  have event := h.doorEvent c (f := fun s => s.readopt d u iso recovered) (g := fun s => s.readopt d u iso recovered)
    (h.readopt c u iso recovered)
  unfold State.readoptEvent
  dsimp only
  rw [h.door c, event.inService c]
  split
  · exact event.fireOnReturn c
  · exact event

theorem faultClear : Tandem W D C o (s.faultClear d) (t.faultClear d) := by
  unfold State.faultClear
  dsimp only
  rw [h.door c]
  split
  · split
    · exact h.readoptEvent c _ _ _
    · exact h
  · exact h

theorem applyLeaf (u : UnitStatus) : Tandem W D C o (s.applyLeaf d u) (t.applyLeaf d u) := by
  unfold State.applyLeaf
  dsimp only
  rw [h.door c, h.alike.settings]
  split
  · split
    · exact h.setDoor c _ rfl
    · exact h
  · split
    · exact h.setDoor c _ rfl
    · split
      · exact h.setDoor c _ rfl
      · exact h
  · split
    · exact h.faultDoor c _
    · exact h
  · split
    · exact h.setDoor c _ rfl
    · exact h
  · exact h

theorem applyRules (u : UnitStatus) (wasManual : Bool) :
    Tandem W D C o (s.applyRules d u wasManual) (t.applyRules d u wasManual) := by
  unfold State.applyRules
  dsimp only
  rw [h.door c, h.alike.limits]
  split
  · exact h.faultDoor c _
  · split
    · exact (h.setDoor c _ (by rfl)).raise _ _ _
    · split
      · split
        · exact h.setDoor c _ (Door.closedThenReasons_ringCounters ..)
        · exact h.setDoor c _ rfl
      · exact h.applyLeaf c u

theorem applyStatus (u : UnitStatus) (iso : Bool) : Tandem W D C o (s.applyStatus d u iso) (t.applyStatus d u iso) := by
  unfold State.applyStatus
  dsimp only
  rw [h.door c, h.alike.pdt]
  split
  · exact h.readoptEvent c u iso false
  · split
    · exact h.readoptEvent c u iso false
    · refine h.doorEvent c ?_
      have known := h.setDoor c { s.door d with lastStatus := some u, isoKey := some iso } rfl
      split
      · exact known.leaveService c
      · exact known.applyRules c u _

theorem commLostNotice : Tandem W D C o (s.commLostNotice d) (t.commLostNotice d) := by
  refine h.doorEvent c ?_
  dsimp only
  rw [h.door c]
  have known := h.setDoor c { s.door d with lastStatus := some substitutedStatus } rfl
  rw [known.door c]
  split
  · exact known
  · exact known.faultDoor c _

/-! ## Sensing and effort -/

theorem handGap (z : ZoneId) : Tandem W D C o (s.handGap d z) (t.handGap d z) := by
  unfold State.handGap
  rw [h.inService c, h.alike.zoneOf]
  split
  · exact h.handProofOfZone _
  · exact h

theorem gapSensed (z : ZoneId) (p : SensingProfile) (occupied : Bool) :
    Tandem W D C o (s.gapSensed d z p occupied) (t.gapSensed d z p occupied) := by
  unfold State.gapSensed State.countDoor
  dsimp only
  rw [h.door c]
  split
  · have counted := (h.setDoor c ((s.door d).count DoorCounters.incGapEvents) rfl).raise .gapOccupied d.val (enc1 z.idx.val)
    have intruded := counted.raise .intrusion d.val (enc1 z.idx.val)
    rw [counted.alike.held]
    split
    · split
      · exact intruded.reopenTrigger c
      · exact counted.reopenTrigger c
    · split
      · exact intruded
      · exact counted
  · exact h

theorem handSensed (z : ZoneId) (p : SensingProfile) (occupied : Bool) :
    Tandem W D C o (s.handSensed d z p occupied) (t.handSensed d z p occupied) := by
  cases gap : z.isGap with
  | true =>
    have sensed := h.gapSensed c z p occupied
    rw [State.handSensed_gap _ _ _ gap, State.handSensed_gap _ _ _ gap, sensed.alike.zoneOf]
    exact sensed.handProofOfZone _
  | false =>
    rw [State.handSensed_outer _ _ _ gap, State.handSensed_outer _ _ _ gap]
    split
    · exact h.reopenTrigger c
    · exact h

theorem sampleZone (bit : Bool) (z : ZoneId) : Tandem W D C o (s.sampleZone d bit z) (t.sampleZone d bit z) := by
  have handed : ∀ (same : Prop) [Decidable same] (x : Option ZoneRec) (p : SensingProfile) (occupied : Bool), Tandem W D C o
      (if same then s.setZone d z x else (s.setZone d z x).handSensed d z p occupied)
      (if same then t.setZone d z x else (t.setZone d z x).handSensed d z p occupied) := by
    intro same _ x p occupied
    have written := h.setZone c z x
    split
    · exact written
    · exact written.handSensed c z p occupied
  unfold State.sampleZone
  rw [h.zone c, h.alike.sensing]
  split
  · rw [h.inService c]
    split
    · exact h
    · dsimp only
      rw [h.alike.becomesStuck (h.here d c)]
      split
      · exact ((handed _ _ _ _).raise _ _ _).handGap c z
      · exact handed _ _ _ _
  · exact h

theorem takeSensors (y : Reply) : Tandem W D C o (s.takeSensors d y) (t.takeSensors d y) :=
  h.foldl (fun z k => k.sampleZone c (y.sensor z) z) allZoneIds

theorem forceZones : Tandem W D C o (s.forceZones d) (t.forceZones d) := by
  refine h.foldl (fun z k => ?_) allZoneIds
  dsimp only
  rw [k.zone c]
  split
  · have written := k.setZone c z
    split
    · exact written _
    · exact (written _).handGap c z
  · exact k
theorem recoverZones : Tandem W D C o (s.recoverZones d) (t.recoverZones d) := by
  refine h.foldl (fun z k => ?_) allZoneIds
  dsimp only
  rw [k.zone c]
  split
  · split
    · exact k.setZone c z _
    · exact (k.setZone c z _).handGap c z
  · exact k
theorem stuckClear : Tandem W D C o (s.stuckClear d) (t.stuckClear d) := by
  refine h.foldl (fun z k => ?_) allZoneIds
  rw [k.zone c, k.alike.sensing]
  split
  · split
    · exact (k.setZone c z _).handGap c z
    · exact k
  · exact k

theorem tripDoor : Tandem W D C o (s.tripDoor d) (t.tripDoor d) := by
  unfold State.tripDoor
  rw [h.door c]
  split
  case h_1 => exact h.reopenOrHold c
  case h_2 | h_3 => exact h.setDoor c _ rfl
  case h_4 | h_5 | h_6 | h_7 => exact h.faultDoor c _
  case h_8 | h_9 | h_10 => exact h

theorem trip (x : DriveClass) (cause : TripCause) (i : Nat) : Tandem W D C o (s.trip d x cause i) (t.trip d x cause i) := by
  refine h.doorEvent c ?_
  dsimp only
  rw [h.door c]
  have counted := h.setDoor c ({ s.door d with effort := x.limit / 2 }.count DoorCounters.incEffortTrips) rfl
  rw [counted.door c]
  exact (counted.raise _ _ _).tripDoor c

theorem takeCurrent (i : Nat) : Tandem W D C o (s.takeCurrent d i) (t.takeCurrent d i) := by
  unfold State.takeCurrent
  dsimp only
  rw [h.door c, h.alike.driveClass]
  split
  · exact h
  · split
    · exact h
    · split
      · exact h.setDoor c _ rfl
      · split
        · exact h.trip c _ _ _
        · split
          · split
            · exact h.trip c _ _ _
            · exact h.setDoor c _ rfl
          · exact h.setDoor c _ rfl

/-! ## Overrides -/

theorem takeKey (on : Bool) : Tandem W D C o (s.takeKey d on) (t.takeKey d on) := by
  unfold State.takeKey
  rw [h.key c, h.alike.keyPermitted (h.here d c)]
  split
  · exact h.setKey c _
  · exact h.setKey c _
  · split
    · exact (h.addReason c .key).setKey c _
    · exact (h.setKey c _).raise _ _ _
  · exact h
  · exact h
  · exact h
  · exact (h.putReason c _ _).setKey c _
  · exact (h.putReason c _ _).setKey c _
theorem loseKey : Tandem W D C o (s.loseKey d) (t.loseKey d) := (h.putReason c false .key).setKey c _

/-! ## What a door slot hands on -/

theorem handReply (y : Reply) : Tandem W D C o (s.handReply d y) (t.handReply d y) :=
  (((h.takeSensors c y).takeCurrent c _).applyStatus c _ _).takeKey c _
theorem handLoss : Tandem W D C o (s.handLoss d) (t.handLoss d) :=
  (((h.raise .commLost d.val []).commLostNotice c).forceZones c).loseKey c
theorem handRecovery (y : Reply) : Tandem W D C o (s.handRecovery d y) (t.handRecovery d y) :=
  (((h.raise .commRecovered d.val []).recoverZones c).readoptEvent c _ _ true).handReply c y
theorem handDoorSlot (x : Handing) : Tandem W D C o (s.handDoorSlot d x) (t.handDoorSlot d x) := by
  cases x with
  | nothing => exact h
  | reply y => exact h.handReply c y
  | loss => exact h.handLoss c
  | recovery y => exact h.handRecovery c y
theorem handKeyAlone (y : Option Reply) : Tandem W D C o (s.handKeyAlone d y) (t.handKeyAlone d y) := by
  cases y with
  | none => exact h
  | some y =>
    unfold State.handKeyAlone
    rw [h.door c]
    exact h.setDoor c _ rfl

end
end
end Tandem
end Sys2Proof.Machine

namespace Sys2Proof.Machine

/-! # The act of a panel (R188 to R192), on two states alike as a whole -/

/-- A state is alike to itself as a whole. -/
theorem Alike.same_whole (s : State) : Alike True (fun _ => True) s s :=
  ⟨rfl, rfl, fun _ => rfl, fun _ => .rfl, fun _ _ => rfl, fun _ _ => rfl, fun _ _ => rfl, fun _ _ _ => rfl, fun _ _ => trivial,
    fun _ => rfl, fun _ => rfl, fun _ => rfl⟩

theorem Acted.flagBerth (C : DoorNo → Prop) (s : State) (b : BerthId) : Acted C s (s.flagBerth b) where
  apart := (Alike.refl _ s).same rfl rfl
  drm := rfl
  panel := rfl
  mask := by cases b <;> rfl
  counters _ := rfl
  told := ⟨[], by cases b <;> exact Tells.refl s⟩

/-- A panel's record once a reply has been taken as it (R188). -/
def Panel.taken (p : Panel) (y : Reply) : Panel :=
  { p with seen := true, key := y.panelKey, openPressed := y.openButton, closePressed := y.closeButton,
           resetPressed := y.resetButton }

/-- The presses of a reply act, behind the panel's record before it (R188, R189). -/
def State.panelActs (s : State) (z : Zone) (p : Panel) (y : Reply) : State :=
  let s1 := if pressActs y.panelKey y.closeButton p.closePressed then s.panelClose z else s
  let s2 := if pressActs y.panelKey y.resetButton p.resetPressed then s1.panelReset z else s1
  if pressActs y.panelKey y.openButton p.openPressed && !pressMade y.closeButton p.closePressed then s2.panelOpen z else s2

theorem State.panelReply_fitted {s : State} {z : Zone} {p : Panel} (fitted : s.panel z = some p) (y : Reply) : s.panelReply z y
    = if p.seen = false then s.setPanel z (some (p.taken y)) else (s.setPanel z (some (p.taken y))).panelActs z p y := by
  unfold State.panelReply
  rw [fitted]
  rfl
theorem State.panelReply_none {s : State} {z : Zone} (none : s.panel z = none) (y : Reply) : s.panelReply z y = s := by
  unfold State.panelReply
  rw [none]

namespace Tandem

theorem start {W : Prop} {D C : DoorNo → Prop} {s t : State} (h : Alike W D s t) (here : ∀ d, C d → D d) : Tandem W D C s s t :=
  ⟨h, .refl C s, here⟩

section
variable {W : Prop} {D C : DoorNo → Prop} {o s t : State} (h : Tandem W D C o s t)
include h

theorem reportBerth (b : BerthId) (st st' : BerthState) (c c' : Option CloseCause) (n n' : Nat) :
    Tandem W D C o (s.reportBerth b st c n) (t.reportBerth b st' c' n') := by
  rw [State.reportBerth_eq, State.reportBerth_eq]
  exact ⟨((h.alike.same rfl rfl).tell _ _), (h.acted.trans (.flagBerth C s b)).trans (.tell C _ _), h.here⟩
theorem reportBerthNow (b : BerthId) : Tandem W D C o (s.reportBerthNow b) (t.reportBerthNow b) := h.reportBerth b _ _ _ _ _ _
theorem offer {x y : Telegram} (report : x.cls ≠ .event) : Tandem W D C o (s.offer x) (t.offer y) := by
  refine ⟨h.alike.offer x y, ?_, h.here⟩
  rw [State.offer_eq_tell _ report]
  exact h.acted.trans (.tell C s _)
theorem offerBerthStatus (b : BerthId) : Tandem W D C o (s.offerBerthStatus b) (t.offerBerthStatus b) :=
  h.offer (by simp [berthStatusReport])

/-- The same acts at the doors of a list, one after another. -/
theorem forDoors {act : DoorNo → State → State}
    (each : ∀ {u v : State} (d : DoorNo), Tandem W D C o u v → Tandem W D C o (act d u) (act d v)) (ds : List DoorNo) :
    Tandem W D C o (forDoors ds act s) (forDoors ds act t) := h.foldl (act := fun s d => act d s) each ds

section
variable (whole : W)
include whole

/-- A berth's record is written, its span and its platform enable set standing; it is VACANT if and only if it was. -/
theorem setBerth {b : BerthId} {r : Berth} (span : r.span = (s.berth b).span)
    (vacant : r.state = .vacant ↔ (s.berth b).state = .vacant) (enable : r.platformEnable = (s.berth b).platformEnable) :
    Tandem W D C o (s.setBerth b r) (t.setBerth b r) :=
  ⟨h.alike.setBerth whole b r, h.acted.trans (.setBerth span vacant fun d _ => by rw [enable]), h.here⟩

theorem evaluateProof (b : BerthId) : Tandem W D C o (s.evaluateProof b) (t.evaluateProof b) := by
  unfold State.evaluateProof
  rw [h.alike.berth whole, h.alike.proofCondition whole]
  split
  next gains =>
    unfold State.gainProof
    rw [h.alike.berth whole]
    exact (h.setBerth whole (b := b) (r := (s.berth b).gained) rfl (by simp [gains.1, Berth.gained]) rfl).offer
      (by simp [permitGranted])
  · split
    next loses =>
      unfold State.loseProof
      rw [h.alike.berth whole, h.alike.settings]
      exact (h.setBerth whole (b := b) (r := (s.berth b).lost s.proofMs) rfl (by simp [loses.1, Berth.lost]) rfl).offer
        (by simp [permitWithdrawn])
    · exact h

theorem enterProving {b : BerthId} (occupied : (s.berth b).state ≠ .vacant) (c : CloseCause) :
    Tandem W D C o (s.enterProving b c) (t.enterProving b c) := by
  unfold State.enterProving
  rw [h.alike.berth whole, h.alike.settings]
  refine h.setBerth whole ?_ ?_ ?_
  · rfl
  · simp [occupied]
  · rfl

theorem finishProving (b : BerthId) : Tandem W D C o (s.finishProving b) (t.finishProving b) := by
  have k := h.evaluateProof whole b
  unfold State.finishProving
  dsimp only
  rw [k.alike.berth whole]
  have reported := k.reportBerth b .proving .proving (s.berth b).closeCause (t.berth b).closeCause
    ((s.berth b).trainNumber.getD 0) ((t.berth b).trainNumber.getD 0)
  split
  · exact (reported.reportBerthNow b).offerBerthStatus b
  · exact reported.offerBerthStatus b

/-- A berth is RELEASED, its doors not yet worked (R57). -/
theorem toRelease {b : BerthId} (occupied : (s.berth b).state ≠ .vacant) : Tandem W D C o (s.toRelease b) (t.toRelease b) := by
  unfold State.toRelease
  rw [h.alike.berth whole]
  have span : (s.berth b).releasedRec.span = (s.berth b).span := by unfold Berth.releasedRec; split <;> rfl
  have vacant : (s.berth b).releasedRec.state = .vacant ↔ (s.berth b).state = .vacant := by
    rw [Berth.releasedRec_state]; simp [occupied]
  exact (h.setBerth whole span vacant (Berth.releasedRec_enable _)).tell _ _

end

section
variable (every : ∀ d, C d)
include every

theorem shutDoors (ds : List DoorNo) (ks : List Reason) : Tandem W D C o (s.shutDoors ds ks) (t.shutDoors ds ks) :=
  (h.forDoors (act := fun d s => s.removeReasons d ks)
    (fun d k => k.foldl (act := fun s x => s.putReason d false x) (fun x k => k.putReason (every d) false x) ks) ds).forDoors
    (act := fun d s => s.latchReset d) (fun d k => k.latchReset (every d)) ds

theorem panelReset (z : Zone) : Tandem W D C o (s.panelReset z) (t.panelReset z) := by
  unfold State.panelReset
  rw [h.alike.zoneDoors]
  refine h.forDoors (act := fun d s => s.resetDoor d) (fun d k => ?_) _
  unfold State.resetDoor
  dsimp only
  rw [k.door (every d)]
  split
  · exact (k.latchReset (every d)).stuckClear (every d)
  · exact (k.faultClear (every d)).stuckClear (every d)
  · exact k.stuckClear (every d)

variable (whole : W)
include whole

theorem panelClose (z : Zone) : Tandem W D C o (s.panelClose z) (t.panelClose z) := by
  have holder : t.holder z = s.holder z := by unfold State.holder; rw [h.alike.berth whole]
  have doors : t.panelDoors z = s.panelDoors z := by
    unfold State.panelDoors; rw [holder, h.alike.spanDoors whole, h.alike.zoneDoors]
  unfold State.panelClose
  rw [h.alike.present, h.alike.present, holder, doors]
  split
  · exact h
  · dsimp only
    have shut := h.shutDoors every (s.panelDoors z) panelCloseReasons
    split
    · rw [shut.alike.berth whole]
      split
      next b _ released =>
        exact (shut.enterProving whole (by rw [released]; decide) .panel).finishProving whole b
      · exact shut
    · exact shut

theorem releaseBerth {b : BerthId} (occupied : (s.berth b).state ≠ .vacant) :
    Tandem W D C o (s.releaseBerth b) (t.releaseBerth b) := by
  rw [State.releaseBerth_eq, State.releaseBerth_eq]
  unfold State.releaseDoors
  rw [h.alike.berth whole]
  have worked := (h.toRelease whole occupied).forDoors (act := fun d s => s.addReason d .release)
    (fun d k => k.addReason (every d) .release) (s.berth b).enableDoors
  exact (worked.reportBerthNow b).offerBerthStatus b

theorem panelOpen (z : Zone) : Tandem W D C o (s.panelOpen z) (t.panelOpen z) := by
  have holder : t.holder z = s.holder z := by unfold State.holder; rw [h.alike.berth whole]
  unfold State.panelOpen
  rw [h.alike.present, holder, h.alike.zoneDoors, h.alike.berth whole, h.alike.settings]
  split
  · refine h.forDoors (act := fun d s => if s.inService d then s.addReason d .maint else s) (fun d k => ?_) _
    rw [k.inService (every d)]
    split
    · exact k.addReason (every d) .maint
    · exact k
  · split
    · split
      next passes =>
        refine h.releaseBerth every whole fun vacant => ?_
        rw [Berth.releasable, vacant] at passes
        simp at passes
      · exact h
    · exact h

theorem panelActs (z : Zone) (p : Panel) (y : Reply) : Tandem W D C o (s.panelActs z p y) (t.panelActs z p y) := by
  have onlyIf : ∀ {u v : State} {act : State → State} (c : Prop) [Decidable c],
      (∀ {u v : State}, Tandem W D C o u v → Tandem W D C o (act u) (act v)) → Tandem W D C o u v →
      Tandem W D C o (if c then act u else u) (if c then act v else v) := by
    intro u v act c _ acts k
    split
    · exact acts k
    · exact k
  exact onlyIf _ (fun k => k.panelOpen every whole z)
    (onlyIf _ (fun k => k.panelReset every z) (onlyIf _ (fun k => k.panelClose every whole z) h))

end
end
end Tandem
end Sys2Proof.Machine

namespace Sys2Proof.Machine

/-! # The hand-overs of a cycle close, slot by slot -/

/-! ## Slots -/

@[simp] theorem doorOfSlot_slotOfDoor (d : DoorNo) : doorOfSlot (slotOfDoor d) = some d := dif_pos d.isLt
@[simp] theorem doorOfSlot_slotOfPanel (z : Zone) : doorOfSlot (slotOfPanel z) = none := by cases z <;> rfl
@[simp] theorem panelOfSlot_slotOfPanel (z : Zone) : panelOfSlot (slotOfPanel z) = some z := by cases z <;> rfl

theorem slotOfDoor_ne_slotOfPanel (d : DoorNo) (z : Zone) : slotOfDoor d ≠ slotOfPanel z := by
  intro e
  have same := congrArg doorOfSlot e
  simp at same
theorem slotOfPanel_injective : Function.Injective slotOfPanel := by
  intro y z e
  have same := congrArg panelOfSlot e
  simpa using same

/-- A slot is a door's or a panel's. -/
theorem slot_cases (i : SlotNo) : (∃ d, i = slotOfDoor d) ∨ ∃ z, i = slotOfPanel z := by
  by_cases door : i.val < 48
  · exact .inl ⟨⟨i.val, door⟩, rfl⟩
  · by_cases front : i.val = 48
    · exact .inr ⟨.front, Fin.ext front⟩
    · exact .inr ⟨.rear, Fin.ext (show i.val = 49 by omega)⟩

theorem nodup_eraseDups {α : Type} [DecidableEq α] : ∀ l : List α, l.eraseDups.Nodup
  | [] => by simp
  | a :: l => by
    rw [List.eraseDups_cons, List.nodup_cons]
    exact ⟨by simp [List.mem_eraseDups], nodup_eraseDups (l.filter fun b => !b == a)⟩
  termination_by l => l.length
  decreasing_by exact Nat.lt_succ_of_le (List.length_filter_le _ _)

/-- Each slot has its place once. -/
theorem slotOrder_nodup (order : List SlotNo) : (slotOrder order).Nodup := by
  refine List.nodup_append.mpr ⟨nodup_eraseDups order, (List.nodup_finRange 50).filter _, fun i given j rest e => ?_⟩
  subst e
  have absent : i ∉ order := by simpa using (List.mem_filter.mp rest).2
  exact absent (List.mem_eraseDups.mp given)

theorem mem_slotOrder (order : List SlotNo) (i : SlotNo) : i ∈ slotOrder order := by
  unfold slotOrder
  by_cases given : i ∈ order
  · exact List.mem_append_left _ (List.mem_eraseDups.mpr given)
  · exact List.mem_append_right _ (by simpa [allSlots] using given)

/-- The slot named first is handed first. -/
theorem slotOrder_head {order : List SlotNo} {i : SlotNo} (first : order.head? = some i) : ∃ rest, slotOrder order = i :: rest := by
  cases order with
  | nil => simp at first
  | cons j l =>
    obtain rfl : j = i := by simpa using first
    exact ⟨_, by rw [slotOrder, List.eraseDups_cons, List.cons_append]⟩

/-- In a fold over distinct places one place has its turn: the acts before it keep `P`, its own act takes `P` to `Q`, and the acts after
it keep `Q`. Each act finds its place still `fresh`. -/
theorem foldl_turn {ι σ : Type} (act : σ → ι → σ) (fresh : σ → ι → Prop) (P Q : σ → Prop) (i : ι)
    (stays : ∀ t j k, k ≠ j → fresh t k → fresh (act t j) k) (before : ∀ t j, j ≠ i → fresh t j → P t → P (act t j))
    (own : ∀ t, fresh t i → P t → Q (act t i)) (after : ∀ t j, j ≠ i → fresh t j → Q t → Q (act t j))
    {l : List ι} (distinct : l.Nodup) (mem : i ∈ l) {s : σ} (all : ∀ j ∈ l, fresh s j) (start : P s) : Q (l.foldl act s) := by
  have rest : ∀ (l : List ι) (t : σ), l.Nodup → i ∉ l → (∀ j ∈ l, fresh t j) → Q t → Q (l.foldl act t) := by
    intro l
    induction l with
    | nil => exact fun _ _ _ _ done => done
    | cons j l ih =>
      intro t distinct out all done
      obtain ⟨once, distinct⟩ := List.nodup_cons.mp distinct
      obtain ⟨ne, out⟩ := not_or.mp (List.mem_cons.not.mp out)
      exact ih _ distinct out (fun k later => stays t j k (fun e => once (e ▸ later)) (all k (List.mem_cons_of_mem j later)))
        (after t j (Ne.symm ne) (all j List.mem_cons_self) done)
  induction l generalizing s with
  | nil => exact absurd mem (by simp)
  | cons j l ih =>
    obtain ⟨once, distinct⟩ := List.nodup_cons.mp distinct
    have later : ∀ k ∈ l, fresh (act s j) k := fun k later =>
      stays s j k (fun e => once (e ▸ later)) (all k (List.mem_cons_of_mem j later))
    have now := all j List.mem_cons_self
    rw [List.foldl_cons]
    by_cases here : j = i
    · subst here
      exact rest l _ distinct once later (own s now start)
    · exact ih distinct ((List.mem_cons.mp mem).resolve_left (Ne.symm here)) later (before s j here now start)

/-! ## What the slots hand on -/

theorem State.takeConfigured_settings (s : State) : s.takeConfigured.settings = s.settings :=
  State.settings_congr (State.ts_of_ground s.takeConfigured_ground)
theorem State.takeConfigured_selected (s : State) (i : SlotNo) : s.takeConfigured.selected i = s.heard i := by
  unfold State.heard State.selected State.replyA State.replyB State.takeConfigured selectReply
  rfl

section
variable {s : State} {i : SlotNo}

theorem State.configured_door (s : State) (d : DoorNo) : s.configured (slotOfDoor d) = (s.pdt d).inService := by
  simp [State.configured]
theorem State.configured_panel (s : State) (z : Zone) :
    s.configured (slotOfPanel z) = s.settings.panelsFitted.fits z := by simp [State.configured]

/-- What a configured slot hands on is told from its comm record and its selected reply (R97). -/
theorem State.handing_configured (on : s.configured i = true) : s.takeConfigured.handing i
    = some (handingOf (s.commOf i).state ((s.commOf i).move s.settings.holdCycles (s.heard i)).state (s.heard i)) := by
  have joined : (s.comm i).getD .fresh = s.commOf i := rfl
  unfold State.handing
  rw [State.takeConfigured_comm, if_pos on, Option.map_some, State.takeConfigured_settings, State.takeConfigured_selected, joined]
theorem State.handing_unconfigured (off : s.configured i = false) : s.takeConfigured.handing i = none := by
  unfold State.handing
  rw [State.takeConfigured_comm, off]
  rfl

/-- A reply handed on: of a slot that was LOST, as a recovery. -/
theorem HandsReply.handing {y : Reply} (h : HandsReply s i y) (on : s.configured i = true) :
    s.takeConfigured.handing i = some (if (s.commOf i).state = .lost then .recovery y else .reply y) := by
  obtain ⟨heard, live⟩ := h
  rw [State.handing_configured on, heard]
  unfold CommRec.move
  cases state : (s.commOf i).state with
  | lost => simp [state] at live; simp [live, handingOf]
  | noReply | live | holding => simp [handingOf]

theorem HandsNothing.handing (h : HandsNothing s i) (on : s.configured i = true) :
    s.takeConfigured.handing i = some .nothing := by
  rw [HandsNothing, if_pos on] at h
  rw [State.handing_configured on]
  unfold CommRec.move
  cases heard : s.heard i with
  | some y =>
    cases state : (s.commOf i).state with
    | lost => simp [state, heard] at h; simp [h, handingOf]
    | noReply | live | holding => simp [state, heard] at h
  | none =>
    cases state : (s.commOf i).state with
    | lost => simp [handingOf]
    | noReply | holding => simp only [state, heard] at h; simp [handingOf, Nat.not_lt.mpr h]
    | live => simp only [state, heard] at h; simp [handingOf, Nat.not_lt.mpr h]

/-- A slot that has no reply and is not LOST hands its loss on, or nothing. -/
theorem State.handing_loss (on : s.configured i = true) (silent : s.heard i = none) (notLost : (s.commOf i).state ≠ .lost)
    (hands : ¬ HandsNothing s i) : s.takeConfigured.handing i = some .loss := by
  rw [HandsNothing, if_pos on] at hands
  rw [State.handing_configured on, silent]
  unfold CommRec.move
  cases state : (s.commOf i).state with
  | lost => exact absurd state notLost
  | noReply | holding => simp only [state, silent, not_le] at hands; simp [handingOf, hands]
  | live => simp only [state, silent, not_le] at hands; simp [handingOf, hands]

end

/-! ## One slot's hand-over -/

/-- A slot's hand-over at the cycle close of `s`. -/
def State.hands (s t : State) (i : SlotNo) : State := t.handSlot i (s.takeConfigured.handing i) (s.heard i)

theorem State.closeHanding_eq (s : State) (order : List SlotNo) :
    s.closeHanding order = (slotOrder order).foldl s.hands s.closeSelections := rfl

section
variable {s : State} (t : State)

theorem State.hands_door {d : DoorNo} {x : Handing} (hands : s.takeConfigured.handing (slotOfDoor d) = some x) :
    s.hands t (slotOfDoor d) = t.handDoorSlot d x := by
  unfold State.hands State.handSlot
  rw [hands, doorOfSlot_slotOfDoor]
theorem State.hands_keyAlone {d : DoorNo} (off : (s.pdt d).inService = false) :
    s.hands t (slotOfDoor d) = t.handKeyAlone d (s.heard (slotOfDoor d)) := by
  unfold State.hands State.handSlot
  rw [State.handing_unconfigured (by rw [State.configured_door, off]), doorOfSlot_slotOfDoor]
theorem State.hands_panel {z : Zone} {x : Handing} (hands : s.takeConfigured.handing (slotOfPanel z) = some x) :
    s.hands t (slotOfPanel z) = t.handPanelSlot z x := by
  unfold State.hands State.handSlot
  rw [hands, doorOfSlot_slotOfPanel, panelOfSlot_slotOfPanel]
theorem State.hands_none {z : Zone} (hands : s.takeConfigured.handing (slotOfPanel z) = none) : s.hands t (slotOfPanel z) = t := by
  unfold State.hands State.handSlot
  rw [hands, doorOfSlot_slotOfPanel, panelOfSlot_slotOfPanel]
theorem State.hands_unfitted {z : Zone} (off : s.settings.panelsFitted.fits z = false) : s.hands t (slotOfPanel z) = t :=
  State.hands_none t (State.handing_unconfigured (by rw [State.configured_panel, off]))

/-- A slot that hands nothing changes nothing. -/
theorem HandsNothing.hands {i : SlotNo} (nothing : HandsNothing s i) : s.hands t i = t := by
  rcases slot_cases i with ⟨d, rfl⟩ | ⟨z, rfl⟩
  · cases on : (s.pdt d).inService with
    | true => rw [State.hands_door t (nothing.handing (by rw [State.configured_door, on]))]; rfl
    | false =>
      rw [State.hands_keyAlone t on]
      rw [HandsNothing, if_neg (by rw [State.configured_door, on]; decide)] at nothing
      have silent : s.heard (slotOfDoor d) = none := nothing.resolve_right (Nat.not_le.mpr d.isLt)
      rw [silent]
      rfl
  · cases on : s.settings.panelsFitted.fits z with
    | true => rw [State.hands_panel t (nothing.handing (by rw [State.configured_panel, on]))]; rfl
    | false => exact State.hands_unfitted t on

end

/-- A door slot's hand-over works that door alone, and leaves states alike as it finds them. -/
theorem Tandem.hands {W : Prop} {D C : DoorNo → Prop} {o u v : State} (h : Tandem W D C o u v) (s : State) {d : DoorNo} (c : C d) :
    Tandem W D C o (s.hands u (slotOfDoor d)) (s.hands v (slotOfDoor d)) := by
  unfold State.hands State.handSlot
  rw [doorOfSlot_slotOfDoor]
  cases s.takeConfigured.handing (slotOfDoor d) with
  | some x => exact h.handDoorSlot c x
  | none => exact h.handKeyAlone c _

theorem Alike.handed {W : Prop} {D : DoorNo → Prop} {u v : State} (h : Alike W D u v) (s : State) {d : DoorNo} (c : D d) :
    Alike W D (s.hands u (slotOfDoor d)) (s.hands v (slotOfDoor d)) := (Tandem.start h (fun _ here => here)).hands s c |>.alike

theorem State.hands_acted (s t : State) (d : DoorNo) : Acted (· = d) t (s.hands t (slotOfDoor d)) :=
  ((Tandem.start (.refl (· = d) t) fun _ here => here).hands s rfl).acted

/-- A press acts alike on states that are alike as a whole, and leaves of the part what `Acted` says. -/
theorem Alike.panelReply {W : Prop} {D : DoorNo → Prop} {u v : State} (h : Alike W D u v) (whole : W) (z : Zone) (y : Reply) :
    Alike W D (u.panelReply z y) (v.panelReply z y) := by
  cases fitted : u.panel z with
  | none =>
    have fitted' : v.panel z = none := by rw [h.panel whole, fitted]
    rw [State.panelReply_none fitted, State.panelReply_none fitted']
    exact h
  | some p =>
    have fitted' : v.panel z = some p := by rw [h.panel whole, fitted]
    rw [State.panelReply_fitted fitted, State.panelReply_fitted fitted']
    have taken := h.setPanel z (some (p.taken y))
    split
    · exact taken
    · exact ((Tandem.start (C := fun _ => True) taken fun d _ => h.everyDoor whole d).panelActs (fun _ => trivial) whole z p y).alike

/-- The panel's record is taken, and what its presses do is `Acted`. -/
theorem State.panelReply_acted {t : State} {z : Zone} {p : Panel} (fitted : t.panel z = some p) (y : Reply) :
    Acted (fun _ => True) (t.setPanel z (some (p.taken y))) (t.panelReply z y) := by
  rw [State.panelReply_fitted fitted]
  split
  · exact .refl _ _
  · have whole := Alike.same_whole (t.setPanel z (some (p.taken y)))
    exact ((Tandem.start (C := fun _ => True) whole fun _ h => h).panelActs (fun _ => trivial) trivial z p y).acted

/-! ## What every hand-over leaves of the part -/

/-- From `s` to `t` hand-overs of a cycle close have worked: the tables, the ring master, the event mask, the ring's counters and the
panels fitted stand, and telegrams have been offered. -/
structure HandKept (s t : State) : Prop where
  ts : t.ts = s.ts
  drm : t.drm = s.drm
  mask : t.er.mask = s.er.mask
  counters : ∀ d, (t.door d).ringCounters = (s.door d).ringCounters
  fitted : ∀ z, (t.panel z).isSome = (s.panel z).isSome
  told : ∃ ts : List Telegram, Tells s t ts

namespace HandKept
variable {s t u : State}

theorem refl (s : State) : HandKept s s := ⟨rfl, rfl, rfl, fun _ => rfl, fun _ => rfl, [], Tells.refl s⟩
theorem trans (h : HandKept s t) (k : HandKept t u) : HandKept s u := by
  obtain ⟨ts, told⟩ := h.told
  obtain ⟨us, told'⟩ := k.told
  exact ⟨k.ts.trans h.ts, k.drm.trans h.drm, k.mask.trans h.mask, fun d => (k.counters d).trans (h.counters d),
    fun z => (k.fitted z).trans (h.fitted z), ts ++ us, tells_append told told'⟩

theorem of_acted {C : DoorNo → Prop} (h : Acted C s t) : HandKept s t :=
  ⟨h.apart.ts, h.drm, h.mask, h.counters, fun z => by rw [h.panel], h.told⟩

/-- The record of a fitted panel is written. -/
theorem setPanel {z : Zone} {p : Option Panel} (fitted : p.isSome = (s.panel z).isSome) : HandKept s (s.setPanel z p) := by
  refine ⟨s.setPanel_ts z p, by cases z <;> rfl, by cases z <;> rfl, fun d => by cases z <;> rfl, fun y => ?_, [], ?_⟩
  · cases z <;> cases y; exacts [fitted, rfl, rfl, fitted]
  · cases z <;> exact Tells.refl s

theorem raise (s : State) (e : EventKind) (n : Nat) (l : List Byte) : HandKept s (s.raise e n l) := by
  rw [State.raise_eq_tell]
  exact .of_acted (.tell (fun _ => True) s _)

theorem panelReply (s : State) (z : Zone) (y : Reply) : HandKept s (s.panelReply z y) := by
  cases fitted : s.panel z with
  | none => rw [State.panelReply_none fitted]; exact .refl s
  | some p => exact (setPanel (by rw [fitted]; rfl)).trans (.of_acted (State.panelReply_acted fitted y))

theorem hands (s t : State) (i : SlotNo) : HandKept t (s.hands t i) := by
  rcases slot_cases i with ⟨d, rfl⟩ | ⟨z, rfl⟩
  · exact .of_acted (s.hands_acted t d)
  · cases hands : s.takeConfigured.handing (slotOfPanel z) with
    | none => rw [State.hands_none t hands]; exact .refl t
    | some x =>
      rw [State.hands_panel t hands]
      cases x with
      | nothing => exact .refl t
      | reply y => exact .panelReply t z y
      | loss => exact (raise t _ _ _).trans (setPanel (by rw [Option.isSome_map]))
      | recovery y => exact (raise t _ _ _).trans (.panelReply _ z y)

theorem foldl (s t : State) (l : List SlotNo) : HandKept t (l.foldl s.hands t) := by
  induction l generalizing t with
  | nil => exact .refl t
  | cons i l ih => exact (hands s t i).trans (ih _)

end HandKept

end Sys2Proof.Machine

namespace Sys2Proof.Machine

/-! # A cycle close as a whole (R88 to R97, R104) -/

/-! ## What the ring master judges -/

/-- The RING_STATE of a cycle close, where the ring state or the break position changes (R96, R206). -/
def State.ringChange (s : State) : List Telegram :=
  if s.judgedRing = (s.drm.ring, s.drm.breakPos) then []
  else s.eventOf .ringState 0xFF (enc1 s.judgedRing.1.code ++ encOpt1 s.judgedRing.2)

theorem State.judgeRing_eq (s : State) : s.judgeRing
    = ({ s with drm := { s.drm with ring := s.judgedRing.1, breakPos := s.judgedRing.2 } }).tell s.ringChange := by
  unfold State.judgeRing State.ringChange
  dsimp only
  split
  next same => rw [same, State.tell_nil]
  next => rw [State.raise_eq_tell]; rfl

/-- The ring test once a test cycle has been judged, with the report of its end (R104, R105). -/
def RingMaster.judgedTest (m : RingMaster) (sel : SlotNo → Option Reply) : RingTest × List Telegram :=
  if m.judged = true ∧ m.test.status = .run then
    let slots := m.test.slots.map fun x => x.judge sel
    if m.test.cyclesDone + 1 = 128 then
      let t := { m.test with slots := slots.map TestSlot.settle, cyclesDone := 128, status := .finished }
      (t, [ringTestReport t])
    else ({ m.test with slots := slots, cyclesDone := m.test.cyclesDone + 1 }, [])
  else (m.test, [])

theorem State.judgeTest_eq (s : State) (sel : SlotNo → Option Reply) :
    s.judgeTest sel = (s.setTest (s.drm.judgedTest sel).1).tell (s.drm.judgedTest sel).2 := by
  unfold State.judgeTest RingMaster.judgedTest
  dsimp only
  split
  · split
    · rw [State.offer_eq_tell _ (by simp [ringTestReport])]
    · rw [State.tell_nil]
  · rw [State.tell_nil]; rfl

/-- The doors, and the ring master, written whole. -/
def State.withDoors (s : State) (v : Vector Door 48) : State := { s with doors := v }
def State.withDrm (s : State) (m : RingMaster) : State := { s with drm := m }
def RingMaster.withComm (m : RingMaster) (v : Vector (Option CommRec) 50) : RingMaster := { m with comm := v }

@[simp] theorem State.withDrm_door (s : State) (m : RingMaster) (d : DoorNo) : (s.withDrm m).door d = s.door d := rfl
theorem State.withDrm_comm (s : State) (m : RingMaster) (i : SlotNo) : (s.withDrm m).comm i = m.comm[i] := rfl

/-- The two counters are those of R94 and R97, whether or not the comm records have been taken. -/
theorem State.countRing_eq (s : State) : s.countRing = s.ringCounted := by
  refine congrArg s.withDoors (congrArg Vector.ofFn (funext fun d => ?_))
  rw [State.configured_door]
  dsimp only
  generalize s.replyA (slotOfDoor d) = a
  generalize s.replyB (slotOfDoor d) = b
  split
  · cases a with
    | none => cases b <;> rfl
    | some x =>
      cases b with
      | none => rfl
      | some y =>
        by_cases same : x = y
        · simp only [Door.count, ringCounts, same, if_true]
        · simp only [Door.count, ringCounts, same, if_false]; rfl
  · rfl

/-- Two states at whose cycle close the same is heard: their tables stand alike, and their ring masters but for the comm records. -/
structure SameCycle (s t : State) : Prop where
  ts : t.ts = s.ts
  drm : t.drm = s.drm.withComm t.drm.comm

namespace SameCycle
variable {s t : State} (h : SameCycle s t)
include h

theorem replies (i : SlotNo) : t.replyA i = s.replyA i ∧ t.replyB i = s.replyB i := by
  have a : t.drm.copyA = s.drm.copyA := by rw [h.drm]; rfl
  have b : t.drm.copyB = s.drm.copyB := by rw [h.drm]; rfl
  unfold State.replyA State.replyB
  rw [a, b]
  exact ⟨rfl, rfl⟩
theorem heard (i : SlotNo) : t.selected i = s.heard i := by
  obtain ⟨a, b⟩ := h.replies i
  unfold State.selected State.heard
  rw [a, b]
  rfl
theorem configured (i : SlotNo) : t.configured i = s.configured i := State.configured_congr h.ts i

theorem judgedRing : t.judgedRing = s.judgedRing := by
  have ring : t.drm.ring = s.drm.ring := by rw [h.drm]; rfl
  have breakPos : t.drm.breakPos = s.drm.breakPos := by rw [h.drm]; rfl
  have a : t.replyA = s.replyA := funext fun i => (h.replies i).1
  have b : t.replyB = s.replyB := funext fun i => (h.replies i).2
  unfold State.judgedRing
  rw [funext h.configured, a, b, ring, breakPos]

theorem ringChange (mask : t.er.mask = s.er.mask) : t.ringChange = s.ringChange := by
  have ring : t.drm.ring = s.drm.ring := by rw [h.drm]; rfl
  have breakPos : t.drm.breakPos = s.drm.breakPos := by rw [h.drm]; rfl
  unfold State.ringChange
  rw [h.judgedRing, ring, breakPos, State.eventOf_congr mask]

end SameCycle

/-- Other comm records do not change what is heard. -/
theorem SameCycle.withComm {s t : State} (h : SameCycle s t) (v : Vector (Option CommRec) 50) :
    SameCycle s (t.withDrm (s.drm.withComm v)) := ⟨h.ts, rfl⟩

theorem State.ringCounted_same (s : State) : SameCycle s s.ringCounted := by
  unfold State.ringCounted
  exact ⟨rfl, rfl⟩
theorem State.ringCounted_withComm (s : State) (v : Vector (Option CommRec) 50) :
    (s.withDrm (s.drm.withComm v)).ringCounted = s.ringCounted.withDrm (s.drm.withComm v) := by
  unfold State.ringCounted
  rfl

/-- The comm records of the configured slots, each moved (R91, R97). -/
def State.movedComm (s : State) : Vector (Option CommRec) 50 := Vector.ofFn fun i : SlotNo =>
  if s.configured i then some ((s.commOf i).move s.settings.holdCycles (s.heard i)) else none

theorem State.moveComm_eq {s u : State} (same : SameCycle s u)
    (taken : ∀ i : SlotNo, u.comm i = if s.configured i then some (s.commOf i) else none) :
    u.moveComm = u.withDrm (s.drm.withComm s.movedComm) := by
  have moved : u.moveComm = u.withDrm (u.drm.withComm s.movedComm) := by
    refine congrArg (fun w => u.withDrm (u.drm.withComm w)) (congrArg Vector.ofFn (funext fun i => ?_))
    rw [same.heard, State.settings_congr same.ts, taken]
    split <;> rfl
  rw [moved, same.drm]
  rfl

/-- The ring master once a cycle close has moved its comm records and judged the ring and the test (R91, R96, R97, R104). -/
def State.closedDrm (s : State) : RingMaster :=
  { s.drm.withComm s.movedComm with
    ring := s.judgedRing.1, breakPos := s.judgedRing.2, test := (s.drm.judgedTest s.heard).1 }

/-- What a cycle close tells before its hand-overs. -/
def State.closedTells (s : State) : List Telegram := s.ringChange ++ (s.drm.judgedTest s.heard).2

/-- The counters are counted, the comm records moved, the ring and the test judged, and no other record is touched. -/
theorem State.closeSelections_eq (s : State) : s.closeSelections = (s.ringCounted.withDrm s.closedDrm).tell s.closedTells := by
  obtain ⟨v, taken⟩ : ∃ v, s.takeConfigured = s.withDrm (s.drm.withComm v) := ⟨_, by unfold State.takeConfigured; rfl⟩
  have comm : ∀ i : SlotNo, (s.ringCounted.withDrm (s.drm.withComm v)).comm i
      = if s.configured i then some (s.commOf i) else none := by
    intro i
    have joined := s.takeConfigured_comm i
    rw [taken, State.withDrm_comm] at joined
    rw [State.withDrm_comm, joined]
    rfl
  have counted : s.takeConfigured.countRing = s.ringCounted.withDrm (s.drm.withComm v) := by
    rw [State.countRing_eq, taken, State.ringCounted_withComm]
  have mask : s.ringCounted.er.mask = s.er.mask := by unfold State.ringCounted; rfl
  have same := s.ringCounted_same
  unfold State.closeSelections
  rw [counted]
  generalize s.ringCounted = q at same mask comm
  rw [State.moveComm_eq (same.withComm v) comm, State.closedDrm, State.closedTells]
  generalize s.movedComm = w
  have moved := same.withComm w
  have written : (q.withDrm (s.drm.withComm v)).withDrm (s.drm.withComm w) = q.withDrm (s.drm.withComm w) := rfl
  rw [written, State.judgeRing_eq, State.judgeTest_eq, moved.judgedRing, moved.ringChange mask, ← State.tell_tell]
  rfl

end Sys2Proof.Machine

namespace Sys2Proof.Machine

/-! ## The next cycle begins (R88, R89) -/

section
variable (s : State) (n : BitVec 8)

theorem State.startCycle_door (d : DoorNo) : (s.startCycle n).door d = s.door d := by rw [State.startCycle_frame]; rfl
theorem State.startCycle_zonesOf (d : DoorNo) : (s.startCycle n).zonesOf d = s.zonesOf d := by rw [State.startCycle_frame]; rfl
theorem State.startCycle_zone (d : DoorNo) (z : ZoneId) : (s.startCycle n).zone d z = s.zone d z := by
  unfold State.zone; rw [State.startCycle_zonesOf]
theorem State.startCycle_key (d : DoorNo) : (s.startCycle n).key d = s.key d := by rw [State.startCycle_frame]; rfl
theorem State.startCycle_tells {o : State} {ts : List Telegram} (h : Tells o s ts) : Tells o (s.startCycle n) ts := by
  rw [State.startCycle_frame]; exact h

/-- The next cycle begins with its comm records and the ring state as they stand. -/
theorem State.startCycle_kept : (s.startCycle n).drm.comm = s.drm.comm ∧ (s.startCycle n).drm.ring = s.drm.ring
    ∧ (s.startCycle n).drm.breakPos = s.drm.breakPos := by
  unfold State.startCycle
  exact ⟨rfl, rfl, rfl⟩

/-- It has the number given, the period read now, and no copy yet. -/
theorem State.startCycle_begins : (s.startCycle n).drm.cycleNo = n ∧ (s.startCycle n).drm.period = s.settings.ringPeriod
    ∧ (s.startCycle n).drm.copyA = none ∧ (s.startCycle n).drm.copyB = none := by
  have settings : ((s.setLamps .front).setLamps .rear).settings = s.settings := State.settings_congr rfl
  unfold State.startCycle
  exact ⟨rfl, congrArg Settings.ringPeriod settings, rfl, rfl⟩

/-- Its frame is TEST while a ring test runs. -/
theorem State.startCycle_test : (s.startCycle n).drm.kind = (if s.drm.test.status = .run then .test else .normal)
    ∧ (s.startCycle n).drm.judged = decide (s.drm.test.status = .run)
    ∧ (s.startCycle n).drm.test = (if s.drm.test.status = .run then
        { s.drm.test with gen := (drawWords s.drm.test.gen s.drm.test.slots).1
                          slots := (drawWords s.drm.test.gen s.drm.test.slots).2.map Prod.fst }
        else s.drm.test)
    ∧ ∀ i : SlotNo, ((s.startCycle n).drm.frame[i]).testWord
        = if s.drm.test.status = .run then sentWord (drawWords s.drm.test.gen s.drm.test.slots).2 i else 0 := by
  have test : ((s.setLamps .front).setLamps .rear).drm.test = s.drm.test := rfl
  unfold State.startCycle
  simp only [test]
  refine ⟨trivial, trivial, ?_, fun i => ?_⟩
  · split <;> rfl
  · simp only [Fin.getElem_fin, Vector.getElem_ofFn]
    split <;> rfl

end

/-! ## The close as a whole -/

section
variable (s : State) (order : List SlotNo)

theorem exec_cycleClose {s : State} (running : s.phase = .running) (order : List SlotNo) :
    exec (.cycleClose order) s = .next (s.closeCycle order) := congrArg Host.Outcome.next (if_pos running)

theorem State.tells_withDrm {s t : State} {m : RingMaster} {ts : List Telegram} : Tells (s.withDrm m) t ts ↔ Tells s t ts := .rfl

theorem State.closeSelections_drm : s.closeSelections.drm = s.closedDrm := by rw [State.closeSelections_eq]; rfl
theorem State.tell_withDrm_mask (s : State) (m : RingMaster) (ts : List Telegram) :
    ((s.withDrm m).tell ts).er.mask = s.er.mask := rfl
theorem State.closeSelections_mask : s.closeSelections.er.mask = s.er.mask := by
  have er : s.ringCounted.er = s.er := by unfold State.ringCounted; rfl
  rw [State.closeSelections_eq, ← er, State.tell_withDrm_mask]
theorem State.closeSelections_tells : Tells s s.closeSelections s.closedTells := by
  have lli : s.ringCounted.lli = s.lli := by unfold State.ringCounted; rfl
  have er : s.ringCounted.er = s.er := by unfold State.ringCounted; rfl
  rw [State.closeSelections_eq, Tells, ← lli, ← er]
  exact State.tells_withDrm.mp (State.tells_tell _ s.closedTells)

theorem State.closeHanding_kept : HandKept s.closeSelections (s.closeHanding order) := by
  rw [State.closeHanding_eq]
  exact .foldl s _ _

theorem State.closeHanding_drm : (s.closeHanding order).drm = s.closedDrm :=
  (s.closeHanding_kept order).drm.trans s.closeSelections_drm

/-- What a cycle close tells: what its judgements tell, and then what its hand-overs do. -/
theorem State.closeCycle_tells : ∃ ts : List Telegram, Tells s (s.closeCycle order) (s.closedTells ++ ts) := by
  obtain ⟨ts, told⟩ := (s.closeHanding_kept order).told
  exact ⟨ts, State.startCycle_tells _ _ (tells_append s.closeSelections_tells told)⟩

theorem State.closeCycle_comm (i : SlotNo) : (s.closeCycle order).comm i
    = if s.configured i = true then some ((s.commOf i).move s.settings.holdCycles (s.heard i)) else none := by
  obtain ⟨comm, -, -⟩ := (s.closeHanding order).startCycle_kept (s.drm.cycleNo + 1)
  have moved : (s.closeCycle order).drm.comm = s.movedComm := comm.trans (by rw [State.closeHanding_drm]; rfl)
  unfold State.comm
  rw [moved]
  unfold State.movedComm
  simp only [Fin.getElem_fin, Vector.getElem_ofFn]

/-- The ring's counters move, and no other field of a door's record (R94, R97). -/
theorem State.ringCounted_door (d : DoorNo) :
    s.ringCounted.door d = { s.door d with counters := (s.ringCounted.door d).counters }
    ∧ (s.ringCounted.door d).counters.disagree = (if (s.pdt d).inService = true ∧ s.replyA (slotOfDoor d) ≠ none
        ∧ s.replyB (slotOfDoor d) ≠ none ∧ s.replyA (slotOfDoor d) ≠ s.replyB (slotOfDoor d)
        then min 65535 ((s.door d).counters.disagree + 1) else (s.door d).counters.disagree)
    ∧ (s.ringCounted.door d).counters.commMisses = (if (s.pdt d).inService = true ∧ s.replyA (slotOfDoor d) = none
        ∧ s.replyB (slotOfDoor d) = none
        then min 65535 ((s.door d).counters.commMisses + 1) else (s.door d).counters.commMisses) := by
  unfold State.ringCounted
  simp only [State.door, Fin.getElem_fin, Vector.getElem_ofFn]
  generalize s.doors[d.val] = r
  generalize s.replyA (slotOfDoor d) = a
  generalize s.replyB (slotOfDoor d) = b
  cases (s.pdt d).inService with
  | false => simp
  | true =>
    cases a with
    | none => cases b <;> simp
    | some x =>
      cases b with
      | none => simp
      | some y => by_cases same : x = y <;> simp [same]

/-- What the ring master judges is not looked at by the hand-overs. -/
theorem Alike.judged (q : State) (m : RingMaster) (ts : List Telegram) : Alike True (fun _ => True) q ((q.withDrm m).tell ts) :=
  (Alike.same_whole q).same rfl rfl
theorem State.closeSelections_alike : Alike True (fun _ => True) s.ringCounted s.closeSelections := by
  rw [State.closeSelections_eq]
  exact .judged _ _ _

theorem State.ringCounted_zone (d : DoorNo) (z : ZoneId) : s.ringCounted.zone d z = s.zone d z := by
  have zones : s.ringCounted.zones = s.zones := by unfold State.ringCounted; rfl
  exact State.zone_congr zones d z

theorem State.closeSelections_door (d : DoorNo) : s.closeSelections.door d = s.ringCounted.door d := by
  rw [State.closeSelections_eq, State.tell_door, State.withDrm_door]

theorem State.closeCycle_counters (d : DoorNo) :
    ((s.closeCycle order).door d).counters.disagree = (s.ringCounted.door d).counters.disagree
    ∧ ((s.closeCycle order).door d).counters.commMisses = (s.ringCounted.door d).counters.commMisses := by
  have kept := (s.closeHanding_kept order).counters d
  have next : (s.closeCycle order).door d = (s.closeHanding order).door d := State.startCycle_door ..
  rw [State.closeSelections_door, ← next] at kept
  exact Prod.mk.inj kept

end

/-! # The ring state (R96) -/

/-- The configured slots, and whether each of the two replies of one is missing. -/
theorem State.mem_configured (s : State) (i : SlotNo) : i ∈ allSlots.filter s.configured ↔ s.configured i = true := by
  simp [allSlots]

section
variable {s : State}

theorem State.judgedRing_intact (both : ∀ i : SlotNo, s.configured i = true → s.replyA i ≠ none ∧ s.replyB i ≠ none) :
    s.judgedRing = (.intact, none) := by
  refine if_pos (List.all_eq_true.mpr fun i on => ?_)
  obtain ⟨a, b⟩ := both i ((s.mem_configured i).mp on)
  simp [Option.isSome_iff_ne_none, a, b]

/-- A slot misses one of its two replies. -/
def State.OneSided (s : State) (i : SlotNo) : Prop := (s.replyA i = none) ≠ (s.replyB i = none)

theorem State.oneSided_iff (s : State) (i : SlotNo) : s.OneSided i ↔ ((s.replyA i).isSome != (s.replyB i).isSome) = true := by
  unfold State.OneSided
  cases s.replyA i <;> cases s.replyB i <;> simp

theorem State.judgedRing_open (one : ∃ i : SlotNo, s.configured i = true ∧ s.OneSided i) : s.judgedRing
    = (.openRing, some ((((allSlots.filter s.configured).find? fun i => (s.replyA i).isNone).map fun i => i.val).getD 50)) := by
  obtain ⟨i, on, oneSided⟩ := one
  have differs := (s.oneSided_iff i).mp oneSided
  have mem := (s.mem_configured i).mpr on
  refine (if_neg fun all => ?_).trans (if_pos (List.any_eq_true.mpr ⟨i, mem, differs⟩))
  have both := List.all_eq_true.mp all i mem
  cases a : s.replyA i <;> cases b : s.replyB i <;> simp [a, b] at both differs

theorem State.judgedRing_kept (none : ∃ i : SlotNo, s.configured i = true ∧ s.replyA i = none ∧ s.replyB i = none)
    (even : ∀ i : SlotNo, s.configured i = true → ¬ s.OneSided i) : s.judgedRing = (s.drm.ring, s.drm.breakPos) := by
  obtain ⟨i, on, a, b⟩ := none
  refine (if_neg fun all => ?_).trans (if_neg fun any => ?_)
  · have both := List.all_eq_true.mp all i ((s.mem_configured i).mpr on)
    simp [a, b] at both
  · obtain ⟨j, mem, differs⟩ := List.any_eq_true.mp any
    exact even j ((s.mem_configured j).mp mem) ((s.oneSided_iff j).mpr differs)

/-- The break position: 50 where every A reply came, and else the first slot whose A reply is missing. -/
theorem State.breakPos_none (all : ∀ i : SlotNo, s.configured i = true → s.replyA i ≠ none) :
    (allSlots.filter s.configured).find? (fun i => (s.replyA i).isNone) = none := by
  refine List.find?_eq_none.mpr fun i mem missing => ?_
  exact all i ((s.mem_configured i).mp mem) (Option.isNone_iff_eq_none.mp missing)

theorem State.breakPos_first {i : SlotNo} (on : s.configured i = true) (missing : s.replyA i = none)
    (first : ∀ j : SlotNo, j < i → s.configured j = true → s.replyA j ≠ none) :
    (allSlots.filter s.configured).find? (fun i => (s.replyA i).isNone) = some i := by
  have sorted : (allSlots.filter s.configured).Pairwise (· < ·) := (List.pairwise_lt_finRange 50).filter _
  obtain ⟨before, behind, split⟩ := List.append_of_mem ((s.mem_configured i).mpr on)
  rw [split] at sorted
  refine List.find?_eq_some_iff_append.mpr ⟨Option.isNone_iff_eq_none.mpr missing, before, behind, split, fun j mem => ?_⟩
  have earlier : j < i := (List.pairwise_append.mp sorted).2.2 j mem i List.mem_cons_self
  have configured := (s.mem_configured j).mp (split ▸ List.mem_append_left _ mem)
  simpa using Option.isSome_iff_ne_none.mpr (first j earlier configured)

end

/-- Settles O27: the close judges the ring before its hand-overs, which leave the ring master as it stands. -/
theorem ringStateJudged : Obligations.RingStateJudged := by
  intro s order running
  obtain ⟨-, ring, breakPos⟩ := (s.closeHanding order).startCycle_kept (s.drm.cycleNo + 1)
  rw [State.closeHanding_drm] at ring breakPos
  have judged : (s.closeCycle order).drm.ring = s.judgedRing.1 ∧ (s.closeCycle order).drm.breakPos = s.judgedRing.2 :=
    ⟨ring, breakPos⟩
  obtain ⟨ring, breakPos⟩ := judged
  refine ⟨_, exec_cycleClose running order, fun both => ?_, fun one => ?_, fun none even => ?_, ?_⟩
  · rw [ring, breakPos, State.judgedRing_intact both]
    exact ⟨rfl, rfl⟩
  · rw [ring, breakPos, State.judgedRing_open one]
    refine ⟨rfl, fun all => ?_, fun i on missing first => ?_⟩
    · rw [State.breakPos_none all]; rfl
    · rw [State.breakPos_first on missing first]; rfl
  · rw [ring, breakPos, State.judgedRing_kept none fun i on oneSided => oneSided (even i on)]
    exact ⟨rfl, rfl⟩
  · obtain ⟨ts, told⟩ := s.closeCycle_tells order
    have change : (if (s.closeCycle order).drm.ring = s.drm.ring ∧ (s.closeCycle order).drm.breakPos = s.drm.breakPos then []
        else s.eventOf .ringState 0xFF (enc1 (s.closeCycle order).drm.ring.code ++ encOpt1 (s.closeCycle order).drm.breakPos))
        = s.ringChange := by
      rw [ring, breakPos, State.ringChange]
      simp only [Prod.ext_iff]
    rw [change]
    exact ⟨(s.drm.judgedTest s.heard).2 ++ ts, by rw [← List.append_assoc]; exact told⟩

end Sys2Proof.Machine

namespace Sys2Proof.Machine

/-! # The ring test (R102 to R110) -/

/-! ## Its words (R103) -/

theorem drawWords_gen (l : List TestSlot) (g : BitVec 15) : (drawWords g l).1 = genAfter l.length g := by
  induction l generalizing g with
  | nil => rfl
  | cons x l ih => exact ih (genWord g).1

/-- The slots record the words as the generator gives them, and no inversion is left pending. -/
theorem drawWords_slots (l : List TestSlot) (g : BitVec 15) : (drawWords g l).2.map Prod.fst
    = List.zipWith (fun x w => { x with word := some w, pending := false }) l (testWords l.length g) := by
  induction l generalizing g with
  | nil => rfl
  | cons x l ih => exact congrArg (_ :: ·) (ih (genWord g).1)

theorem sentWord_absent {l : List TestSlot} {i : SlotNo} (absent : ∀ x ∈ l, x.slot ≠ i) (g : BitVec 15) :
    sentWord (drawWords g l).2 i = 0 := by
  induction l generalizing g with
  | nil => rfl
  | cons x l ih =>
    have apart : ¬ x.slot = i := absent x List.mem_cons_self
    have rest := ih (fun y mem => absent y (List.mem_cons_of_mem x mem)) (genWord g).1
    simpa [drawWords, sentWord, List.find?_cons, apart] using rest

/-- The slot at a place is sent the word at that place, complemented where an inversion was pending. -/
theorem sentWord_at {l : List TestSlot} (distinct : (l.map TestSlot.slot).Nodup) (g : BitVec 15) {k : Nat} {x : TestSlot} {w : Word16}
    (slot : l[k]? = some x) (word : (testWords l.length g)[k]? = some w) :
    sentWord (drawWords g l).2 x.slot = if x.pending = true then ~~~w else w := by
  induction l generalizing g k with
  | nil => simp at slot
  | cons y l ih =>
    obtain ⟨fresh, distinct⟩ := List.nodup_cons.mp distinct
    cases k with
    | zero =>
      obtain rfl : y = x := by simpa using slot
      obtain rfl : (genWord g).2 = w := by simpa [testWords] using word
      simp [drawWords, sentWord]
    | succ k =>
      have mem : x ∈ l := List.mem_of_getElem? (by simpa using slot)
      have apart : ¬ y.slot = x.slot := fun e => fresh (e ▸ List.mem_map_of_mem mem)
      have rest := ih distinct (genWord g).1 (by simpa using slot) (by simpa [testWords] using word)
      simpa [drawWords, sentWord, List.find?_cons, apart] using rest

/-! ## Its slots -/

theorem TestSlot.judge_eq (x : TestSlot) (sel : SlotNo → Option Reply) : x.judge sel = x.scored (sel x.slot) := by
  unfold TestSlot.judge TestSlot.scored
  cases sel x.slot <;> simp

theorem TestSlot.insert_eq (x : TestSlot) : x.insert
    = if x.pending = false then { x with pending := true, inserted := x.inserted + 1 } else x := by
  unfold TestSlot.insert
  cases x.pending <;> rfl

/-! ## Its judgement at a cycle close (R104, R105) -/

/-- The slots as a test cycle close scores them. -/
def RingMaster.scored (m : RingMaster) (sel : SlotNo → Option Reply) : List TestSlot :=
  m.test.slots.map fun x => x.scored (sel x.slot)

section
variable {m : RingMaster} (sel : SlotNo → Option Reply)

theorem RingMaster.judgedTest_idle (h : m.judged = false ∨ m.test.status ≠ .run) : m.judgedTest sel = (m.test, []) := by
  refine if_neg fun ⟨judged, run⟩ => ?_
  rcases h with e | e
  · rw [e] at judged; exact absurd judged (by decide)
  · exact e run

variable (judged : m.judged = true) (run : m.test.status = .run)
include judged run

theorem RingMaster.judgedTest_ends (last : m.test.cyclesDone + 1 = 128) :
    let t := { m.test with status := .finished, cyclesDone := 128
                           slots := (m.scored sel).map fun x => { x.withdrawn with verdict := some (decide (x.errors ≤ 3)) } }
    m.judgedTest sel = (t, [ringTestReport t]) := by
  have slots : (m.test.slots.map fun x => x.judge sel) = m.scored sel := List.map_congr_left fun x _ => x.judge_eq sel
  refine (if_pos ⟨judged, run⟩).trans ((if_pos last).trans ?_)
  rw [slots]
  rfl

theorem RingMaster.judgedTest_goesOn (more : m.test.cyclesDone + 1 ≠ 128) :
    m.judgedTest sel = ({ m.test with slots := m.scored sel, cyclesDone := m.test.cyclesDone + 1 }, []) := by
  have slots : (m.test.slots.map fun x => x.judge sel) = m.scored sel := List.map_congr_left fun x _ => x.judge_eq sel
  refine (if_pos ⟨judged, run⟩).trans ((if_neg more).trans ?_)
  rw [slots]

end

/-! ## Its requests (R108 to R110) -/

section
variable {s : State} {src : Byte} {p : List Byte}

theorem exec_refuses {k : Kind} (taken : Taken s k src p) {c : Code} {f : Nat} {owner : State → State × Answer}
    (e : owner s.popRequest = refuse s.popRequest c f) :
    Host.Outcome.next (φ := Fault) (ρ := Refusal) (s.takeRequest k src p owner) = .next (s.popRequest.refused k.code src c f) :=
  congrArg _ (State.takeRequest_refused taken e)
theorem exec_accepts {k : Kind} (taken : Taken s k src p) {t : State} {owner : State → State × Answer}
    (e : owner s.popRequest = (t, .accepted [])) :
    Host.Outcome.next (φ := Fault) (ρ := Refusal) (s.takeRequest k src p owner) = .next (t.accepted k src []) :=
  congrArg _ (State.takeRequest_accepted taken e)

theorem doorAt_none (bad : 47 < u8 p 0) : doorAt p 0 = none := dif_neg (by omega)
theorem doorAt_some (good : u8 p 0 ≤ 47) : ∃ d : DoorNo, doorAt p 0 = some d ∧ d.val = u8 p 0 :=
  ⟨⟨u8 p 0, by omega⟩, dif_pos (by omega), rfl⟩

theorem slot_eq_slotOfDoor {d : DoorNo} {i : SlotNo} : i = slotOfDoor d ↔ i.val = d.val := Fin.ext_iff

/-- RING_TEST_INSERT names a slot of the test set, or none. -/
theorem State.ringTestInsert_run {d : DoorNo} (named : doorAt p 0 = some d) (run : s.drm.test.status = .run) :
    ((∀ x ∈ s.drm.test.slots, x.slot.val ≠ d.val) → s.ringTestInsert p = refuse s .range 1)
    ∧ ((∃ x ∈ s.drm.test.slots, x.slot.val = d.val) → s.ringTestInsert p = (s.setTest { s.drm.test with
        slots := s.drm.test.slots.map fun x =>
          if x.slot.val = d.val ∧ x.pending = false then { x with pending := true, inserted := x.inserted + 1 } else x }, .ok)) := by
  have any : (s.drm.test.slots.any fun x => x.slot == slotOfDoor d) = false ↔ ∀ x ∈ s.drm.test.slots, x.slot.val ≠ d.val := by
    simp [slot_eq_slotOfDoor]
  have marked : ∀ x : TestSlot, (if x.slot = slotOfDoor d then x.insert else x)
      = if x.slot.val = d.val ∧ x.pending = false then { x with pending := true, inserted := x.inserted + 1 } else x := by
    intro x
    rw [TestSlot.insert_eq, ite_and]
    simp only [slot_eq_slotOfDoor]
  unfold State.ringTestInsert
  rw [named]
  dsimp only
  rw [if_neg (not_not.mpr run)]
  refine ⟨fun absent => if_pos (any.mpr absent), fun ⟨x, mem, here⟩ => (if_neg fun off => any.mp off x mem here).trans ?_⟩
  simp only [marked]

end

/-! ## The test after a cycle close -/

section
variable (s : State) (order : List SlotNo)

/-- The next cycle takes the test as the close has judged it. -/
theorem State.closeCycle_test :
    let x := (s.drm.judgedTest s.heard).1
    let u := s.closeCycle order
    (x.status ≠ .run → u.drm.test = x ∧ u.drm.kind = .normal ∧ ∀ i : SlotNo, (u.drm.frame[i]).testWord = 0)
    ∧ (x.status = .run →
        u.drm.test = { x with
            gen := genAfter x.slots.length x.gen
            slots := List.zipWith (fun y w => { y with word := some w, pending := false }) x.slots (testWords x.slots.length x.gen) }
          ∧ u.drm.kind = .test ∧ u.drm.judged = true
          ∧ ∀ i : SlotNo, (u.drm.frame[i]).testWord = sentWord (drawWords x.gen x.slots).2 i) := by
  intro x u
  have test : (s.closeHanding order).drm.test = x := by rw [State.closeHanding_drm]; rfl
  obtain ⟨kind, judged, next, words⟩ := (s.closeHanding order).startCycle_test (s.drm.cycleNo + 1)
  rw [test] at kind judged next
  simp only [test] at words
  refine ⟨fun idle => ?_, fun run => ?_⟩
  · rw [if_neg idle] at kind next
    exact ⟨next, kind, fun i => (words i).trans (if_neg idle)⟩
  · rw [if_pos run] at kind next
    rw [drawWords_gen, drawWords_slots] at next
    exact ⟨next, kind, judged.trans (decide_eq_true run), fun i => (words i).trans (if_pos run)⟩

/-- A running test that does not end: the slots are scored where the cycle was judged, and the next words drawn (R103, R104). -/
theorem State.closeCycle_goesOn {slots : List TestSlot} {done : Nat} (run : s.drm.test.status = .run)
    (next : (s.drm.judgedTest s.heard).1 = { s.drm.test with slots := slots, cyclesDone := done }) :
    let u := s.closeCycle order
    let words := testWords slots.length s.drm.test.gen
    u.drm.test = { s.drm.test with
        cyclesDone := done, gen := genAfter slots.length s.drm.test.gen
        slots := List.zipWith (fun x w => { x with word := some w, pending := false }) slots words }
      ∧ u.drm.kind = .test ∧ u.drm.judged = true
      ∧ ((slots.map TestSlot.slot).Nodup → ∀ (k : Nat) (x : TestSlot) (w : Word16), slots[k]? = some x → words[k]? = some w →
          (u.drm.frame[x.slot]).testWord = if x.pending = true then ~~~w else w)
      ∧ ∀ i : SlotNo, (∀ x ∈ slots, x.slot ≠ i) → (u.drm.frame[i]).testWord = 0 := by
  intro u words
  obtain ⟨-, goesOn⟩ := s.closeCycle_test order
  rw [next] at goesOn
  obtain ⟨test, kind, judged, sent⟩ := goesOn run
  exact ⟨test, kind, judged, fun distinct k x w slot word => (sent x.slot).trans (sentWord_at distinct _ slot word),
    fun i absent => (sent i).trans (sentWord_absent absent _)⟩

end

/-- Settles O29: the owner of each request by its checks, and the close by what it judges and by the words it draws. -/
theorem ringTestRequests : Obligations.RingTestRequests := by
  intro s src p t
  refine ⟨fun taken => ⟨fun bad => ?_, fun test idle => ?_⟩, fun taken => ⟨fun idle => ?_, fun run => ?_⟩,
    fun taken => ⟨fun bad => ?_, fun good idle => ?_, fun good run absent => ?_, fun good run named => ?_⟩,
    fun order running => ?_⟩
  · exact exec_refuses taken (if_pos bad)
  · refine exec_accepts taken (if_neg ?_)
    rintro (top | run)
    · exact top test
    · exact idle run
  · exact exec_refuses taken (if_pos idle)
  · intro t'
    refine exec_accepts taken ((if_neg (not_not.mpr run)).trans ?_)
    have aborts : s.popRequest.abortTest = ({ s.popRequest with drm := { s.drm with test := t', judged := false } }).offer
        (ringTestReport t') := if_pos run
    rw [aborts]
    rfl
  · exact exec_refuses taken (by simp only [State.ringTestInsert, doorAt_none bad])
  · obtain ⟨d, named, -⟩ := doorAt_some good
    refine exec_refuses taken ?_
    simp only [State.ringTestInsert, named]
    exact if_pos idle
  · obtain ⟨d, named, val⟩ := doorAt_some good
    rw [← val] at absent
    exact exec_refuses taken ((State.ringTestInsert_run (s := s.popRequest) named run).1 absent)
  · obtain ⟨d, atDoor, val⟩ := doorAt_some good
    rw [← val] at named ⊢
    exact exec_accepts taken ((State.ringTestInsert_run (s := s.popRequest) atDoor run).2 named)
  · obtain ⟨ended, -⟩ := s.closeCycle_test order
    refine ⟨_, exec_cycleClose running order, fun idle => ?_, fun run => ?_⟩
    · rw [RingMaster.judgedTest_idle _ (.inr idle)] at ended
      obtain ⟨test, -, words⟩ := ended idle
      exact ⟨test, words⟩
    · intro slots done words
      refine ⟨fun judged last => ?_, fun more => ?_⟩
      · have scored : slots = s.drm.scored s.heard := if_pos judged
        have counted : s.drm.test.cyclesDone + 1 = 128 := (if_pos judged).symm.trans last
        have ends := RingMaster.judgedTest_ends s.heard judged run counted
        rw [ends] at ended
        obtain ⟨test, kind, zero⟩ := ended (by simp)
        obtain ⟨ts, told⟩ := s.closeCycle_tells order
        rw [scored]
        refine ⟨test, kind, zero, _, told, ?_⟩
        rw [test, State.closedTells, ends]
        simp
      · refine s.closeCycle_goesOn order run ?_
        cases judged : s.drm.judged with
        | false =>
          have asWas : slots = s.drm.test.slots := if_neg (by rw [judged]; decide)
          have notCounted : done = s.drm.test.cyclesDone := if_neg (by rw [judged]; decide)
          rw [RingMaster.judgedTest_idle _ (.inl judged), asWas, notCounted]
        | true =>
          have scored : slots = s.drm.scored s.heard := if_pos judged
          have counted : done = s.drm.test.cyclesDone + 1 := if_pos judged
          have notLast := more.resolve_left (by rw [judged]; decide)
          rw [scored, counted]
          rw [counted] at notLast
          rw [RingMaster.judgedTest_goesOn s.heard judged run notLast]

end Sys2Proof.Machine

namespace Sys2Proof.Machine

/-! # What the act of a panel keeps of a door (R188 to R192)

The act gives and takes reasons other than KEY, resets latches, clears faults and STUCK zones, and moves berths. -/

/-- A condition on door `d` that each of these keeps, and that a state alike at the door meets with it. -/
structure PanelKeeps (d : DoorNo) (P : State → Prop) : Prop where
  alike : ∀ {s t : State}, AlikeAt (· = d) s t → P s → P t
  putReason : ∀ {s : State} (v : Bool) {k : Reason}, k ≠ .key → P s → P (s.putReason d v k)
  latchReset : ∀ {s : State}, P s → P (s.latchReset d)
  faultClear : ∀ {s : State}, P s → P (s.faultClear d)
  stuckClear : ∀ {s : State}, P s → P (s.stuckClear d)

/-- An act on another door is alike at this one. -/
theorem Acted.elsewhere {c d : DoorNo} {s t : State} (h : Acted (· = c) s t) (ne : d ≠ c) : AlikeAt (· = d) s t :=
  h.apart.fewer fun _ here => here ▸ ne
/-- An act on no door is alike at each. -/
theorem Acted.nowhere {d : DoorNo} {s t : State} (h : Acted (fun _ => False) s t) : AlikeAt (· = d) s t :=
  h.apart.fewer fun _ _ => id

namespace PanelKeeps

section
variable {d : DoorNo} {P : State → Prop} (h : PanelKeeps d P) {s : State} (kept : P s)
include h kept

theorem putReasonAt (c : DoorNo) (v : Bool) {k : Reason} (other : k ≠ .key) : P (s.putReason c v k) := by
  by_cases e : d = c
  · exact e ▸ h.putReason v other kept
  · exact h.alike (((Tandem.start (.refl (· = c) s) fun _ here => here).putReason rfl v k).acted.elsewhere e) kept
theorem latchResetAt (c : DoorNo) : P (s.latchReset c) := by
  by_cases e : d = c
  · exact e ▸ h.latchReset kept
  · exact h.alike (((Tandem.start (.refl (· = c) s) fun _ here => here).latchReset rfl).acted.elsewhere e) kept
theorem faultClearAt (c : DoorNo) : P (s.faultClear c) := by
  by_cases e : d = c
  · exact e ▸ h.faultClear kept
  · exact h.alike (((Tandem.start (.refl (· = c) s) fun _ here => here).faultClear rfl).acted.elsewhere e) kept
theorem stuckClearAt (c : DoorNo) : P (s.stuckClear c) := by
  by_cases e : d = c
  · exact e ▸ h.stuckClear kept
  · exact h.alike (((Tandem.start (.refl (· = c) s) fun _ here => here).stuckClear rfl).acted.elsewhere e) kept

omit h in
theorem foldl {α : Type} {act : State → α → State} {l : List α} (each : ∀ {t : State} (x : α), x ∈ l → P t → P (act t x)) :
    P (l.foldl act s) := by
  induction l generalizing s with
  | nil => exact kept
  | cons x l ih => exact ih (each x List.mem_cons_self kept) fun y mem => each y (List.mem_cons_of_mem x mem)

/-- A berth goes through PROVING. -/
theorem proving {b : BerthId} (occupied : (s.berth b).state ≠ .vacant) (c : CloseCause) : P ((s.enterProving b c).finishProving b) :=
  have start := Tandem.start (C := fun _ => False) (Alike.same_whole s) fun _ => False.elim
  h.alike ((start.enterProving trivial occupied c).finishProving trivial b).acted.nowhere kept

theorem releaseBerth {b : BerthId} (occupied : (s.berth b).state ≠ .vacant) : P (s.releaseBerth b) := by
  have start := Tandem.start (C := fun _ => False) (Alike.same_whole s) fun _ => False.elim
  have released : P (s.toRelease b) := h.alike (start.toRelease trivial occupied).acted.nowhere kept
  have worked : P (s.releaseDoors b) := foldl released fun c _ k => h.putReasonAt k c true (by decide)
  have told := Tandem.start (C := fun _ => False) (Alike.same_whole (s.releaseDoors b)) fun _ => False.elim
  rw [State.releaseBerth_eq]
  exact h.alike ((told.reportBerthNow b).offerBerthStatus b).acted.nowhere worked

theorem panelClose (z : Zone) : P (s.panelClose z) := by
  unfold State.panelClose
  split
  · exact kept
  · dsimp only
    have opened : P (forDoors (s.panelDoors z) (fun d s => s.removeReasons d panelCloseReasons) s) :=
      foldl kept fun c _ k => foldl k fun x mem k => h.putReasonAt k c false fun e => by subst e; simp [panelCloseReasons] at mem
    have shut : P (s.shutDoors (s.panelDoors z) panelCloseReasons) := foldl opened fun c _ k => h.latchResetAt k c
    split
    · split
      next released => exact h.proving shut (by rw [released]; decide) .panel
      · exact shut
    · exact shut

theorem panelReset (z : Zone) : P (s.panelReset z) := by
  refine foldl kept fun c _ k => ?_
  unfold State.resetDoor
  dsimp only
  split
  · exact h.stuckClearAt (h.latchResetAt k c) c
  · exact h.stuckClearAt (h.faultClearAt k c) c
  · exact h.stuckClearAt k c

theorem panelOpen (z : Zone) : P (s.panelOpen z) := by
  unfold State.panelOpen
  split
  · refine foldl kept fun c _ k => ?_
    dsimp only
    split
    · exact h.putReasonAt k c true (by decide)
    · exact k
  · split
    · split
      next passes =>
        refine h.releaseBerth kept fun vacant => ?_
        rw [Berth.releasable, vacant] at passes
        simp at passes
      · exact kept
    · exact kept

/-- Whatever is pressed. -/
theorem panelReply (z : Zone) (y : Reply) : P (s.panelReply z y) := by
  cases fitted : s.panel z with
  | none => rw [State.panelReply_none fitted]; exact kept
  | some p =>
    rw [State.panelReply_fitted fitted]
    have taken : P (s.setPanel z (some (p.taken y))) := h.alike (.panelWritten _ s z _) kept
    have onlyIf : ∀ {t : State} {act : State → State} (c : Prop) [Decidable c], (∀ {u : State}, P u → P (act u)) → P t →
        P (if c then act t else t) := by
      intro t act c _ acts k
      split
      · exact acts k
      · exact k
    split
    · exact taken
    · exact onlyIf (act := fun s => s.panelOpen z) _ (fun k => h.panelOpen k z)
        (onlyIf (act := fun s => s.panelReset z) _ (fun k => h.panelReset k z)
          (onlyIf (act := fun s => s.panelClose z) _ (fun k => h.panelClose k z) taken))

end
end PanelKeeps

/-! # A door whose unit is lost (R97, R99, R130, R162, R186) -/

/-- The door is in service, its isolation key not known to be on, and its zones are those of `s`. -/
structure Serving (s : State) (d : DoorNo) (t : State) : Prop where
  entry : (t.pdt d).inService = true
  serves : (t.door d).state ≠ .outOfService
  key : (t.door d).isoKey ≠ some true
  zones : ∀ z, (t.zone d z).isSome = (s.zone d z).isSome

/-- The door's unit is lost: it stands in FAULT(COMM_LOST) with no KEY reason, its key UNSEEN and its zones forced OCCUPIED. -/
structure UnitLost (s : State) (d : DoorNo) (t : State) : Prop where
  fault : (t.door d).state = .fault
  cause : (t.door d).faultCause = some .commLost
  order : (t.door d).order = .stop
  reason : (t.door d).reasons.key = false
  key : t.key d = .unseen
  zones : ∀ z, (s.zone d z).isSome = true → ∃ r : ZoneRec, t.zone d z = some r ∧ r.state = .occupied ∧ r.forced = true

/-- From `t` to `u` zone records have been worked, and hand-overs made: doors, tables and keys stand. -/
structure ZonesWorked (t u : State) : Prop where
  ts : u.ts = t.ts
  doors : u.doors = t.doors
  ou : u.ou = t.ou

theorem ZonesWorked.refl (t : State) : ZonesWorked t t := ⟨rfl, rfl, rfl⟩
theorem ZonesWorked.trans {t u v : State} (h : ZonesWorked t u) (k : ZonesWorked u v) : ZonesWorked t v :=
  ⟨k.ts.trans h.ts, k.doors.trans h.doors, k.ou.trans h.ou⟩
theorem ZonesWorked.setZone_handGap (t : State) (d : DoorNo) (z : ZoneId) (x : Option ZoneRec) :
    ZonesWorked t ((t.setZone d z x).handGap d z) :=
  have handed := State.handGap_handed (t.setZone d z x) d z
  ⟨handed.ts, handed.doors, handed.ou⟩
theorem ZonesWorked.foldl {α : Type} {act : State → α → State} (each : ∀ t x, ZonesWorked t (act t x)) (l : List α) (t : State) :
    ZonesWorked t (l.foldl act t) := by
  induction l generalizing t with
  | nil => exact .refl t
  | cons x l ih => exact (each t x).trans (ih _)

/-! ## A stuck clear (R161) -/

/-- One zone of a stuck clear. -/
def State.clearZone (s : State) (d : DoorNo) (z : ZoneId) : State :=
  match s.zone d z, s.sensing d with
  | some r, some p =>
    if r.state = .stuck ∧ r.count ≤ p.kOff then (s.setZone d z (some { r with state := .clear, run := 0 })).handGap d z else s
  | _, _ => s

theorem State.stuckClear_eq (s : State) (d : DoorNo) : s.stuckClear d = allZoneIds.foldl (fun t z => t.clearZone d z) s := rfl

/-- It writes the zone's record, if any, and leaves one that is not STUCK. -/
theorem State.clearZone_cases (s : State) (d : DoorNo) (z : ZoneId) : s.clearZone d z = s
    ∨ ∃ r r' : ZoneRec, s.zone d z = some r ∧ r.state = .stuck ∧ s.clearZone d z = (s.setZone d z (some r')).handGap d z := by
  unfold State.clearZone
  split
  next r p zone _ =>
    split
    next stuck => exact .inr ⟨r, _, zone, stuck.1, rfl⟩
    next => exact .inl rfl
  next => exact .inl rfl

theorem State.stuckClear_worked (s : State) (d : DoorNo) : ZonesWorked s (s.stuckClear d) := by
  rw [State.stuckClear_eq]
  refine .foldl (fun t z => ?_) _ s
  rcases t.clearZone_cases d z with e | ⟨r, r', -, -, e⟩
  · rw [e]; exact .refl t
  · rw [e]; exact .setZone_handGap t d z _

/-- A fitted zone stays fitted, and one that is not STUCK stays as it is. -/
theorem State.stuckClear_zone (s : State) (d : DoorNo) (z : ZoneId) : ((s.stuckClear d).zone d z).isSome = (s.zone d z).isSome
    ∧ ∀ r, s.zone d z = some r → r.state ≠ .stuck → (s.stuckClear d).zone d z = some r := by
  rw [State.stuckClear_eq]
  generalize allZoneIds = l
  induction l generalizing s with
  | nil => exact ⟨rfl, fun r zone _ => zone⟩
  | cons y l ih =>
    obtain ⟨fitted, stays⟩ := ih (s.clearZone d y)
    have one : ((s.clearZone d y).zone d z).isSome = (s.zone d z).isSome
        ∧ ∀ r, s.zone d z = some r → r.state ≠ .stuck → (s.clearZone d y).zone d z = some r := by
      rcases s.clearZone_cases d y with e | ⟨q, q', zone, stuck, e⟩
      · rw [e]; exact ⟨rfl, fun r zone _ => zone⟩
      · rw [e, State.zone_congr (State.handGap_handed _ d y).zones]
        by_cases here : z = y
        · subst here
          rw [State.zone_setZone_same, zone]
          exact ⟨rfl, fun r same free => absurd (Option.some.inj same ▸ stuck) free⟩
        · rw [State.zone_setZone_ne _ _ _ here]
          exact ⟨rfl, fun r zone _ => zone⟩
    exact ⟨fitted.trans one.1, fun r zone free => stays r (one.2 r zone free) free⟩

/-! ## A forced-occupancy notice (R162) -/

/-- A zone's record once it is forced. -/
def ZoneRec.force (r : ZoneRec) : ZoneRec := { r with forced := true, state := .occupied, run := 0 }

/-- One zone of a forced-occupancy notice. -/
def State.forceZone (s : State) (d : DoorNo) (z : ZoneId) : State :=
  match s.zone d z with
  | some r =>
    if r.state = .occupied then s.setZone d z (some r.force) else (s.setZone d z (some r.force)).handGap d z
  | none => s

theorem State.forceZones_eq (s : State) (d : DoorNo) : s.forceZones d = allZoneIds.foldl (fun t z => t.forceZone d z) s := rfl

theorem State.forceZone_worked (s : State) (d : DoorNo) (z : ZoneId) : ZonesWorked s (s.forceZone d z)
    ∧ (s.forceZone d z).zones = (s.setZone d z ((s.zone d z).map ZoneRec.force)).zones := by
  unfold State.forceZone
  split
  next r zone =>
    rw [zone]
    split
    · exact ⟨⟨rfl, rfl, rfl⟩, rfl⟩
    · exact ⟨.setZone_handGap s d z _, (State.handGap_handed _ d z).zones⟩
  next none =>
    have same : (s.zone d z).map ZoneRec.force = s.zone d z := by rw [none]; rfl
    rw [same, State.setZone_self]
    exact ⟨.refl s, rfl⟩

theorem State.forceZones_worked (s : State) (d : DoorNo) : ZonesWorked s (s.forceZones d) := by
  rw [State.forceZones_eq]
  exact .foldl (fun t z => (t.forceZone_worked d z).1) _ s

theorem State.forceZones_zone (s : State) (d : DoorNo) (z : ZoneId) :
    (s.forceZones d).zone d z = (s.zone d z).map ZoneRec.force := by
  rw [State.forceZones_eq, foldl_each (fun (t : State) z => t.zone d z) (fun _ => ()) (fun t z => t.forceZone d z)
    (fun _ r => r.map ZoneRec.force) (by decide) (fun _ _ => rfl) (fun t _ y _ => ?_) (fun t y x ne => ?_) z,
    if_pos (mem_allZoneIds z)]
  · rw [State.zone_congr (t.forceZone_worked d y).2, State.zone_setZone_same]
  · rw [State.zone_congr (t.forceZone_worked d y).2, State.zone_setZone_ne _ _ _ ne]

/-! ## A door that serves, and one whose unit is lost -/

section
variable {s : State} {d : DoorNo} {t u : State}

/-- The door's record is written by an event, and hand-overs follow. -/
theorem Serving.written {r : Door} (k : Serving s d t) (h : Handed (t.setDoor d r) u) (serves : r.state ≠ .outOfService)
    (key : r.isoKey = (t.door d).isoKey) : Serving s d u where
  entry := by rw [State.pdt_congr h.ts]; exact k.entry
  serves := by rw [h.door, State.door_setDoor_same]; exact serves
  key := by rw [h.door, State.door_setDoor_same, key]; exact k.key
  zones z := by rw [State.zone_congr h.zones]; exact k.zones z

theorem Serving.panelKeeps (s : State) (d : DoorNo) : PanelKeeps d (Serving s d) where
  alike h k := ⟨by rw [h.pdt]; exact k.entry, by rw [h.door d rfl]; exact k.serves, by rw [h.door d rfl]; exact k.key,
    fun z => by rw [h.zone rfl]; exact k.zones z⟩
  putReason {t} v x _ k := k.written (t.putReason_handed d v x) (fun out => k.serves ((Door.withReasons_out ..).mp out))
    (congrArg Prod.snd (Door.withReasons_seen ..))
  latchReset {t} k := by
    refine k.written (t.latchReset_handed d) ?_ ?_
    all_goals unfold Door.latchReset
    · split
      · exact k.serves
      · split <;> simp [Door.enterClosing, Door.enterOpening]
    · split
      · rfl
      · split <;> rfl
  faultClear {t} k := by
    have readopts : ∀ u : UnitStatus, Serving s d (t.readoptEvent d u false false) := by
      intro u
      obtain ⟨worked, zones⟩ := State.readoption_worked k.entry u false
      have door := State.readoption_door (u := u) (recovered := false) k.entry
      have adopted := (t.door d).adopt_readopted (t.limits d) u (heldOnReturn_order false)
      obtain ⟨-, serves, -⟩ := adopted.serves
      have ⟨_, isoKey, _⟩ := adopted
      have back : Serving s d (t.readoption d u false false) :=
        ⟨by rw [State.pdt_congr worked.ts]; exact k.entry, by rw [door]; exact serves,
          by rw [door, isoKey]; decide, fun z => by rw [State.zone_congr zones]; exact k.zones z⟩
      rcases t.readoptEvent_cases d u false false with e | e
      · rw [e]; exact back
      · rw [e]
        exact back.written (State.putReason_handed _ d true .fire) (fun out => back.serves ((Door.withReasons_out ..).mp out))
          (congrArg Prod.snd (Door.withReasons_seen ..))
    have off : ((t.door d).isoKey == some true) = false := beq_eq_false_iff_ne.mpr k.key
    unfold State.faultClear
    dsimp only
    rw [off]
    split
    · split
      · exact readopts _
      · exact k
    · exact k
  stuckClear {t} k := by
    have worked := t.stuckClear_worked d
    exact ⟨by rw [State.pdt_congr worked.ts]; exact k.entry, by rw [State.door_congr worked.doors]; exact k.serves,
      by rw [State.door_congr worked.doors]; exact k.key, fun z => (t.stuckClear_zone d z).1.trans (k.zones z)⟩

/-- FAULT keeps its state whatever its reasons become (R130). -/
theorem Door.withReasons_fault {r : Door} (fault : r.state = .fault) (m : MotionLimits) (n : Reasons) :
    r.withReasons m n = { r with reasons := n } := by
  unfold Door.withReasons Door.reasonsArise Door.reasonsCease
  rw [if_neg (by rw [fault]; decide)]
  simp only [fault, ite_self]

/-- What stands of a lost unit's door: its record but for reasons other than KEY, its key, and its zones that are OCCUPIED. -/
theorem UnitLost.kept {n : Reasons} (k : UnitLost s d t) (door : u.door d = { t.door d with reasons := n })
    (reason : n.key = (t.door d).reasons.key) (key : u.key d = t.key d)
    (zones : ∀ z r, t.zone d z = some r → r.state = .occupied → u.zone d z = some r) : UnitLost s d u where
  fault := by rw [door]; exact k.fault
  cause := by rw [door]; exact k.cause
  order := by rw [door]; exact k.order
  reason := by rw [door]; exact reason.trans k.reason
  key := key.trans k.key
  zones z fitted := by
    obtain ⟨r, zone, occupied, forced⟩ := k.zones z fitted
    exact ⟨r, zones z r zone occupied, occupied, forced⟩

theorem UnitLost.panelKeeps (s : State) (d : DoorNo) : PanelKeeps d (UnitLost s d) where
  alike h k := k.kept (h.door d rfl) rfl (h.key d rfl) fun z r zone _ => by rw [h.zone rfl]; exact zone
  putReason {t} v x other k := by
    have handed := t.putReason_handed d v x
    have reason : ((t.door d).reasons.put v x).key = (t.door d).reasons.key := by
      cases x with
      | key => exact absurd rfl other
      | release | fire | evac | maint => rfl
    exact k.kept ((t.putReason_door d v x).trans (Door.withReasons_fault k.fault ..)) reason (State.key_congr handed.ou d)
      fun z r zone _ => by rw [State.zone_congr handed.zones]; exact zone
  latchReset {t} k := by
    have handed := t.latchReset_handed d
    exact k.kept ((t.latchReset_door d).trans (Door.latchReset_keeps _ (by rw [k.fault]; decide))) rfl (State.key_congr handed.ou d)
      fun z r zone _ => by rw [State.zone_congr handed.zones]; exact zone
  faultClear {t} k := by
    have stays : t.faultClear d = t := by
      unfold State.faultClear
      dsimp only
      split
      · exact if_neg fun h => h.2 k.cause
      · rfl
    rw [stays]; exact k
  stuckClear {t} k := by
    have worked := t.stuckClear_worked d
    exact k.kept (State.door_congr worked.doors d) rfl (State.key_congr worked.ou d)
      fun z r zone occupied => (t.stuckClear_zone d z).2 r zone (by rw [occupied]; decide)

/-- The comm-lost notice puts a door into FAULT(COMM_LOST), its last known status substituted (R99, R115, R130). -/
theorem State.commLostNotice_handed (serves : (t.door d).state ≠ .outOfService) :
    Handed (t.setDoor d (({ t.door d with lastStatus := some substitutedStatus }).enterFault .commLost)) (t.commLostNotice d) := by
  have event := t.doorEvent_handed d fun s =>
    let s := s.setDoor d { s.door d with lastStatus := some substitutedStatus }
    if (s.door d).state = .outOfService then s else s.faultDoor d .commLost
  dsimp only at event
  rw [State.door_setDoor_same, if_neg serves] at event
  unfold State.faultDoor at event
  rw [if_pos rfl, State.door_setDoor_same, State.setDoor_setDoor] at event
  exact event

/-- A door in FAULT loses its KEY reason, and its key becomes UNSEEN (R186). -/
theorem State.loseKey_fault (fault : (t.door d).state = .fault) :
    (t.loseKey d).door d = { t.door d with reasons := (t.door d).reasons.put false .key } ∧ (t.loseKey d).key d = .unseen
      ∧ (t.loseKey d).zones = t.zones := by
  have handed := t.putReason_handed d false .key
  have door := t.putReason_door d false .key
  rw [Door.withReasons_fault fault] at door
  exact ⟨door, State.key_setKey_same .., handed.zones⟩

/-- The loss of its unit puts a serving door into FAULT(COMM_LOST) (R99, R130, R162, R186). -/
theorem Serving.handLoss (k : Serving s d t) : UnitLost s d (t.handLoss d) := by
  have raised := t.raise_handed .commLost d.val []
  have noticed := State.commLostNotice_handed (t := t.raise .commLost d.val []) (d := d) (by rw [raised.door]; exact k.serves)
  have zones : ((t.raise .commLost d.val []).commLostNotice d).zones = t.zones :=
    (noticed.zones.trans (State.setDoor_zones ..)).trans raised.zones
  have door := noticed.door d
  rw [State.door_setDoor_same, raised.door] at door
  have forced := ((t.raise .commLost d.val []).commLostNotice d).forceZones_worked d
  have forcedZone := ((t.raise .commLost d.val []).commLostNotice d).forceZones_zone d
  unfold State.handLoss
  generalize (t.raise .commLost d.val []).commLostNotice d = v at zones door forced forcedZone
  rw [← State.door_congr forced.doors] at door
  obtain ⟨last, key, zoned⟩ := State.loseKey_fault (t := v.forceZones d) (d := d) (by rw [door]; rfl)
  rw [door] at last
  refine ⟨by rw [last]; rfl, by rw [last]; rfl, by rw [last]; rfl, by rw [last]; rfl, key, fun z fitted => ?_⟩
  obtain ⟨r, zone⟩ := Option.isSome_iff_exists.mp ((k.zones z).trans fitted)
  refine ⟨r.force, ?_, rfl, rfl⟩
  rw [State.zone_congr zoned, forcedZone, State.zone_congr zones, zone]
  rfl

end

/-! # A cycle close, as one door sees it -/

/-- What is kept of a door by its alike states, and by the acts of panels, every other slot's hand-over keeps. -/
theorem PanelKeeps.hands {d : DoorNo} {P : State → Prop} (h : PanelKeeps d P) {s t : State} (kept : P t) {i : SlotNo}
    (other : i ≠ slotOfDoor d) : P (s.hands t i) := by
  rcases slot_cases i with ⟨c, rfl⟩ | ⟨z, rfl⟩
  · exact h.alike ((s.hands_acted t c).elsewhere fun e => other (e ▸ rfl)) kept
  · cases hands : s.takeConfigured.handing (slotOfPanel z) with
    | none => rw [State.hands_none t hands]; exact kept
    | some x =>
      have raised : ∀ e : EventKind, P (t.raise e (slotOfPanel z).val []) := fun e =>
        h.alike (by rw [State.raise_eq_tell]; exact (Acted.tell _ t _).nowhere) kept
      rw [State.hands_panel t hands]
      cases x with
      | nothing => exact kept
      | reply y => exact h.panelReply kept z y
      | loss => exact h.alike (.panelWritten _ _ z _) (raised _)
      | recovery y => exact h.panelReply (raised _) z y

/-- A door's slot has its turn: what panels keep before it becomes what panels keep behind it. -/
theorem State.closeHanding_turn (s : State) (order : List SlotNo) {d : DoorNo} {P Q : State → Prop} (before : PanelKeeps d P)
    (after : PanelKeeps d Q) (start : P s.closeSelections) (own : ∀ t, P t → Q (s.hands t (slotOfDoor d))) :
    Q (s.closeHanding order) := by
  rw [State.closeHanding_eq]
  exact foldl_turn s.hands (fun _ _ => True) P Q (slotOfDoor d) (fun _ _ _ _ _ => trivial) (fun _ _ ne _ k => before.hands k ne)
    (fun t _ k => own t k) (fun _ _ ne _ k => after.hands k ne) (slotOrder_nodup order) (mem_slotOrder order _) (fun _ _ => trivial)
    start

/-- A door in service whose isolation key is not known to be on serves when the hand-overs begin. -/
theorem State.closeSelections_serving {s : State} {d : DoorNo} (entry : (s.pdt d).inService = true)
    (serves : (s.door d).state ≠ .outOfService) (key : (s.door d).isoKey ≠ some true) : Serving s d s.closeSelections := by
  have door := (s.closeSelections_door d).trans (s.ringCounted_door d).1
  refine ⟨?_, by rw [door]; exact serves, by rw [door]; exact key, fun z => ?_⟩
  · rw [State.pdt_congr (State.ts_of_ground s.closeSelections_ground)]; exact entry
  · rw [s.closeSelections_alike.zone trivial, State.ringCounted_zone]

/-- The event of a loss is among what the close tells (R99, R206). -/
theorem State.closeCycle_tellsLoss {s : State} {d : DoorNo} (loses : s.takeConfigured.handing (slotOfDoor d) = some .loss)
    (order : List SlotNo) : ∃ ts : List Telegram, Tells s (s.closeCycle order) ts ∧ s.eventOf .commLost d.val [] ⊆ ts := by
  have own : ∀ t : State, t.er.mask = s.er.mask → (∃ ts : List Telegram, Tells s t ts) →
      ∃ ts : List Telegram, Tells s (s.hands t (slotOfDoor d)) ts ∧ s.eventOf .commLost d.val [] ⊆ ts := by
    rintro t mask ⟨ts, told⟩
    have raised : Tells t (t.raise .commLost d.val []) (s.eventOf .commLost d.val []) := by
      rw [State.raise_eq_tell, State.eventOf_congr mask]; exact t.tells_tell _
    have start := Tandem.start (C := (· = d)) (.refl (· = d) (t.raise .commLost d.val [])) fun _ here => here
    obtain ⟨us, rest⟩ := (((start.commLostNotice rfl).forceZones rfl).loseKey rfl).acted.told
    rw [State.hands_door t loses]
    refine ⟨_, tells_append (tells_append told raised) rest, fun x mem => ?_⟩
    exact List.mem_append_left _ (List.mem_append_right _ mem)
  have mask : s.closeSelections.er.mask = s.er.mask := s.closeSelections_mask
  have turn : ∃ ts : List Telegram, Tells s (s.closeHanding order) ts ∧ s.eventOf .commLost d.val [] ⊆ ts := by
    rw [State.closeHanding_eq]
    refine foldl_turn s.hands (fun _ _ => True) (fun t => t.er.mask = s.er.mask ∧ ∃ ts : List Telegram, Tells s t ts)
      (fun t => ∃ ts : List Telegram, Tells s t ts ∧ s.eventOf .commLost d.val [] ⊆ ts) (slotOfDoor d) (fun _ _ _ _ _ => trivial)
      (fun t i _ _ k => ?_) (fun t _ k => own t k.1 k.2) (fun t i _ _ k => ?_) (slotOrder_nodup order) (mem_slotOrder order _)
      (fun _ _ => trivial) ⟨mask, _, s.closeSelections_tells⟩
    · obtain ⟨mask, ts, told⟩ := k
      obtain ⟨us, more⟩ := (HandKept.hands s t i).told
      exact ⟨(HandKept.hands s t i).mask.trans mask, _, tells_append told more⟩
    · obtain ⟨ts, told, mem⟩ := k
      obtain ⟨us, more⟩ := (HandKept.hands s t i).told
      exact ⟨_, tells_append told more, fun x here => List.mem_append_left _ (mem here)⟩
  obtain ⟨ts, told, mem⟩ := turn
  exact ⟨ts, State.startCycle_tells _ _ told, mem⟩

/-- Settles O28: the slot's turn takes the door from serving to lost, and no other slot's turn undoes either. -/
theorem commLossFaultsDoor : Obligations.CommLossFaultsDoor := by
  intro s order d running entry c notLost late a b serves isoKey
  have on : s.configured (slotOfDoor d) = true := by rw [State.configured_door, entry]
  have silent : s.heard (slotOfDoor d) = none := by rw [State.heard, a, b]; rfl
  have joined : s.commOf (slotOfDoor d) = c := rfl
  have moved : (c.move s.settings.holdCycles none).state = .lost := by
    unfold CommRec.move
    cases state : c.state with
    | lost => exact absurd state notLost
    | live => simp only [state, if_true] at late; simp [late]
    | noReply | holding => simp only [state, reduceCtorEq, if_false] at late; simp [late]
  have loses : s.takeConfigured.handing (slotOfDoor d) = some .loss := by
    rw [State.handing_configured on, silent, joined, moved]
    cases state : c.state with
    | lost => exact absurd state notLost
    | noReply | live | holding => rfl
  have lost : UnitLost s d (s.closeHanding order) :=
    s.closeHanding_turn order (Serving.panelKeeps s d) (UnitLost.panelKeeps s d)
      (State.closeSelections_serving entry serves isoKey) fun t k => by rw [State.hands_door t loses]; exact k.handLoss
  have door : (s.closeCycle order).door d = (s.closeHanding order).door d := State.startCycle_door ..
  have key : (s.closeCycle order).key d = (s.closeHanding order).key d := State.startCycle_key ..
  have zone : ∀ z, (s.closeCycle order).zone d z = (s.closeHanding order).zone d z := State.startCycle_zone _ _ d
  obtain ⟨-, counters⟩ := s.closeCycle_counters order d
  refine ⟨_, exec_cycleClose running order, ?_, by rw [door]; exact lost.fault, by rw [door]; exact lost.cause,
    by rw [door]; exact lost.order, by rw [door]; exact lost.reason, key.trans lost.key, ?_, fun z r fitted => ?_,
    State.closeCycle_tellsLoss loses order⟩
  · rw [State.closeCycle_comm, if_pos on, silent]
    exact congrArg some moved
  · rw [counters, (s.ringCounted_door d).2.2, if_pos ⟨entry, a, b⟩]
  · rw [zone]
    exact lost.zones z (by rw [fitted]; rfl)

end Sys2Proof.Machine

namespace Sys2Proof.Machine

/-! # The panels at a cycle close (R95, R99, R100, R188) -/

theorem State.panel_setPanel_ne (s : State) {y z : Zone} (p : Option Panel) (h : y ≠ z) : (s.setPanel z p).panel y = s.panel y := by
  cases y <;> cases z
  · exact absurd rfl h
  · rfl
  · rfl
  · exact absurd rfl h

theorem State.closeSelections_panel (s : State) (z : Zone) : s.closeSelections.panel z = s.panel z := by
  have ou : s.ringCounted.ou = s.ou := by unfold State.ringCounted; rfl
  rw [s.closeSelections_alike.panel trivial, State.panel_congr ou]

theorem handingOf_reply {a b : CommState} {x : Option Reply} {y : Reply}
    (h : handingOf a b x = .reply y ∨ handingOf a b x = .recovery y) : x = some y := by
  unfold handingOf at h
  split at h
  all_goals simp at h
  all_goals rw [h]

section
variable {s : State}

/-- A reply handed on is the slot's selected reply. -/
theorem State.handing_heard {i : SlotNo} {y : Reply}
    (h : s.takeConfigured.handing i = some (.reply y) ∨ s.takeConfigured.handing i = some (.recovery y)) : s.heard i = some y := by
  cases on : s.configured i with
  | false => rw [State.handing_unconfigured on] at h; simp at h
  | true =>
    rw [State.handing_configured on, Option.some.injEq, Option.some.injEq] at h
    exact handingOf_reply h

/-- A reply with no press that acts only becomes the panel's record (R188). -/
theorem State.panelReply_quiet {t : State} {z : Zone} {p : Panel} {y : Reply} (fitted : t.panel z = some p)
    (quiet : p.seen = false ∨ y.panelKey = false ∨ ((y.openButton = true → p.openPressed = true)
      ∧ (y.closeButton = true → p.closePressed = true) ∧ (y.resetButton = true → p.resetPressed = true))) :
    t.panelReply z y = t.setPanel z (some (p.taken y)) := by
  have idle : ∀ {now before : Bool}, y.panelKey = false ∨ (now = true → before = true) →
      pressActs y.panelKey now before = false := by
    intro now before h
    unfold pressActs
    rcases h with off | held
    · rw [off]; rfl
    · cases now with
      | false => simp
      | true => simp [held rfl]
  rw [State.panelReply_fitted fitted]
  split
  · rfl
  next seen =>
    have off := quiet.resolve_left seen
    unfold State.panelActs
    rw [idle (off.imp_right fun h => h.2.1), idle (off.imp_right fun h => h.2.2), idle (off.imp_right fun h => h.1)]
    rfl

/-- A slot writes no panel's record but its own. -/
theorem State.hands_panel_other (t : State) {i : SlotNo} {z : Zone} (other : i ≠ slotOfPanel z) :
    (s.hands t i).panel z = t.panel z := by
  rcases slot_cases i with ⟨d, rfl⟩ | ⟨x, rfl⟩
  · rw [(s.hands_acted t d).panel]
  · have apart : z ≠ x := fun e => other (e ▸ rfl)
    have reply : ∀ (u : State) (y : Reply), (u.panelReply x y).panel z = u.panel z := by
      intro u y
      cases fitted : u.panel x with
      | none => rw [State.panelReply_none fitted]
      | some p => rw [(State.panelReply_acted fitted y).panel, State.panel_setPanel_ne _ _ apart]
    have raised : ∀ e : EventKind, (t.raise e (slotOfPanel x).val []).panel z = t.panel z :=
      fun e => State.panel_congr (t.raise_ou ..) z
    cases hands : s.takeConfigured.handing (slotOfPanel x) with
    | none => rw [State.hands_none t hands]
    | some h =>
      rw [State.hands_panel t hands]
      cases h with
      | nothing => rfl
      | reply y => exact reply t y
      | loss => exact (State.panel_setPanel_ne _ _ apart).trans (raised _)
      | recovery y => exact (reply _ y).trans (raised _)

/-- A panel's record after the hand-overs is the one its own slot leaves. -/
theorem State.closeHanding_panel (order : List SlotNo) {z : Zone} {q : Option Panel}
    (own : ∀ t : State, t.panel z = s.panel z → (s.hands t (slotOfPanel z)).panel z = q) : (s.closeHanding order).panel z = q := by
  rw [State.closeHanding_eq]
  exact foldl_turn s.hands (fun _ _ => True) (fun t => t.panel z = s.panel z) (fun t => t.panel z = q) (slotOfPanel z)
    (fun _ _ _ _ _ => trivial) (fun t _ ne _ k => (s.hands_panel_other t ne).trans k) (fun t _ k => own t k)
    (fun t _ ne _ k => (s.hands_panel_other t ne).trans k) (slotOrder_nodup order) (mem_slotOrder order _) (fun _ _ => trivial)
    (s.closeSelections_panel z)

/-! # The doors at a cycle close (R92, R95, R98, R100) -/

/-- A slot's panel, if it is one, stands as it did, and no press of it acts. -/
def QuietSlot (s t : State) (i : SlotNo) : Prop := ∀ z : Zone, i = slotOfPanel z → t.panel z = s.panel z ∧ QuietPanel s z

theorem QuietSlot.stays {t : State} {i j : SlotNo} (h : QuietSlot s t j) (ne : j ≠ i) : QuietSlot s (s.hands t i) j := by
  intro z e
  obtain ⟨stands, quiet⟩ := h z e
  exact ⟨(s.hands_panel_other t (e ▸ ne.symm)).trans stands, quiet⟩

/-- Another slot's hand-over is alike at the door, where no press acts. -/
theorem QuietSlot.hands {t : State} {i : SlotNo} (h : QuietSlot s t i) {d : DoorNo} (other : i ≠ slotOfDoor d) :
    AlikeAt (· = d) t (s.hands t i) := by
  rcases slot_cases i with ⟨c, rfl⟩ | ⟨z, rfl⟩
  · exact (s.hands_acted t c).elsewhere fun e => other (e ▸ rfl)
  · obtain ⟨stands, quiet⟩ := h z rfl
    have raised : ∀ e : EventKind, AlikeAt (· = d) t (t.raise e (slotOfPanel z).val []) := fun e => by
      rw [State.raise_eq_tell]; exact (Acted.tell _ t _).nowhere
    have reply : ∀ (u : State) (y : Reply), u.panel z = s.panel z → s.heard (slotOfPanel z) = some y →
        AlikeAt (· = d) u (u.panelReply z y) := by
      intro u y same heard
      cases fitted : s.panel z with
      | none => rw [State.panelReply_none (same.trans fitted)]; exact .refl _ u
      | some p => rw [State.panelReply_quiet (same.trans fitted) (quiet p y fitted heard)]; exact .panelWritten _ u z _
    cases hands : s.takeConfigured.handing (slotOfPanel z) with
    | none => rw [State.hands_none t hands]; exact .refl _ t
    | some x =>
      rw [State.hands_panel t hands]
      cases x with
      | nothing => exact .refl _ t
      | reply y => exact reply t y stands (State.handing_heard (.inl hands))
      | loss => exact (raised _).trans (.panelWritten _ _ z _)
      | recovery y =>
        exact (raised _).trans (reply _ y ((State.panel_congr (t.raise_ou ..) z).trans stands) (State.handing_heard (.inr hands)))

/-- Each door's slot has its turn, from a state alike at the door, and nothing else touches the door. -/
theorem doors_turn {l : List SlotNo} (distinct : l.Nodup) (doors : ∀ d, slotOfDoor d ∈ l) {u v : State}
    (alike : Alike True (fun _ => True) u v) (quiet : ∀ i ∈ l, QuietSlot s v i) (d : DoorNo) :
    AlikeAt (· = d) (s.hands u (slotOfDoor d)) (l.foldl s.hands v) :=
  foldl_turn s.hands (QuietSlot s) (AlikeAt (· = d) u) (AlikeAt (· = d) (s.hands u (slotOfDoor d))) (slotOfDoor d)
    (fun _ _ _ ne k => k.stays ne) (fun _ _ ne fresh k => k.trans (fresh.hands ne)) (fun _ _ k => k.handed s rfl)
    (fun _ _ ne fresh k => k.trans (fresh.hands ne)) distinct (doors d) quiet (alike.fewer fun _ _ => trivial)

/-- What a door's slot leaves is what R92, R95, R98 and R100 say it hands on. -/
theorem doorsHanded_of_turn {u t : State} (turn : ∀ d, AlikeAt (· = d) (s.hands u (slotOfDoor d)) t) : DoorsHanded s u t := by
  intro d left
  have leaves : left (s.hands u (slotOfDoor d)) := ⟨(turn d).door d rfl, (turn d).zonesOf d rfl, (turn d).key d rfl⟩
  refine ⟨fun entry y hands => ⟨fun live => ?_, fun lost => ?_⟩, fun nothing => ?_, fun out y heard => ?_⟩
  · rw [State.hands_door u (hands.handing (by rw [State.configured_door, entry])), if_neg live] at leaves
    exact leaves
  · rw [State.hands_door u (hands.handing (by rw [State.configured_door, entry])), if_pos lost] at leaves
    exact leaves
  · rw [nothing.hands u] at leaves
    exact leaves
  · rw [State.hands_keyAlone u out, heard] at leaves
    exact leaves

/-- The reply of a fitted panel acts alike behind the counters alone. -/
theorem HandsReply.panel {z : Zone} {y : Reply} (h : HandsReply s (slotOfPanel z) y) (on : s.settings.panelsFitted.fits z = true)
    {u v : State} (alike : Alike True (fun _ => True) u v) :
    Alike True (fun _ => True) (u.panelReply z y) (s.hands v (slotOfPanel z)) := by
  rw [State.hands_panel v (h.handing (by rw [State.configured_panel, on]))]
  split
  · have raised : Alike True (fun _ => True) u (v.raise .commRecovered (slotOfPanel z).val []) := by
      rw [State.raise_eq_tell]; exact alike.same rfl rfl
    exact raised.panelReply trivial z y
  · exact alike.panelReply trivial z y

end

/-! # The frame of the next cycle (R89, R193) -/

/-- Three flags in a byte. -/
theorem mapByte_three (a b c : Bool) : (mapByte [a, b, c] 0).getLsbD 0 = a ∧ (mapByte [a, b, c] 0).getLsbD 1 = b
    ∧ (mapByte [a, b, c] 0).getLsbD 2 = c ∧ ∀ k : Nat, 3 ≤ k → (mapByte [a, b, c] 0).getLsbD k = false := by
  have low : ∀ k : Fin 8, 3 ≤ k.val → (mapByte [a, b, c] 0).getLsbD k.val = false := by revert a b c; decide
  refine ⟨by revert a b c; decide, by revert a b c; decide, by revert a b c; decide, fun k three => ?_⟩
  by_cases inByte : k < 8
  · exact low ⟨k, inByte⟩ three
  · exact BitVec.getLsbD_of_ge _ _ (not_lt.mp inByte)

theorem State.hasStuck_iff (s : State) (d : DoorNo) : s.hasStuck d = true ↔ ∃ g : ZoneId, s.zoneState d g = .stuck := by
  unfold State.hasStuck State.zoneState
  rw [List.any_eq_true]
  constructor
  · rintro ⟨g, -, stuck⟩
    exact ⟨g, by rw [eq_of_beq stuck]; rfl⟩
  · rintro ⟨g, stuck⟩
    refine ⟨g, mem_allZoneIds g, ?_⟩
    cases zone : s.zone d g with
    | none => rw [zone] at stuck; exact absurd stuck (by decide)
    | some r => rw [zone] at stuck; exact beq_iff_eq.mpr (congrArg some stuck)

theorem State.alarmLamp_iff (s : State) (z : Zone) : s.alarmLamp z = true ↔ ∃ d : DoorNo, (s.pdt d).zone = z
    ∧ ((s.door d).state = .held ∨ (s.door d).state = .fault ∨ (s.door d).state = .releasedManual
        ∨ ∃ g : ZoneId, s.zoneState d g = .stuck) := by
  simp [State.alarmLamp, State.zoneDoors, State.zoneOf, allDoors, ← State.hasStuck_iff, or_assoc]

section
variable (s : State) (n : BitVec 8)

theorem State.orderByte_withDrm (m : RingMaster) (i : SlotNo) : (s.withDrm m).orderByte i = s.orderByte i := rfl

/-- The frame carries the order bytes from the state standing then (R89). -/
theorem State.startCycle_order (i : SlotNo) : ((s.startCycle n).drm.frame[i]).order = (s.startCycle n).orderByte i := by
  obtain ⟨m, e⟩ : ∃ m, s.startCycle n = ((s.setLamps .front).setLamps .rear).withDrm m := ⟨_, rfl⟩
  have frame : ((s.startCycle n).drm.frame[i]).order = ((s.setLamps .front).setLamps .rear).orderByte i := by
    unfold State.startCycle
    simp only [Fin.getElem_fin, Vector.getElem_ofFn]
  rw [frame, e, State.orderByte_withDrm]

theorem State.orderByte_door (d : DoorNo) : s.orderByte (slotOfDoor d)
    = if (s.pdt d).inService then BitVec.ofNat 8 (s.door d).order.code else 0 := by
  unfold State.orderByte
  rw [doorOfSlot_slotOfDoor]
theorem State.orderByte_panel (z : Zone) : s.orderByte (slotOfPanel z)
    = ((s.panel z).map fun p => mapByte [p.lampProven, p.lampDoorsOpen, p.lampAlarm] 0).getD 0 := by
  unfold State.orderByte
  rw [doorOfSlot_slotOfPanel, panelOfSlot_slotOfPanel]
  dsimp only
  cases s.panel z <;> rfl

/-- The start of a cycle is alike to the hand-overs. -/
theorem State.startCycle_alike : AlikeAt (fun _ => True) s (s.startCycle n) := by
  refine ⟨?_, ?_, fun b => ?_, fun b => ?_, fun d _ => s.startCycle_door n d, fun d _ => s.startCycle_zonesOf n d,
    fun d _ => s.startCycle_key n d, fun _ _ b => ?_, False.elim, False.elim, False.elim, False.elim⟩
  all_goals rw [State.startCycle_frame]
  all_goals cases b <;> rfl
theorem State.startCycle_loop (z : Zone) : (s.startCycle n).loop z = s.loop z := by rw [State.startCycle_frame]; cases z <;> rfl

/-- The lamps go out as the state standing then sets them (R193). -/
theorem State.startCycle_lamps {z : Zone} (fitted : s.panel z ≠ none) : ((s.startCycle n).drm.frame[slotOfPanel z]).order
    = mapByte [(s.startCycle n).loop z, (s.startCycle n).doorsOpenLamp z, (s.startCycle n).alarmLamp z] 0 := by
  obtain ⟨p, panel⟩ := Option.ne_none_iff_exists'.mp fitted
  have alike := s.startCycle_alike n
  have door : (s.startCycle n).door = s.door := funext fun d => alike.door d trivial
  have zone : (s.startCycle n).zone = s.zone := funext fun d => funext (alike.zone trivial)
  have inService : (s.startCycle n).inService = s.inService := funext fun d => alike.inService trivial
  have doorsOpen : (s.startCycle n).doorsOpenLamp z = s.doorsOpenLamp z := by
    unfold State.doorsOpenLamp; rw [alike.zoneDoors, door, inService]
  have alarm : (s.startCycle n).alarmLamp z = s.alarmLamp z := by
    unfold State.alarmLamp State.hasStuck; rw [alike.zoneDoors, door, zone]
  rw [State.startCycle_order, State.orderByte_panel, State.startCycle_panel, panel, State.startCycle_loop, doorsOpen, alarm]
  rfl

end

/-- The frame kind tells whether a ring test runs, its first words drawn or not. -/
theorem State.startCycle_kind_iff (s : State) (n : BitVec 8) :
    (s.startCycle n).drm.kind = .test ↔ (s.startCycle n).drm.test.status = .run := by
  obtain ⟨kind, -, test, -⟩ := s.startCycle_test n
  rw [kind, test]
  by_cases run : s.drm.test.status = .run
  · simp [run]
  · simp [run]

/-- A panel's record once its slot is LOST (R188). -/
def Panel.lost (p : Panel) : Panel :=
  { p with seen := false, key := false, openPressed := false, closePressed := false, resetPressed := false }

/-! # The clauses of a cycle close -/

section
variable {s : State} (order : List SlotNo)

theorem State.closeHanding_fitted (s : State) (z : Zone) : ((s.closeHanding order).panel z).isSome = (s.panel z).isSome := by
  rw [(s.closeHanding_kept order).fitted, State.closeSelections_panel]

theorem State.closeHanding_ts (s : State) : (s.closeHanding order).ts = s.ts := State.ts_of_ground (s.closeHanding_ground order)
theorem State.closeCycle_ts (s : State) : (s.closeCycle order).ts = s.ts := State.ts_of_ground (s.closeCycle_ground order)

theorem State.closeCycle_order (s : State) (i : SlotNo) :
    ((s.closeCycle order).drm.frame[i]).order = (s.closeCycle order).orderByte i := State.startCycle_order ..

theorem State.closeCycle_doorOrder (s : State) (d : DoorNo) : ((s.closeCycle order).drm.frame[slotOfDoor d]).order
    = if (s.pdt d).inService then BitVec.ofNat 8 ((s.closeCycle order).door d).order.code else 0 := by
  rw [State.closeCycle_order, State.orderByte_door, State.pdt_congr (s.closeCycle_ts order)]

/-- The record of a panel, its lamps set. -/
theorem State.closeCycle_panel (s : State) (z : Zone) :
    (s.closeCycle order).panel z = ((s.closeHanding order).panel z).map ((s.closeHanding order).lit z) := State.startCycle_panel ..

theorem State.closeCycle_noPanel {z : Zone} (none : s.panel z = none) :
    ((s.closeCycle order).drm.frame[slotOfPanel z]).order = 0 := by
  have fitted := s.closeHanding_fitted order z
  rw [none, Option.isSome_none, Option.isSome_eq_false_iff, Option.isNone_iff_eq_none] at fitted
  rw [State.closeCycle_order, State.orderByte_panel, State.closeCycle_panel, fitted]
  rfl

theorem State.closeCycle_lamps {z : Zone} (fitted : s.panel z ≠ none) : ((s.closeCycle order).drm.frame[slotOfPanel z]).order
    = mapByte [(s.closeCycle order).loop z, (s.closeCycle order).doorsOpenLamp z, (s.closeCycle order).alarmLamp z] 0 := by
  refine State.startCycle_lamps _ _ fun none => fitted ?_
  have same := s.closeHanding_fitted order z
  rw [none, Option.isSome_none] at same
  exact Option.isNone_iff_eq_none.mp (Option.isSome_eq_false_iff.mp same.symm)

theorem State.closeCycle_alike (s : State) (d : DoorNo) : AlikeAt (· = d) (s.closeHanding order) (s.closeCycle order) :=
  (State.startCycle_alike _ _).fewer fun _ _ => trivial

/-- Where no press acts, each door is as its slot leaves it. -/
theorem State.closeCycle_doors (quiet : ∀ z : Zone, QuietPanel s z) : DoorsHanded s s.ringCounted (s.closeCycle order) := by
  refine doorsHanded_of_turn fun d => ?_
  have turn := doors_turn (slotOrder_nodup order) (fun d => mem_slotOrder order (slotOfDoor d)) s.closeSelections_alike
    (fun i _ z _ => ⟨s.closeSelections_panel z, quiet z⟩) d
  exact turn.trans (s.closeCycle_alike order d)

section
variable {z : Zone} {y : Reply} (on : s.settings.panelsFitted.fits z = true) (hands : HandsReply s (slotOfPanel z) y)
include on hands

/-- Where a panel is handed first, its act comes before the doors' slots. -/
theorem State.closeCycle_panelFirst (first : order.head? = some (slotOfPanel z))
    (quiet : ∀ z' : Zone, z' ≠ z → QuietPanel s z') :
    DoorsHanded s (s.ringCounted.panelReply z y) (s.closeCycle order) := by
  obtain ⟨rest, split⟩ := slotOrder_head first
  have distinct := slotOrder_nodup order
  rw [split] at distinct
  obtain ⟨once, distinct⟩ := List.nodup_cons.mp distinct
  refine doorsHanded_of_turn fun d => ?_
  have closes : s.closeHanding order = rest.foldl s.hands (s.hands s.closeSelections (slotOfPanel z)) := by
    rw [State.closeHanding_eq, split, List.foldl_cons]
  have turn := doors_turn (s := s) distinct (fun d => (List.mem_cons.mp (split ▸ mem_slotOrder order (slotOfDoor d))).resolve_left
      (slotOfDoor_ne_slotOfPanel d z)) (hands.panel on s.closeSelections_alike) (fun i mem x e => ?_) d
  · rw [← closes] at turn
    exact turn.trans (s.closeCycle_alike order d)
  · have other : x ≠ z := fun same => once (same ▸ e ▸ mem)
    have stands := s.hands_panel_other s.closeSelections (z := x) fun same => other (slotOfPanel_injective same.symm)
    exact ⟨stands.trans (s.closeSelections_panel x), quiet x other⟩

/-- Where the other slots hand nothing, the part is as the panel's act leaves it. -/
theorem State.closeCycle_panelAlone (others : ∀ i : SlotNo, i ≠ slotOfPanel z → HandsNothing s i) :
    Alike True (fun _ => True) (s.ringCounted.panelReply z y) (s.closeHanding order) := by
  rw [State.closeHanding_eq]
  exact foldl_turn s.hands (fun _ _ => True) (Alike True (fun _ => True) s.ringCounted)
    (Alike True (fun _ => True) (s.ringCounted.panelReply z y)) (slotOfPanel z) (fun _ _ _ _ _ => trivial)
    (fun t i ne _ k => by rw [(others i ne).hands t]; exact k) (fun t _ k => hands.panel on k)
    (fun t i ne _ k => by rw [(others i ne).hands t]; exact k) (slotOrder_nodup order) (mem_slotOrder order _) (fun _ _ => trivial)
    s.closeSelections_alike

/-- The panel's record is the reply taken as it. -/
theorem State.closeHanding_takes {p : Panel} (fitted : s.panel z = some p) :
    (s.closeHanding order).panel z = some (p.taken y) := by
  refine s.closeHanding_panel order fun t stands => ?_
  have takes : ∀ u : State, u.panel z = t.panel z → (u.panelReply z y).panel z = some (p.taken y) := by
    intro u same
    rw [(State.panelReply_acted (same.trans (stands.trans fitted)) y).panel, State.panel_setPanel_same]
  rw [State.hands_panel t (hands.handing (by rw [State.configured_panel, on]))]
  split
  · exact takes _ (State.panel_congr (t.raise_ou ..) z)
  · exact takes t rfl

end

/-- Two states alike as a whole have the same doors, zones, keys, berths and loops. -/
theorem Alike.records {u v : State} (h : Alike True (fun _ => True) u v) : v.doors = u.doors ∧ v.zones = u.zones
    ∧ v.ou.keys = u.ou.keys ∧ v.berthA = u.berthA ∧ v.berthB = u.berthB ∧ ∀ x : Zone, v.loop x = u.loop x :=
  ⟨Vector.ext fun i here => h.door ⟨i, here⟩ trivial, Vector.ext fun i here => h.zonesOf ⟨i, here⟩ trivial,
    Vector.ext fun i here => h.key ⟨i, here⟩ trivial, congrFun (h.berth trivial) .A, congrFun (h.berth trivial) .B,
    congrFun (h.loop trivial)⟩

end

theorem State.startCycle_records (s : State) (n : BitVec 8) : (s.startCycle n).doors = s.doors ∧ (s.startCycle n).zones = s.zones
    ∧ (s.startCycle n).ou.keys = s.ou.keys ∧ (s.startCycle n).berthA = s.berthA ∧ (s.startCycle n).berthB = s.berthB := by
  rw [State.startCycle_frame]
  exact ⟨rfl, rfl, rfl, rfl, rfl⟩

/-- Settles O26: the counters and the selections first, then each slot's turn, then the next cycle. -/
theorem cycleCloseMovesComm : Obligations.CycleCloseMovesComm := by
  intro s order running
  have ground := s.closeCycle_ground order
  obtain ⟨cycleNo, period, copyA, copyB⟩ := (s.closeHanding order).startCycle_begins (s.drm.cycleNo + 1)
  refine ⟨_, exec_cycleClose running order, (congrArg Ground.phase ground).trans running, s.closeCycle_ts order,
    congrArg Ground.firePin ground, cycleNo, copyA, copyB, ?_, State.startCycle_kind_iff _ _, fun d entry => ?_, fun d out => ?_,
    fun z none => State.closeCycle_noPanel order none, fun z fitted => ?_, fun d => ?_, State.closeCycle_doors order,
    fun z y on fitted hands => ?_, fun z n on panel silent notLost => ?_, fun i off => ?_, fun i on => ?_⟩
  · exact period.trans (by rw [State.settings_congr (s.closeHanding_ts order)])
  · rw [State.closeCycle_doorOrder, if_pos entry]
  · rw [State.closeCycle_doorOrder, out]; rfl
  · intro lamps
    have sent : lamps = _ := State.closeCycle_lamps order fitted
    obtain ⟨proven, doorsOpen, alarm, rest⟩ := mapByte_three ((s.closeCycle order).loop z) ((s.closeCycle order).doorsOpenLamp z)
      ((s.closeCycle order).alarmLamp z)
    rw [← sent] at proven doorsOpen alarm rest
    refine ⟨proven, ?_, ?_, rest⟩
    · rw [doorsOpen, State.doorsOpenLamp_iff]
      simp only [State.pdt_congr (s.closeCycle_ts order)]
    · rw [alarm, State.alarmLamp_iff]
      simp only [State.pdt_congr (s.closeCycle_ts order)]
  · obtain ⟨disagree, commMisses⟩ := s.closeCycle_counters order d
    obtain ⟨-, disagreed, missed⟩ := s.ringCounted_door d
    exact ⟨disagree.trans disagreed, commMisses.trans missed⟩
  · obtain ⟨p, panel⟩ := Option.ne_none_iff_exists'.mp fitted
    refine ⟨⟨(s.closeHanding order).lit z (p.taken y), ?_, rfl, rfl, rfl, rfl, rfl⟩,
      State.closeCycle_panelFirst order on hands, fun others => ?_⟩
    · rw [State.closeCycle_panel, State.closeHanding_takes order on hands panel]
      rfl
    · obtain ⟨doors, zones, keys, A, B, loops⟩ := (State.closeCycle_panelAlone order on hands others).records
      obtain ⟨doors', zones', keys', A', B'⟩ := (s.closeHanding order).startCycle_records (s.drm.cycleNo + 1)
      exact ⟨doors'.trans doors, zones'.trans zones, keys'.trans keys, A'.trans A, B'.trans B,
        fun x => (State.startCycle_loop _ _ x).trans (loops x)⟩
  · have configured : s.configured (slotOfPanel z) = true := by rw [State.configured_panel, on]
    refine ⟨fun nothing => ?_, fun hands => ?_⟩
    · have kept : (s.closeHanding order).panel z = some n :=
        s.closeHanding_panel order fun t stands => by rw [nothing.hands t, stands, panel]
      refine ⟨(s.closeHanding order).lit z n, ?_, rfl, rfl, rfl, rfl, rfl⟩
      rw [State.closeCycle_panel, kept]
      rfl
    · have lost : (s.closeHanding order).panel z = some n.lost := by
        refine s.closeHanding_panel order fun t stands => ?_
        have record : (t.raise .commLost (slotOfPanel z).val []).panel z = some n :=
          (State.panel_congr (t.raise_ou ..) z).trans (stands.trans panel)
        rw [State.hands_panel t (State.handing_loss configured silent notLost hands)]
        unfold State.handPanelSlot State.losePanel
        rw [record, State.panel_setPanel_same]
        rfl
      refine ⟨(s.closeHanding order).lit z n.lost, ?_, rfl, rfl, rfl, rfl, rfl⟩
      rw [State.closeCycle_panel, lost]
      rfl
  · rw [State.closeCycle_comm, if_neg (by rw [off]; decide)]
  · rw [State.closeCycle_comm, if_pos on]
    intro c m
    have joined : s.commOf i = c := rfl
    have heard : s.heard i = (s.replyA i).or (s.replyB i) := rfl
    rw [joined, heard]
    unfold CommRec.move
    cases state : c.state with
    | lost =>
      cases (s.replyA i).or (s.replyB i) with
      | none => rfl
      | some y => dsimp only; split <;> rfl
    | noReply | live | holding => cases (s.replyA i).or (s.replyB i) <;> rfl

end Sys2Proof.Machine

namespace Sys2Proof.Machine

/-! # A door's record is that of its state (R112, R114, R119, R120)

Each entry into a state leaves a record that is good; which reason set it needs is said of each. -/

section
variable (r : Door) (m : MotionLimits)

theorem Door.enterFault_good (c : FaultCause) : (r.enterFault c).good := by
  simp [Door.good, Door.enterFault, Door.still]
theorem Door.enterManual_good : r.enterManual.good := by
  simp [Door.good, Door.enterManual, Door.still]
theorem Door.enterHeld_good (c : HeldCause) : (r.enterHeld c).good := by
  simp [Door.good, Door.enterHeld, Door.still]
theorem Door.enterOut_good : r.enterOut.good := by
  simp [Door.good, Door.enterOut, Door.still]
theorem Door.enterUnknown_good : r.enterUnknown.good := by
  simp [Door.good, Door.enterUnknown, Door.still]

variable {r}

theorem Door.enterOpening_good (some : r.reasons ≠ .empty) : (r.enterOpening m).good := by
  simp [Door.good, Door.enterOpening, Door.still, some]
theorem Door.enterOpened_good (some : r.reasons ≠ .empty) : r.enterOpened.good := by
  simp [Door.good, Door.enterOpened, Door.still, some]
theorem Door.enterClosing_good (none : r.reasons = .empty) : (r.enterClosing m).good := by
  simp [Door.good, Door.enterClosing, Door.still, none]
theorem Door.enterReopening_good (none : r.reasons = .empty) : (r.enterReopening m).good := by
  simp [Door.good, Door.enterReopening, Door.still, none]
theorem Door.enterClosed_good (none : r.reasons = .empty) : r.enterClosed.good := by
  simp [Door.good, Door.enterClosed, Door.still, none]

variable (r)

theorem Door.closedThenReasons_good : (r.closedThenReasons m).good := by
  by_cases none : r.reasons = .empty
  · rw [Door.closedThenReasons_idle m none]; exact Door.enterClosed_good none
  · rw [Door.closedThenReasons_opens m none]; exact Door.enterOpening_good m none

theorem Door.adopt_good (u : UnitStatus) (c : HeldCause) : (r.adopt m u c).good := by
  unfold Door.adopt
  split
  · exact Door.enterFault_good _ _
  · split
    · exact Door.enterManual_good _
    · split
      · exact Door.closedThenReasons_good _ m
      · exact Door.enterHeld_good _ _

end

theorem Door.withReasons_returning (r : Door) (m : MotionLimits) (n : Reasons) : (r.withReasons m n).returning = r.returning := by
  unfold Door.withReasons Door.reasonsArise Door.reasonsCease
  split
  · rfl
  · split
    · dsimp only; split <;> rfl
    · split
      · dsimp only; split <;> rfl
      · rfl

theorem Door.closedThenReasons_returning (r : Door) (m : MotionLimits) : (r.closedThenReasons m).returning = r.returning := by
  unfold Door.closedThenReasons
  split <;> rfl
theorem Door.adopt_returning (r : Door) (m : MotionLimits) (u : UnitStatus) (c : HeldCause) : (r.adopt m u c).returning = false := by
  unfold Door.adopt
  split
  · rfl
  · split
    · rfl
    · split
      · exact Door.closedThenReasons_returning _ m
      · rfl

namespace Door.good
variable {r : Door} (h : r.good)
include h

/-- A good record that moves to and fro has no reason, and one that opens or stands open has some. -/
theorem idle (state : r.state = .closed ∨ r.state = .closing ∨ r.state = .reopening) : r.reasons = .empty := by
  obtain ⟨-, -, -, -, -, none, -⟩ := h
  rcases state with e | e | e <;> exact none (by simp [e])
theorem opens (state : r.state = .opening ∨ r.state = .opened) : r.reasons ≠ .empty := by
  obtain ⟨-, -, -, -, -, -, some, -⟩ := h
  exact some state

/-- A timer that is not stopped tells the state. -/
theorem motion (runs : r.motion ≠ .stopped) : r.state = .opening ∨ r.state = .closing ∨ r.state = .reopening := by
  obtain ⟨-, -, motion, -⟩ := h
  exact motion runs
theorem lockProof (runs : r.lockProof ≠ .stopped) : r.state = .closing := by
  obtain ⟨-, -, -, lockProof, -⟩ := h
  exact lockProof runs
theorem reclose (runs : r.reclose ≠ .stopped) : r.state = .reopening := by
  obtain ⟨-, -, -, -, reclose, -⟩ := h
  exact reclose runs

/-- Another reason set, where the state does not tell whether it is empty, or tells that it is as this one. -/
theorem withSet {n : Reasons}
    (none : r.state = .closed ∨ r.state = .closing ∨ r.state = .reopening ∨ r.state = .outOfService → n = .empty)
    (some : r.state = .opening ∨ r.state = .opened → n ≠ .empty) : ({ r with reasons := n } : Door).good := by
  obtain ⟨held, fault, motion, lockProof, reclose, -, -, rest⟩ := h
  exact ⟨held, fault, motion, lockProof, reclose, none, some, rest⟩

theorem withReasons (m : MotionLimits) (n : Reasons) : (r.withReasons m n).good := by
  by_cases out : r.state = .outOfService
  · rw [show r.withReasons m n = r from if_pos out]; exact h
  by_cases arise : r.reasons = .empty ∧ n ≠ .empty
  · obtain ⟨none, some⟩ := arise
    have act : r.withReasons m n = ({ r with reasons := n } : Door).reasonsArise m := (if_neg out).trans (if_pos ⟨none, some⟩)
    rw [act]
    unfold Door.reasonsArise
    dsimp only
    split
    · exact Door.enterOpening_good m some
    · exact Door.enterOpening_good m some
    · exact Door.enterOpening_good m some
    · exact Door.enterOpening_good m some
    next closed closing reopening held => exact h.withSet (by tauto) fun _ => some
  by_cases cease : r.reasons ≠ .empty ∧ n = .empty
  · obtain ⟨some, none⟩ := cease
    have act : r.withReasons m n = ({ r with reasons := n } : Door).reasonsCease m :=
      (if_neg out).trans ((if_neg arise).trans (if_pos ⟨some, none⟩))
    rw [act]
    unfold Door.reasonsCease
    dsimp only
    split
    · exact Door.enterClosing_good m none
    · exact Door.enterClosing_good m none
    next opening opened => exact h.withSet (fun _ => none) (by tauto)
  · have same : r.reasons = .empty ↔ n = .empty := by tauto
    rw [Door.withReasons_stays m same out]
    have ⟨_, _, _, _, _, without, within, _⟩ := h
    exact h.withSet (fun state => same.mp (without state)) fun state empty => within state (same.mpr empty)

theorem latchReset (m : MotionLimits) : (r.latchReset m).good := by
  unfold Door.latchReset
  split
  · exact h
  · split
    next none => exact Door.enterClosing_good m none
    next some => exact Door.enterOpening_good m some

end Door.good

/-! ## Service (R113, R118, R134, R135) -/

/-- A door's record, where the part is `on` or does not run yet, and its PDT entry is in service or not: in service only with the entry,
its isolation key on only out of service, and returning only until it re-adopts. -/
structure Door.Serves (on entry : Prop) (r : Door) : Prop where
  entry : on → r.state ≠ .outOfService → entry
  key : r.isoKey = some true → on ∧ r.state = .outOfService
  returning : r.returning = true → r.state = .unknown ∨ (r.state = .fault ∧ r.faultCause = some .commLost)

/-- A good record, with its service as it should be under `p`. -/
structure Door.Sound (p on entry : Prop) (r : Door) : Prop where
  good : r.good
  serves : p → r.Serves on entry

namespace Door.Sound

section
variable {p on entry : Prop} {r r' : Door}

/-- A record written over one that neither waits for a re-adoption nor is out of service. -/
theorem moved (k : r.Sound p on entry) (works : r.state.seesFaultCode = true) (good : r'.good) (key : r'.isoKey = r.isoKey)
    (returning : r'.returning = r.returning) : r'.Sound p on entry := by
  have known : r.state ≠ .unknown ∧ r.state ≠ .outOfService ∧ r.state ≠ .fault := by
    refine ⟨?_, ?_, ?_⟩ <;> intro e <;> rw [e] at works <;> exact absurd works (by decide)
  obtain ⟨noUnknown, inService, noFault⟩ := known
  refine ⟨good, fun given => ?_⟩
  have was := k.serves given
  refine ⟨fun runs _ => was.entry runs inService, fun isolated => ?_, fun returns => ?_⟩
  · exact absurd (was.key (key ▸ isolated)).2 inService
  · rcases was.returning (returning ▸ returns) with e | ⟨e, -⟩
    · exact absurd e noUnknown
    · exact absurd e noFault

/-- A record whose state and fault cause stay, and its isolation key too. -/
theorem stays (k : r.Sound p on entry) (good : r'.good) (state : r'.state = r.state) (cause : r'.faultCause = r.faultCause)
    (key : r'.isoKey = r.isoKey) (returning : r'.returning = r.returning) : r'.Sound p on entry :=
  ⟨good, fun given => ⟨by rw [state]; exact (k.serves given).entry, by rw [state, key]; exact (k.serves given).key,
    by rw [state, cause, returning]; exact (k.serves given).returning⟩⟩

/-- A record out of service. -/
theorem out (key : p → r.isoKey = some true → on) : r.enterOut.Sound p on entry :=
  ⟨r.enterOut_good, fun given => ⟨fun _ serves => absurd rfl serves, fun isolated => ⟨key given isolated, rfl⟩,
    fun returns => by simp [Door.enterOut] at returns⟩⟩

/-- A record whose key is off and whose entry is in service, re-adopted (R117). -/
theorem adopted (h : entry) (good : r.good) (key : r.isoKey = some false) (taken : r.returning = false) : r.Sound p on entry :=
  ⟨good, fun _ => ⟨fun _ _ => h, fun isolated => by simp [key] at isolated, fun returns => by simp [taken] at returns⟩⟩

theorem withReasons (k : r.Sound p on entry) (m : MotionLimits) (n : Reasons) : (r.withReasons m n).Sound p on entry := by
  have good := k.good.withReasons m n
  have key := congrArg Prod.snd (r.withReasons_seen m n)
  cases state : r.state with
  | unknown =>
    rw [Door.withReasons_idle (.inl state)] at good ⊢
    exact k.stays good rfl rfl rfl rfl
  | outOfService => rw [show r.withReasons m n = r from if_pos state]; exact k
  | fault =>
    rw [Door.withReasons_fault state] at good ⊢
    exact k.stays good rfl rfl rfl rfl
  | closed | opening | opened | closing | reopening | held | releasedManual =>
    exact k.moved (by rw [state]; rfl) good key (r.withReasons_returning m n)

theorem latchReset (k : r.Sound p on entry) (m : MotionLimits) : (r.latchReset m).Sound p on entry := by
  have good := k.good.latchReset m
  unfold Door.latchReset at good ⊢
  split
  next => exact k
  next held =>
    rw [if_neg held] at good
    have works : r.state.seesFaultCode = true := by rw [not_not.mp held]; rfl
    split at good
    next none => rw [if_pos none]; exact k.moved works good rfl rfl
    next some => rw [if_neg some]; exact k.moved works good rfl rfl

end
end Door.Sound

end Sys2Proof.Machine

namespace Sys2Proof.Machine

/-! # What the working part keeps of a door's record (O57)

The record of one door is looked at. What does not touch it, nor the door's PDT entry, keeps it sound; what writes it is said once for
each act, in the order of the model's definitions. `on` says that the part runs. -/

/-- The record of door `d` is sound. -/
def DoorSound (p on : Prop) (d : DoorNo) (s : State) : Prop := (s.door d).Sound p on ((s.pdt d).inService = true)

namespace DoorSound

section
variable {p on : Prop} {d : DoorNo} {s t : State} (k : DoorSound p on d s)
include k

/-! ## Writing the record, and what leaves it as it was -/

theorem congr (door : t.door d = s.door d) (pdt : t.pdt d = s.pdt d) : DoorSound p on d t := by
  unfold DoorSound; rw [door, pdt]; exact k
theorem handed (h : Handed s t) : DoorSound p on d t := k.congr (h.door d) (State.pdt_congr h.ts d)

theorem setDoor {r : Door} (sound : (s.door d).Sound p on ((s.pdt d).inService = true) → r.Sound p on ((s.pdt d).inService = true)) :
    DoorSound p on d (s.setDoor d r) := by
  unfold DoorSound
  rw [State.door_setDoor_same]
  exact sound k
theorem raise (e : EventKind) (n : Nat) (items : List Byte) : DoorSound p on d (s.raise e n items) := k.handed (s.raise_handed e n items)
theorem setBerth (b : BerthId) (r : Berth) : DoorSound p on d (s.setBerth b r) :=
  k.congr (s.setBerth_door b r d) (State.pdt_congr (s.setBerth_ts b r) d)

omit k in
/-- One event on a record: its hand-over leaves it as the act does (R116). -/
theorem doorEvent {c : DoorNo} {f : State → State} (acted : DoorSound p on d (f s)) : DoorSound p on d (s.doorEvent c f) :=
  acted.handed (s.doorEvent_handed c f)

/-- An event on another door's record. -/
theorem elsewhere {c : DoorNo} (ne : d ≠ c) {f : State → State} (act : Reworked c s (f s)) : DoorSound p on d (s.doorEvent c f) :=
  doorEvent (k.congr (act.others d ne) (State.pdt_congr (by rw [act.frame]) d))

theorem foldl {α : Type} {act : State → α → State} {l : List α}
    (each : ∀ {u : State} (x : α), DoorSound p on d u → DoorSound p on d (act u x)) :
    DoorSound p on d (l.foldl act s) := by
  induction l generalizing s with
  | nil => exact k
  | cons x l ih => exact ih (each x k)

/-- An act done only under a condition. -/
theorem onlyIf {act : State → State} {c : Prop} [Decidable c]
    (acts : ∀ {u : State}, DoorSound p on d u → DoorSound p on d (act u)) :
    DoorSound p on d (if c then act s else s) := by
  split
  · exact acts k
  · exact k

/-! ## Reasons, latch, faults and triggers (R119, R120, R125, R129, R130) -/

theorem putReason (v : Bool) (x : Reason) : DoorSound p on d (s.putReason d v x) :=
  (k.setDoor fun sound => sound.withReasons _ _).handed (s.putReason_handed d v x)
theorem latchReset : DoorSound p on d (s.latchReset d) := (k.setDoor fun sound => sound.latchReset _).handed (s.latchReset_handed d)

/-- A fault of a door at work. -/
theorem faultDoor (works : (s.door d).state.seesFaultCode = true) {c : FaultCause} (notLost : c ≠ .commLost) :
    DoorSound p on d (s.faultDoor d c) := by
  rw [State.faultDoor_eq_tell s d notLost]
  exact k.setDoor fun sound => sound.moved works (Door.enterFault_good _ _) rfl rfl

theorem reopenOrHold : DoorSound p on d (s.reopenOrHold d) := by
  unfold State.reopenOrHold
  dsimp only
  split
  · exact k
  next closing =>
    have state := not_not.mp closing
    have works : (s.door d).state.seesFaultCode = true := by rw [state]; rfl
    split
    · exact k.setDoor fun sound => sound.moved works (Door.enterReopening_good _ (sound.good.idle (.inr (.inl state)))) rfl rfl
    · exact (k.setDoor fun sound => sound.moved works (Door.enterHeld_good _ _) rfl rfl).raise _ _ _
theorem reopenTrigger : DoorSound p on d (s.reopenTrigger d) := doorEvent k.reopenOrHold

/-! ## Re-adoption (R117, R131, R182) -/

omit k in
theorem readopt (u : UnitStatus) {iso : Bool} (recovered : Bool) (key : p → iso = true → on) :
    DoorSound p on d (s.readopt d u iso recovered) := by
  by_cases out : iso = true ∨ (s.pdt d).inService = false
  · have left : ((s.readopt d u iso recovered).door d) = ((s.door d).retaken u iso).enterOut := by
      rw [State.readopt_isolated s d u iso recovered out]
      split
      · exact State.door_setDoor_same ..
      · rw [State.leaveService_door, State.door_setDoor_same]
    unfold DoorSound
    rw [left]
    exact .out fun given isolated => key given (Option.some.inj isolated)
  · obtain ⟨off, entry⟩ := not_or.mp out
    obtain rfl : iso = false := by simpa using off
    have serves : (s.pdt d).inService = true := by simpa using entry
    obtain ⟨ts, e⟩ := State.readopt_adopts s d u recovered serves
    obtain ⟨-, isoKey, -⟩ := (s.door d).adopt_readopted (s.limits d) u (heldOnReturn_order recovered)
    rw [e]
    unfold DoorSound
    rw [State.tell_door, State.door_setDoor_same]
    exact .adopted serves (Door.adopt_good _ _ _ _) isoKey (Door.adopt_returning _ _ _ _)

omit k in
theorem readoptEvent (u : UnitStatus) {iso : Bool} (recovered : Bool) (key : p → iso = true → on) :
    DoorSound p on d (s.readoptEvent d u iso recovered) := by
  have event : DoorSound p on d (s.readoption d u iso recovered) := doorEvent (readopt u recovered key)
  rcases s.readoptEvent_cases d u iso recovered with e | e <;> rw [e]
  · exact event
  · exact event.putReason true .fire

theorem faultClear : DoorSound p on d (s.faultClear d) := by
  unfold State.faultClear
  dsimp only
  split
  · split
    · exact readoptEvent _ false fun given isolated => ((k.serves given).key (by simpa using isolated)).1
    · exact k
  · exact k

theorem zonesWorked (h : ZonesWorked s t) : DoorSound p on d t := k.congr (State.door_congr h.doors d) (State.pdt_congr h.ts d)
theorem stuckClear (c : DoorNo) : DoorSound p on d (s.stuckClear c) := k.zonesWorked (s.stuckClear_worked c)

omit k in
/-- What the acts of a panel keep (R188 to R192). -/
theorem panelKeeps (p on : Prop) (d : DoorNo) : PanelKeeps d (DoorSound p on d) where
  alike h k := k.congr (h.door d rfl) (State.pdt_congr h.ts d)
  putReason v x _ k := k.putReason v x
  latchReset k := k.latchReset
  faultClear k := k.faultClear
  stuckClear k := k.stuckClear d

/-! ## The status taken (R115, R122 to R126, R132 to R135) -/

omit k in
/-- A door leaves service (R134), whatever its record was, with its key known to be on only where the part runs. -/
theorem leaveService {r : Door} (key : p → r.isoKey = some true → on) : DoorSound p on d ((s.setDoor d r).leaveService d) := by
  unfold DoorSound
  rw [State.leaveService_door, State.door_setDoor_same]
  exact .out key

theorem applyLeaf (u : UnitStatus) : DoorSound p on d (s.applyLeaf d u) := by
  by_cases free : (s.door d).state.LeafFree
  · rw [State.applyLeaf_free u free]; exact k
  unfold DoorState.LeafFree at free
  cases state : (s.door d).state with
  | opening =>
    rw [State.applyLeaf_opening u state]
    split
    · exact k.setDoor fun sound =>
        sound.moved (by rw [state]; rfl) (Door.enterOpened_good (sound.good.opens (.inl state))) rfl rfl
    · exact k
  | closing =>
    rw [State.applyLeaf_closing u state]
    split
    · exact k.setDoor fun sound =>
        sound.moved (by rw [state]; rfl) (Door.enterClosed_good (sound.good.idle (.inr (.inl state)))) rfl rfl
    · split
      · refine k.setDoor fun sound => sound.stays ?_ rfl rfl rfl rfl
        obtain ⟨held, fault, -, -, reclose, rest⟩ := sound.good
        exact ⟨held, fault, fun runs => absurd rfl runs, fun _ => state, reclose, rest⟩
      · exact k
  | closed =>
    rw [State.applyLeaf_closed u state]
    split
    · exact k.faultDoor (by rw [state]; rfl) (by decide)
    · exact k
  | reopening =>
    rw [State.applyLeaf_reopening u state]
    split
    · refine k.setDoor fun sound => sound.stays ?_ rfl rfl rfl rfl
      obtain ⟨held, fault, -, lockProof, -, rest⟩ := sound.good
      exact ⟨held, fault, fun runs => absurd rfl runs, lockProof, fun _ => state, rest⟩
    · exact k
  | unknown | outOfService | opened | held | releasedManual | fault => simp [state] at free

theorem applyRules (u : UnitStatus) (wasManual : Bool) : DoorSound p on d (s.applyRules d u wasManual) := by
  unfold State.applyRules
  dsimp only
  split
  next code => exact k.faultDoor code.2 (by decide)
  split
  next manual =>
    refine (k.setDoor fun sound => ?_).raise _ _ _
    exact sound.moved (DoorState.seesFaultCode_of_seesManual manual.2.2) (Door.enterManual_good _) rfl rfl
  split
  next restored =>
    have works : (s.door d).state.seesFaultCode = true := by rw [restored.2.2]; rfl
    split
    · refine k.setDoor fun sound => sound.moved works (Door.closedThenReasons_good _ _) ?_ ?_
      · exact congrArg Prod.snd (Door.closedThenReasons_seen _ _)
      · exact Door.closedThenReasons_returning _ _
    · exact k.setDoor fun sound => sound.moved works (Door.enterHeld_good _ _) rfl rfl
  · exact k.applyLeaf u

theorem applyStatus (runs : on) (u : UnitStatus) (iso : Bool) : DoorSound p on d (s.applyStatus d u iso) := by
  unfold State.applyStatus
  dsimp only
  split
  · exact readoptEvent u false fun _ _ => runs
  split
  · exact readoptEvent u false fun _ _ => runs
  refine doorEvent ?_
  split
  · exact leaveService fun _ _ => runs
  next stays =>
    have shown : DoorSound p on d (s.setDoor d ((s.door d).shown u iso)) := k.setDoor fun sound => by
      refine ⟨sound.good, fun given => ?_⟩
      have was := sound.serves given
      refine ⟨was.entry, fun isolated => ⟨runs, ?_⟩, was.returning⟩
      exact by_contra fun inService => stays ⟨Option.some.inj isolated, inService⟩
    exact shown.applyRules u _

theorem commLostNotice : DoorSound p on d (s.commLostNotice d) := by
  by_cases out : (s.door d).state = .outOfService
  · refine doorEvent ?_
    dsimp only
    rw [State.door_setDoor_same, if_pos out]
    exact k.setDoor fun sound => sound.stays sound.good rfl rfl rfl rfl
  · refine (k.setDoor fun sound => ⟨Door.enterFault_good _ _, fun given => ?_⟩).handed (State.commLostNotice_handed out)
    have was := sound.serves given
    exact ⟨fun runs _ => was.entry runs out, fun isolated => absurd (was.key isolated).2 out, fun _ => .inr ⟨rfl, rfl⟩⟩

/-! ## Timers (R121, R123, R126) -/

theorem motionExpiry (c : DoorNo) : DoorSound p on d (s.motionExpiry c) := by
  unfold State.motionExpiry
  split
  · exact k
  next runs =>
    by_cases e : d = c
    · subst e
      refine doorEvent (k.faultDoor ?_ (by decide))
      rcases k.good.motion runs with state | state | state <;> rw [state] <;> rfl
    · exact k.elsewhere e ((Reworked.refl c s).faultDoor _)
theorem lockProofExpiry (c : DoorNo) : DoorSound p on d (s.lockProofExpiry c) := by
  unfold State.lockProofExpiry
  split
  · exact k
  next runs =>
    by_cases e : d = c
    · subst e
      exact doorEvent (k.faultDoor (by rw [k.good.lockProof runs]; rfl) (by decide))
    · exact k.elsewhere e ((Reworked.refl c s).faultDoor _)
theorem recloseExpiry (c : DoorNo) : DoorSound p on d (s.recloseExpiry c) := by
  unfold State.recloseExpiry
  split
  · exact k
  next runs =>
    by_cases e : d = c
    · subst e
      have state := k.good.reclose runs
      refine doorEvent ?_
      dsimp only
      split
      · exact k.setDoor fun sound =>
          sound.moved (by rw [state]; rfl) (Door.enterClosing_good _ (sound.good.idle (.inr (.inr state)))) rfl rfl
      · refine k.setDoor fun sound => sound.stays ?_ rfl rfl rfl rfl
        obtain ⟨held, fault, motion, lockProof, -, rest⟩ := sound.good
        exact ⟨held, fault, motion, lockProof, fun _ => state, rest⟩
    · refine k.elsewhere e ?_
      dsimp only
      split <;> exact (Reworked.refl c s).setDoor _

end
end DoorSound
end Sys2Proof.Machine

namespace Sys2Proof.Machine

namespace DoorSound

section
variable {p on : Prop} {d : DoorNo} {s t : State} (k : DoorSound p on d s)
include k

theorem setKey (c : DoorNo) (x : KeyState) : DoorSound p on d (s.setKey c x) := k

/-! ## Sensing and effort (R141 to R168) -/

theorem handGap (c : DoorNo) (z : ZoneId) : DoorSound p on d (s.handGap c z) := k.handed (s.handGap_handed c z)
theorem gapSensed (z : ZoneId) (q : SensingProfile) (occupied : Bool) : DoorSound p on d (s.gapSensed d z q occupied) := by
  have counted : DoorSound p on d (s.countDoor d DoorCounters.incGapEvents) :=
    k.setDoor fun sound => sound.stays sound.good rfl rfl rfl rfl
  unfold State.gapSensed
  split
  · refine onlyIf (act := (State.reopenTrigger · d)) ?_ reopenTrigger
    exact (counted.raise _ _ _).onlyIf (act := (State.raise · _ _ _)) fun k => k.raise _ _ _
  · exact k
theorem handSensed (z : ZoneId) (q : SensingProfile) (occupied : Bool) : DoorSound p on d (s.handSensed d z q occupied) := by
  cases gap : z.isGap with
  | true =>
    rw [State.handSensed_gap _ _ _ gap]
    exact (k.gapSensed z q occupied).handed (State.handProofOfZone_handed _ _)
  | false =>
    rw [State.handSensed_outer _ _ _ gap]
    exact k.onlyIf (act := (State.reopenTrigger · d)) reopenTrigger
theorem sampleZone (bit : Bool) (z : ZoneId) : DoorSound p on d (s.sampleZone d bit z) := by
  have sampled : ∀ (same : Prop) [Decidable same] (r : Option ZoneRec) (q : SensingProfile) (occupied : Bool),
      DoorSound p on d (if same then s.setZone d z r else (s.setZone d z r).handSensed d z q occupied) := by
    intro same _ r q occupied
    have written : DoorSound p on d (s.setZone d z r) := k
    split
    · exact written
    · exact written.handSensed z q occupied
  unfold State.sampleZone
  split
  · split
    · exact k
    · dsimp only
      split
      · exact ((sampled _ _ _ _).raise _ _ _).handGap d z
      · exact sampled _ _ _ _
  · exact k
theorem takeSensors (y : Reply) : DoorSound p on d (s.takeSensors d y) := k.foldl fun z k => k.sampleZone _ z

theorem tripDoor : DoorSound p on d (s.tripDoor d) := by
  unfold State.tripDoor
  split
  case h_1 => exact k.reopenOrHold
  case h_2 state | h_3 state =>
    exact k.setDoor fun sound => sound.moved (by rw [state]; rfl) (Door.enterHeld_good _ _) rfl rfl
  case h_4 state | h_5 state | h_6 state | h_7 state => exact k.faultDoor (by rw [state]; rfl) (by decide)
  case h_8 | h_9 | h_10 => exact k

/-- E, the blank count or a counter is written. -/
theorem gauge {r : Door} (good : (s.door d).good → r.good) (state : r.state = (s.door d).state)
    (cause : r.faultCause = (s.door d).faultCause) (key : r.isoKey = (s.door d).isoKey)
    (returning : r.returning = (s.door d).returning) : DoorSound p on d (s.setDoor d r) :=
  k.setDoor fun sound => sound.stays (good sound.good) state cause key returning

theorem trip (c : DriveClass) (cause : TripCause) (i : Nat) : DoorSound p on d (s.trip d c cause i) := by
  have counted : DoorSound p on d
      (s.setDoor d (({ s.door d with effort := c.limit / 2 } : Door).count DoorCounters.incEffortTrips)) :=
    k.gauge (fun good => good) rfl rfl rfl rfl
  exact doorEvent (counted.raise _ _ _).tripDoor
theorem takeCurrent (i : Nat) : DoorSound p on d (s.takeCurrent d i) := by
  unfold State.takeCurrent
  dsimp only
  split; · exact k
  split; · exact k
  split; · exact k.gauge (fun good => good) rfl rfl rfl rfl
  split; · exact k.trip _ _ i
  split
  · split
    · exact k.trip _ _ i
    · exact k.gauge (fun good => good) rfl rfl rfl rfl
  · exact k.gauge (fun good => good) rfl rfl rfl rfl

/-! ## What a door slot hands on (R92, R95, R99, R100, R184 to R186) -/

theorem takeKey (on' : Bool) : DoorSound p on d (s.takeKey d on') := by
  unfold State.takeKey
  split
  · exact k.setKey d _
  · exact k.setKey d _
  · split
    · exact (k.putReason true .key).setKey d _
    · exact (k.setKey d _).raise _ _ _
  · exact k
  · exact k
  · exact k
  · exact (k.putReason false .key).setKey d _
  · exact (k.putReason false .key).setKey d _

theorem handReply (runs : on) (y : Reply) : DoorSound p on d (s.handReply d y) :=
  (((k.takeSensors y).takeCurrent _).applyStatus runs _ _).takeKey _
theorem handLoss : DoorSound p on d (s.handLoss d) :=
  ((((k.raise _ _ _).commLostNotice).zonesWorked (State.forceZones_worked _ d)).putReason false .key).setKey d _
omit k in
theorem handRecovery (runs : on) (y : Reply) : DoorSound p on d (s.handRecovery d y) :=
  (readoptEvent y.unitStatus true fun _ _ => runs).handReply runs y
theorem handDoorSlot (runs : on) (x : Handing) : DoorSound p on d (s.handDoorSlot d x) := by
  cases x with
  | nothing => exact k
  | reply y => exact k.handReply runs y
  | loss => exact k.handLoss
  | recovery y => exact handRecovery runs y

/-- The key of a door whose entry is out of service, and which therefore is out of service (R92). -/
theorem handKeyAlone (runs : on) (entry : (s.pdt d).inService = false) (sel : Option Reply) :
    DoorSound p on d (s.handKeyAlone d sel) := by
  cases sel with
  | none => exact k
  | some y =>
    refine k.setDoor fun sound => ⟨sound.good, fun given => ?_⟩
    have was := sound.serves given
    refine ⟨was.entry, fun _ => ⟨runs, by_contra fun serves => ?_⟩, was.returning⟩
    have inService := was.entry runs serves
    rw [entry] at inService
    exact absurd inService (by decide)

/-! ## A cycle close (R88, R94, R95) -/

/-- The counters of a door are written with those of all others. -/
theorem counted {c : DoorCounters} (door : t.door d = { s.door d with counters := c }) (pdt : t.pdt d = s.pdt d) :
    DoorSound p on d t := by
  have kept : DoorSound p on d (s.setDoor d { s.door d with counters := c }) := k.gauge (fun good => good) rfl rfl rfl rfl
  exact kept.congr (door.trans (State.door_setDoor_same ..).symm) pdt

theorem closeSelections : DoorSound p on d s.closeSelections := by
  obtain ⟨door, -⟩ := State.ringCounted_door (s := s) d
  exact k.counted ((State.closeSelections_door ..).trans door) (State.pdt_congr (State.ts_of_ground s.closeSelections_ground) d)

/-- One slot's hand-over (R95). -/
theorem hands {o : State} (runs : on) (ground : s.ground = o.ground) (i : SlotNo) : DoorSound p on d (o.hands s i) := by
  by_cases other : i = slotOfDoor d
  · subst other
    cases entry : (o.pdt d).inService with
    | true =>
      have on : o.configured (slotOfDoor d) = true := by rw [State.configured_door, entry]
      rw [State.hands_door s (State.handing_configured on)]
      exact k.handDoorSlot runs _
    | false =>
      rw [State.hands_keyAlone s entry]
      exact k.handKeyAlone runs (by rw [State.pdt_congr (State.ts_of_ground ground), entry]) _
  · exact (panelKeeps p on d).hands k other

theorem closeCycle (runs : on) (order : List SlotNo) : DoorSound p on d (s.closeCycle order) := by
  have handed : ∀ (l : List SlotNo) (u : State), u.ground = s.ground → DoorSound p on d u →
      DoorSound p on d (l.foldl s.hands u) := by
    intro l
    induction l with
    | nil => exact fun _ _ k => k
    | cons i l ih =>
      exact fun u ground k => ih _ ((u.handSlot_ground i _ _).trans ground) (k.hands runs ground i)
  have closed : DoorSound p on d (s.closeHanding order) := by
    rw [State.closeHanding_eq]
    exact handed _ _ s.closeSelections_ground k.closeSelections
  exact closed.congr (State.startCycle_door ..) (State.pdt_congr (State.ts_of_ground (State.startCycle_ground ..)) d)

end
end DoorSound
end Sys2Proof.Machine

namespace Sys2Proof.Machine

namespace DoorSound

section
variable {p on : Prop} {d : DoorNo} {s t : State} (k : DoorSound p on d s)
include k

/-! ## Acts on any door -/

theorem forDoors {ds : List DoorNo} {act : DoorNo → State → State}
    (each : ∀ {u : State} (c : DoorNo), DoorSound p on d u → DoorSound p on d (act c u)) :
    DoorSound p on d (forDoors ds act s) := k.foldl each

theorem putReasonAt (c : DoorNo) (v : Bool) (x : Reason) : DoorSound p on d (s.putReason c v x) := by
  by_cases e : d = c
  · exact e ▸ (show DoorSound p on c s from e ▸ k).putReason v x
  · exact k.elsewhere e ((Reworked.refl c s).setDoor _)
theorem latchResetAt (c : DoorNo) : DoorSound p on d (s.latchReset c) := (panelKeeps p on d).latchResetAt k c
theorem resetDoorAt (c : DoorNo) : DoorSound p on d (s.resetDoor c) := by
  refine DoorSound.stuckClear ?_ c
  split
  · exact k.latchResetAt c
  · exact (panelKeeps p on d).faultClearAt k c
  · exact k

theorem shutDoors (ds : List DoorNo) (xs : List Reason) : DoorSound p on d (s.shutDoors ds xs) :=
  (k.forDoors fun c k => k.foldl fun x k => k.putReasonAt c false x).forDoors fun c k => k.latchResetAt c

/-! ## Berths (R48 to R66) -/

theorem offer (x : Telegram) : DoorSound p on d (s.offer x) := k.handed (s.offer_handed x)
theorem tell (xs : List Telegram) : DoorSound p on d (s.tell xs) := k.congr (s.tell_door xs d) rfl
theorem offerBerthStatus (b : BerthId) : DoorSound p on d (s.offerBerthStatus b) := k.offer _
theorem reportBerth (b : BerthId) (st : BerthState) (c : Option CloseCause) (n : Nat) : DoorSound p on d (s.reportBerth b st c n) :=
  k.handed (s.reportBerth_handed b st c n)
theorem reportBerthNow (b : BerthId) : DoorSound p on d (s.reportBerthNow b) := k.reportBerth b _ _ _
theorem enterProving (b : BerthId) (c : CloseCause) : DoorSound p on d (s.enterProving b c) := k.setBerth b _
theorem finishProving (b : BerthId) : DoorSound p on d (s.finishProving b) := by
  have evaluated := (k.handed (s.evaluateProof_handed b)).reportBerth b .proving (s.berth b).closeCause ((s.berth b).trainNumber.getD 0)
  exact (evaluated.onlyIf (act := (State.reportBerthNow · b)) fun k => k.reportBerthNow b).offerBerthStatus b

theorem giveOverrides (c : DoorNo) : DoorSound p on d (s.giveOverrides c) :=
  (k.onlyIf (act := (State.addReason · c .fire)) fun k => k.putReasonAt c true .fire).onlyIf
    (act := (State.addReason · c .evac)) fun k => k.putReasonAt c true .evac
theorem computeAlignment (b : BerthId) : DoorSound p on d (s.computeAlignment b) := by
  rw [State.computeAlignment_eq]
  exact (k.setBerth b _).forDoors fun c k => k.giveOverrides c
theorem computeAt (b : BerthId) (e : Int) : DoorSound p on d (s.computeAt b e) := (k.setBerth b _).computeAlignment b
theorem protectiveClose (b : BerthId) (c : CloseCause) {step : State → State}
    (steps : ∀ {u : State}, DoorSound p on d u → DoorSound p on d (step u)) : DoorSound p on d (s.protectiveClose b c step) := by
  have unreleased : DoorSound p on d (s.unreleased b) := k.forDoors fun c k => k.putReasonAt c false .release
  exact (steps (unreleased.enterProving b c)).finishProving b

theorem actOnReport (b : BerthId) (e : Int) (standstill : Bool) : DoorSound p on d (s.actOnReport b e standstill) := by
  unfold State.actOnReport
  split
  case h_1 =>
    split
    · exact (((k.computeAt b e).setBerth b _).reportBerthNow b).offerBerthStatus b
    · exact k
  case h_2 =>
    split
    · exact (k.computeAt b e).offerBerthStatus b
    · exact ((k.setBerth b _).reportBerthNow b).offerBerthStatus b
  case h_3 =>
    split
    · exact k.protectiveClose b .moving fun k => k.setBerth b _
    · split
      · exact k.protectiveClose b .creep fun k => (k.raise _ _ _).computeAt b e
      · exact k
  case h_4 | h_5 | h_6 => exact k

theorem stopReport (x : List Byte) : DoorSound p on d (s.stopReport x).1 := by
  unfold State.stopReport
  split
  · exact k
  · exact k
  · split
    · exact k
    · exact (k.setBerth _ _).actOnReport _ _ _
theorem release (x : List Byte) : DoorSound p on d (s.release x).1 := by
  unfold State.release
  split
  · exact k
  · exact k
  next b _ _ _ =>
    dsimp only
    split
    · exact k
    next state =>
      iterate 3 (split; · exact k)
      exact (panelKeeps p on d).releaseBerth k fun vacant => state (by rw [vacant]; decide)
theorem close (x : List Byte) : DoorSound p on d (s.close x).1 := by
  unfold State.close
  split
  · exact k
  next b _ =>
    split; · exact k
    have shut := k.shutDoors (s.spanDoors b) closeReasons
    split
    case h_4 => exact (shut.enterProving b .order).finishProving b
    case h_5 | h_6 => exact shut
    case h_1 | h_2 | h_3 => exact k
theorem vacate (b : BerthId) : DoorSound p on d (s.vacate b) := ((k.setBerth b _).reportBerth b _ _ _).offerBerthStatus b
theorem arrival (x : List Byte) : DoorSound p on d (s.arrival x).1 := by
  unfold State.arrival
  split
  · exact k
  · exact k
  · split; · exact k
    split; · exact k
    iterate 6 (split; · exact k)
    exact ((k.setBerth _ _).reportBerthNow _).offerBerthStatus _
theorem cancel (x : List Byte) : DoorSound p on d (s.cancel x).1 := by
  unfold State.cancel
  split
  · exact k
  · split
    case h_1 | h_2 => exact k.vacate _
    case h_3 | h_4 | h_5 | h_6 => exact k
theorem departed (x : List Byte) : DoorSound p on d (s.departed x).1 := by
  unfold State.departed
  split
  · exact k
  · split
    · exact ((k.setBerth _ _).offer _).vacate _
    · exact k

/-! ## Overrides (R172 to R182), and the requests that act under them (R137, R138) -/

theorem abortTest : DoorSound p on d s.abortTest := by
  rw [State.abortTest_eq]
  exact tell (s := { s with drm := s.drm.aborted }) k _
theorem enterMode (x : OverrideKind) : DoorSound p on d (s.enterMode x) := by
  have listed : DoorSound p on d { s with ou := { s.ou with list := s.ou.list ++ [x] } } := k
  exact (listed.raise _ _ _).onlyIf (act := State.abortTest) fun k => k.abortTest
theorem leaveMode (x : OverrideKind) : DoorSound p on d (s.leaveMode x) := by
  have listed : DoorSound p on d { s with ou := { s.ou with list := s.ou.list.filter (· != x) } } := k
  exact (listed.raise _ _ _).onlyIf (act := State.abortTest) fun k => k.abortTest
theorem leaveMaint : DoorSound p on d s.leaveMaint :=
  ((k.onlyIf (act := (State.leaveMode · .test)) fun k => k.leaveMode .test).leaveMode .maint).forDoors fun c k =>
    k.putReasonAt c false .maint
theorem enterEvac : DoorSound p on d s.enterEvac := (k.enterMode .evac).forDoors fun c k => k.putReasonAt c true .evac
theorem enterFire : DoorSound p on d s.enterFire := by
  unfold State.enterFire
  split
  · exact k
  · exact (k.enterMode .fire).forDoors fun c k => k.putReasonAt c true .fire
theorem takeFire : DoorSound p on d s.takeFire := by
  unfold State.takeFire
  split
  · exact k
  · have taken : DoorSound p on d { s with ou := { s.ou with fireTaken := s.firePin } } := k
    dsimp only
    split
    · exact taken.enterFire
    · exact taken.onlyIf (act := (State.leaveMode · .fire)) fun k => k.leaveMode .fire

theorem evacuate (x : List Byte) : DoorSound p on d (s.evacuate x).1 := by
  unfold State.evacuate
  split
  · exact k
  · iterate 2 (split; · exact k)
    exact k.enterEvac
  · split
    · exact k.leaveMode .evac
    · exact k
theorem modeEnter (x : List Byte) : DoorSound p on d (s.modeEnter x).1 := by
  unfold State.modeEnter
  split
  · exact k
  · iterate 4 (split; · exact k)
    exact k.enterMode _
theorem modeExit (x : List Byte) : DoorSound p on d (s.modeExit x).1 := by
  unfold State.modeExit
  split
  · exact k
  · split; · exact k
    split
    · dsimp only; exact k.leaveMaint
    · exact k.leaveMode _
theorem doorCommand (x : List Byte) : DoorSound p on d (s.doorCommand x).1 := by
  unfold State.doorCommand
  split
  · exact k
  · iterate 4 (split; · exact k)
    split
    · exact k.putReasonAt _ true .maint
    · exact (k.putReasonAt _ false .maint).latchResetAt _
theorem resetLatch (x : List Byte) : DoorSound p on d (s.resetLatch x).1 := by
  unfold State.resetLatch
  split
  · exact k
  · dsimp only; exact k.resetDoorAt _

/-! ## Counters and the other requests -/

theorem takeSnapshot : DoorSound p on d s.takeSnapshot :=
  k.counted (c := .zero) (by simp [State.takeSnapshot, State.door]) rfl
theorem setProfile (i : Fin 16) (q : StockProfile) : DoorSound p on d (s.setProfile i q) := k
theorem unlessRefused (r : Option (Code × Nat)) {act : State × Answer} (acted : DoorSound p on d act.1) :
    DoorSound p on d (s.unlessRefused r act).1 := by
  cases r with
  | none => exact acted
  | some _ => exact k
theorem profileBegin (x : List Byte) : DoorSound p on d (s.profileBegin x).1 := by
  rw [State.profileBegin_eq]; exact k.unlessRefused _ (k.setProfile _ _)
theorem profileCar (x : List Byte) : DoorSound p on d (s.profileCar x).1 := by
  rw [State.profileCar_eq]; exact k.unlessRefused _ (k.setProfile _ _)
theorem profileDelete (x : List Byte) : DoorSound p on d (s.profileDelete x).1 := by
  rw [State.profileDelete_eq]; exact k.unlessRefused _ (k.setProfile _ _)
theorem storeSave : DoorSound p on d s.storeSave.1 := by
  unfold State.storeSave
  iterate 2 (split; · exact k)
  exact k
theorem answer (src kind : Byte) (a : Answer) : DoorSound p on d (s.answer src kind a) := by
  cases a with
  | deferred => exact k
  | refused c f => exact k.offer _
  | accepted data => exact k.offer _
theorem failSave : DoorSound p on d s.failSave := by
  have idle : DoorSound p on d { s with ts := { s.ts with saveState := .idle } } := k
  exact idle.answer _ _ _
theorem succeedSave : DoorSound p on d s.succeedSave := by
  have saved : DoorSound p on d { s with ts := { s.ts with
      saveState := .idle, imageState := .valid, config := .configured, image := { s.ts.image with validMark := true } } } := k
  unfold State.succeedSave
  refine DoorSound.answer ?_ _ _ _
  dsimp only
  split
  · exact saved.handed (State.judgeLoops_handed _)
  · exact saved

end
end DoorSound
end Sys2Proof.Machine

namespace Sys2Proof.Machine

namespace DoorSound

section
variable {p on : Prop} {d : DoorNo} {s t : State} (k : DoorSound p on d s)
include k

/-! ## Tables (R4 to R12) -/

/-- The PDT entry of another door is written. -/
theorem withPdt {c : DoorNo} (ne : d ≠ c) (e : PdtEntry) : DoorSound p on d (s.withPdt c e) := by
  refine k.congr rfl ?_
  show (s.ts.tables.pdt.set c e)[d] = s.ts.tables.pdt[d]
  simpa using Vector.getElem_set_ne c.isLt d.isLt fun same => ne (Fin.ext same.symm)
/-- The door's own PDT entry is written, its service kept. -/
theorem withPdt_same {e : PdtEntry} (service : e.inService = (s.pdt d).inService) : DoorSound p on d (s.withPdt d e) := by
  unfold DoorSound
  rw [State.withPdt_pdt, service]
  exact k
theorem pdtOut (e : PdtEntry) : DoorSound p on d ((s.withPdt d e).pdtOut d) := by
  have out : DoorSound p on d (((s.withPdt d e).setDoor d (s.door d)).leaveService d) :=
    leaveService fun given isolated => ((k.serves given).key isolated).1
  have self : (s.withPdt d e).setDoor d (s.door d) = s.withPdt d e := (s.withPdt d e).setDoor_self d
  rw [self] at out
  exact doorEvent out
theorem pdtIn {e : PdtEntry} (serves : e.inService = true) : DoorSound p on d ((s.withPdt d e).pdtIn d) := by
  have door : (s.withPdt d e).door d = s.door d := rfl
  have entry : ((s.withPdt d e).pdt d).inService = true := by rw [State.withPdt_pdt, serves]
  refine doorEvent ?_
  rw [door]
  unfold DoorSound
  split
  next isolated =>
    rw [door]
    exact ⟨k.good, fun given => ⟨fun _ _ => entry, (k.serves given).key, (k.serves given).returning⟩⟩
  next off =>
    rw [State.door_setDoor_same]
    exact ⟨Door.enterUnknown_good _, fun _ => ⟨fun _ _ => entry, fun isolated => absurd isolated off, fun _ => .inl rfl⟩⟩

theorem clampEffort (c : DoorNo) : DoorSound p on d (s.clampEffort c) := by
  rw [State.clampEffort_eq]
  by_cases e : d = c
  · subst e
    cases s.driveClass d with
    | none => exact k.setDoor id
    | some c => exact k.gauge (fun good => good) rfl rfl rfl rfl
  · exact k.congr (State.door_setDoor_ne _ _ e) rfl
theorem refitZones (c : DoorNo) : DoorSound p on d (s.refitZones c) := by
  obtain ⟨x, e⟩ := s.refitZones_frame c
  rw [e]; exact k
theorem applyProfile (c : DoorNo) : DoorSound p on d (s.applyProfile c) := by rw [State.applyProfile_eq]; exact k
theorem judgeLoops : DoorSound p on d s.judgeLoops := k.handed s.judgeLoops_handed
theorem refitPanel (z : Zone) : DoorSound p on d (s.refitPanel z) := by
  rw [State.refitPanel_eq]
  exact (panelKeeps p on d).alike (.panelWritten _ s z _) k

theorem writePdt (c : DoorNo) (e : PdtEntry) : DoorSound p on d (s.writePdt c e) := by
  unfold State.writePdt
  dsimp only
  split
  · exact k
  · refine handed (judgeLoops ?_) (State.handProofOfZone_handed _ _)
    refine onlyIf (act := (State.applyProfile · c)) ?_ fun k => k.applyProfile c
    refine onlyIf (act := (State.refitZones · c)) ?_ fun k => k.refitZones c
    refine onlyIf (act := (State.clampEffort · c)) ?_ fun k => k.clampEffort c
    rw [← State.withPdt]
    by_cases own : d = c
    · subst own
      split
      · exact k.pdtOut e
      next stays =>
        split
        next comes => exact k.pdtIn comes.2
        next same =>
          refine k.withPdt_same ?_
          cases old : (s.pdt d).inService with
          | true => simpa [old] using stays
          | false => simpa [old] using same
    · have written := k.withPdt own e
      split
      · refine doorEvent (written.congr (State.leaveService_other _ own) ?_)
        exact State.pdt_congr (State.ts_of_ground (State.leaveService_ground _ c)) d
      · refine written.onlyIf (act := (State.pdtIn · c)) fun {u} k => k.elsewhere own ?_
        split
        · exact .refl c u
        · exact (Reworked.refl c u).setDoor _

theorem writeClass (i : Fin 4) (c : DriveClass) : DoorSound p on d (s.writeClass i c) := by
  have written : DoorSound p on d (s.withClass i c) := k.congr rfl rfl
  rw [State.writeClass_eq]
  exact written.forDoors fun c k => k.clampEffort c
theorem writeSensing (i : Fin 8) (q : SensingProfile) : DoorSound p on d (s.writeSensing i q) := by
  have written : DoorSound p on d (s.withProfile i q) := k.congr rfl rfl
  exact written.forDoors fun c k => k.applyProfile c
theorem writeSettings (c : Settings) : DoorSound p on d (s.writeSettings c) := by
  have pdt : (s.withSettings c).pdt d = s.pdt d := by rw [State.withSettings_frame]; rfl
  have settings : DoorSound p on d (s.withSettings c) := by
    unfold DoorSound
    rw [State.withSettings_door, pdt]
    split
    · exact k.stays k.good rfl rfl rfl rfl
    · exact k
  rw [State.writeSettings_eq]
  exact ((settings.refitPanel _).refitPanel _).judgeLoops

theorem writeEntry (x : TableId) (i : Nat) (y : List Byte) : DoorSound p on d (s.writeEntry x i y).1 := by
  cases x <;> simp only [State.writeEntry]
  case pdt =>
    split
    · exact k
    · exact k
    · exact k.writePdt _ _
  case driveClass =>
    split
    · exact k
    · exact k
    · exact k.writeClass _ _
  case sensingProfile =>
    split
    · exact k
    · exact k
    · exact k.writeSensing _ _
  case settings =>
    split
    · exact k
    · split
      · exact k.writeSettings _
      · exact k
  case profile => exact k
  case store => exact k
theorem tableWrite (y : List Byte) : DoorSound p on d (s.tableWrite y).1 := by
  rw [State.tableWrite_eq]
  refine k.unlessRefused _ ?_
  cases tableAt y 0 with
  | none => exact k
  | some x => exact k.writeEntry x _ y

/-! ## The ring test, the events and the link -/

theorem ringTestStart : DoorSound p on d s.ringTestStart.1 := by
  unfold State.ringTestStart
  split
  · exact k
  · exact k.congr rfl rfl
theorem ringTestStop : DoorSound p on d s.ringTestStop.1 := by
  unfold State.ringTestStop
  split
  · exact k
  · exact k.abortTest
theorem ringTestInsert (x : List Byte) : DoorSound p on d (s.ringTestInsert x).1 := by
  unfold State.ringTestInsert
  split; · exact k
  dsimp only
  iterate 2 (split; · exact k)
  exact k.congr rfl rfl
theorem eventAck (x : List Byte) : DoorSound p on d (s.eventAck x).1 := by
  unfold State.eventAck
  split
  · exact k
  · exact k
  · exact k
  · exact k.congr rfl rfl
  · exact k.congr rfl rfl
theorem doorQuery (x : List Byte) : DoorSound p on d (s.doorQuery x).1 := by
  unfold State.doorQuery
  split
  · exact k
  · exact k.congr rfl rfl
theorem edgeQuery : DoorSound p on d s.edgeQuery.1 := by
  unfold State.edgeQuery
  dsimp only
  split
  · exact k.congr rfl rfl
  · exact k
theorem berthQuery (x : List Byte) : DoorSound p on d (s.berthQuery x).1 := by
  unfold State.berthQuery
  split <;> exact k
theorem alignDetail (x : List Byte) : DoorSound p on d (s.alignDetail x).1 := by
  unfold State.alignDetail
  split; · exact k
  iterate 2 (split; · exact k)
  exact k

theorem offerEdgeStatus : DoorSound p on d s.offerEdgeStatus := by
  unfold State.offerEdgeStatus
  split <;> exact k.congr rfl rfl
theorem recoverLink : DoorSound p on d s.recoverLink := by
  have up : DoorSound p on d { s with lli := { s.lli with link := .up, validRun := 3 } } := k
  exact (up.offerEdgeStatus.offerBerthStatus .A).offerBerthStatus .B
theorem superviseLink : DoorSound p on d s.superviseLink := by
  have timed : DoorSound p on d { s with lli := { s.lli with linkTimer := .running s.settings.linkTimeout } } := k
  unfold State.superviseLink
  dsimp only
  split
  · exact timed
  · split
    · exact timed
    · exact timed.recoverLink
theorem takeRun (run : List Byte) : DoorSound p on d (s.takeRun run) := by
  unfold State.takeRun
  split
  · exact k
  · exact k
  · dsimp only
    split <;> exact k.superviseLink
theorem expireLink : DoorSound p on d s.expireLink := by
  unfold State.expireLink
  split <;> exact k

/-! ## The end of STARTING, and a request that is taken -/

omit k in
/-- The load gives a door its service (R118, R22): before it the part does not run. -/
theorem loadTables (k : DoorSound p False d s) : DoorSound p True d s.loadTables := by
  unfold DoorSound
  rw [State.loadTables_door]
  split
  next serves =>
    refine ⟨k.good, fun given => ?_⟩
    obtain ⟨-, key, returning⟩ := k.serves given
    exact ⟨fun _ _ => serves, fun isolated => (key isolated).1.elim, returning⟩
  next => exact .out fun _ _ => trivial
omit k in
theorem beginWork (k : DoorSound p False d s) : DoorSound p True d s.beginWork := by
  have started : DoorSound p True d (s.loadTables.startCycle 0) :=
    k.loadTables.congr (State.startCycle_door ..) (State.pdt_congr (State.ts_of_ground (State.startCycle_ground ..)) d)
  exact started.judgeLoops.takeFire

end
end DoorSound
end Sys2Proof.Machine

namespace Sys2Proof.Machine

/-! # The door records over one step (O57) -/

/-- Every door record is sound. -/
def DoorsSound (p : Prop) (s : State) : Prop := ∀ d : DoorNo, DoorSound p (s.phase = .running) d s

/-- The door records are good, and in service as they should be where `p` holds. -/
theorem doorsSound_iff {p : Prop} {s : State} : DoorsSound p s ↔ DoorInv s ∧ (p → ServiceInv s) := by
  constructor
  · refine fun h => ⟨fun d => (h d).good, fun given d => ?_⟩
    have ⟨entry, key, returning⟩ := (h d).serves given
    exact ⟨fun running serves => ⟨entry running serves, fun isolated => serves (key isolated).2⟩,
      fun still isolated => still (key isolated).1, returning⟩
  · rintro ⟨good, service⟩ d
    refine ⟨good d, fun given => ?_⟩
    obtain ⟨working, before, returning⟩ := service given d
    have running : (s.door d).isoKey = some true → s.phase = .running := fun isolated => by_contra fun still => before still isolated
    refine ⟨fun running serves => (working running serves).1, fun isolated => ⟨running isolated, ?_⟩, returning⟩
    exact by_contra fun serves => (working (running isolated) serves).2 isolated

namespace DoorsSound

section
variable {p : Prop} {s t : State} (h : DoorsSound p s)
include h

/-- What leaves the phase and keeps each record sound. -/
theorem steady (phase : t.phase = s.phase) (kept : ∀ {on : Prop} {d : DoorNo}, DoorSound p on d s → DoorSound p on d t) :
    DoorsSound p t := by
  unfold DoorsSound
  rw [phase]
  exact fun d => kept (h d)
theorem of_ground (ground : t.ground = s.ground) (kept : ∀ {on : Prop} {d : DoorNo}, DoorSound p on d s → DoorSound p on d t) :
    DoorsSound p t := h.steady (congrArg Ground.phase ground) kept

/-- The same, of an act that keeps the records only while the part runs. -/
theorem working (ground : t.ground = s.ground)
    (kept : ∀ {d : DoorNo}, DoorSound p (s.phase = .running) d s → DoorSound p (s.phase = .running) d t) : DoorsSound p t := by
  unfold DoorsSound
  rw [show t.phase = s.phase from congrArg Ground.phase ground]
  exact fun d => kept (h d)

theorem takeRequest (k : Kind) (src : Byte) (x : List Byte) {owner : State → State × Answer}
    (owned : DoorsSound p s.popRequest → DoorsSound p (owner s.popRequest).1) : DoorsSound p (s.takeRequest k src x owner) :=
  State.takeRequest_keeps k src x (fun t a h => h.of_ground (t.answer_ground src k.code a) fun k => k.answer _ _ _) (fun h => h) owned h

/-- A request whose owner leaves the ground. -/
theorem owned (k : Kind) (src : Byte) (x : List Byte) {owner : State → State × Answer}
    (ground : ∀ u : State, (owner u).1.ground = u.ground)
    (kept : ∀ {on : Prop} {d : DoorNo} {u : State}, DoorSound p on d u → DoorSound p on d (owner u).1) :
    DoorsSound p (s.takeRequest k src x owner) := h.takeRequest k src x fun h => h.of_ground (ground _) kept

/-- A request to the Table Store. -/
theorem stored (k : Kind) (src : Byte) (x : List Byte) {owner : State → State × Answer}
    (phase : ∀ u : State, (owner u).1.phase = u.phase)
    (kept : ∀ {on : Prop} {d : DoorNo} {u : State}, DoorSound p on d u → DoorSound p on d (owner u).1) :
    DoorsSound p (s.takeRequest k src x owner) := h.takeRequest k src x fun h => h.steady (phase _) kept

end

/-- After a reset every record stands at its reset values (R112). -/
theorem resetAll (p : Prop) (s : State) {ph : Phase} (k : ResetKind) (still : ph ≠ .running) : DoorsSound p (s.resetAll ph k) := by
  refine doorsSound_iff.mpr ⟨fun d => ?_, fun _ d => ?_⟩
  · have door : (s.resetAll ph k).door d = Door.resetRec := by simp [State.resetAll, State.door, State.reset]
    rw [door]
    simp [Door.good, Door.resetRec]
  · have door : (s.resetAll ph k).door d = Door.resetRec := by simp [State.resetAll, State.door, State.reset]
    rw [door]
    exact ⟨fun running => absurd running still, fun _ => by simp [Door.resetRec], fun returns => by simp [Door.resetRec] at returns⟩
theorem startUp (p : Prop) (s : State) (k : ResetKind) : DoorsSound p (s.startUp k) := by
  unfold State.startUp
  split <;> exact resetAll p s _ (by decide)

end DoorsSound

/-- A TABLE_WRITE leaves the phase. -/
theorem State.tableWrite_phase (s : State) (x : List Byte) : (s.tableWrite x).1.phase = s.phase := by
  rw [State.tableWrite_eq]
  cases tableWriteRefusal s x with
  | some r => rfl
  | none =>
    cases tableAt x 0 with
    | none => rfl
    | some t => exact ((EdgeKept.refl _ s).writeEntry t _ x).phase

theorem exec_keeps_doors {p : Prop} {s t : State} (i : Instr) (h : DoorsSound p s) (e : exec i s = .next t) : DoorsSound p t := by
  have kept : ∀ {c : Prop} [Decidable c] {u : State}, (c → DoorsSound p u) → DoorsSound p (if c then u else s) := by
    intro c _ u hu
    split
    next holds => exact hu holds
    next => exact h
  cases i with
  | lineRunReceived run => exact of_next (kept fun _ => h.of_ground (s.takeRun_ground run) fun k => k.takeRun run) e
  | linkTimeout =>
    refine of_next ?_ e
    split
    · exact h
    · exact h.of_ground s.expireLink_ground fun k => k.expireLink
  | transmitComplete => exact of_next (kept (u := { s with lli := LineLink.pump { s.lli with sending := none } }) fun _ => h) e
  | unknownKindRequest src kind x =>
    have popped : DoorsSound p s.popRequest := h
    exact of_next (kept fun _ => popped.of_ground (State.answer_ground _ _ _ _) fun k => k.answer _ _ _) e
  | arrival src x => exact of_next (h.owned _ _ _ (·.arrival_ground x) (·.arrival x)) e
  | stopReport src x => exact of_next (h.owned _ _ _ (·.stopReport_ground x) (·.stopReport x)) e
  | release src x => exact of_next (h.owned _ _ _ (·.release_ground x) (·.release x)) e
  | close src x => exact of_next (h.owned _ _ _ (·.close_ground x) (·.close x)) e
  | cancel src x => exact of_next (h.owned _ _ _ (·.cancel_ground x) (·.cancel x)) e
  | departed src x => exact of_next (h.owned _ _ _ (·.departed_ground x) (·.departed x)) e
  | evacuate src x => exact of_next (h.owned _ _ _ (·.evacuate_ground x) (·.evacuate x)) e
  | berthQuery src x => exact of_next (h.owned _ _ _ (·.berthQuery_ground x) (·.berthQuery x)) e
  | alignDetail src x => exact of_next (h.owned _ _ _ (·.alignDetail_ground x) (·.alignDetail x)) e
  | doorQuery src x => exact of_next (h.owned _ _ _ (·.doorQuery_ground x) (·.doorQuery x)) e
  | edgeQuery src x => exact of_next (h.owned _ _ _ (·.edgeQuery_ground) (·.edgeQuery)) e
  | ident src x => exact of_next (h.owned _ _ _ (fun _ => rfl) id) e
  | tableWrite src x => exact of_next (h.stored _ _ _ (·.tableWrite_phase x) (·.tableWrite x)) e
  | tableRead src x =>
    exact of_next (h.owned _ _ _ (fun u => by rw [State.tableRead_fst]) fun k => by rw [State.tableRead_fst]; exact k) e
  | profileBegin src x =>
    exact of_next (h.stored _ _ _ (fun u => ((EdgeKept.refl (fun _ => True) u).profileBegin x).phase) (·.profileBegin x)) e
  | profileCar src x =>
    exact of_next (h.stored _ _ _ (fun u => ((EdgeKept.refl (fun _ => True) u).profileCar x).phase) (·.profileCar x)) e
  | profileDelete src x =>
    exact of_next (h.stored _ _ _ (fun u => ((EdgeKept.refl (fun _ => True) u).profileDelete x).phase) (·.profileDelete x)) e
  | storeSave src x =>
    exact of_next (h.stored _ _ _ (fun u => ((EdgeKept.refl (fun _ => True) u).storeSave).phase) (·.storeSave)) e
  | storeSaveComplete ok =>
    refine of_next (kept fun _ => ?_) e
    split
    · exact h.steady ((EdgeKept.refl (fun _ => True) s).succeedSave).phase fun k => k.succeedSave
    · exact h.steady ((EdgeKept.refl (fun _ => True) s).failSave).phase fun k => k.failSave
  | storeSaveTimeout => exact of_next (kept fun _ => h.steady ((EdgeKept.refl (fun _ => True) s).failSave).phase fun k => k.failSave) e
  | modeEnter src x => exact of_next (h.owned _ _ _ (·.modeEnter_ground x) (·.modeEnter x)) e
  | modeExit src x => exact of_next (h.owned _ _ _ (·.modeExit_ground x) (·.modeExit x)) e
  | doorCommand src x => exact of_next (h.owned _ _ _ (·.doorCommand_ground x) (·.doorCommand x)) e
  | resetLatch src x => exact of_next (h.owned _ _ _ (·.resetLatch_ground x) (·.resetLatch x)) e
  | ringTestStart src x => exact of_next (h.owned _ _ _ (·.ringTestStart_ground) (·.ringTestStart)) e
  | ringTestStop src x => exact of_next (h.owned _ _ _ (·.ringTestStop_ground) (·.ringTestStop)) e
  | ringTestInsert src x => exact of_next (h.owned _ _ _ (·.ringTestInsert_ground x) (·.ringTestInsert x)) e
  | ringTestResult src x =>
    exact of_next (h.owned _ _ _ (fun u => by rw [State.ringTestResult_fst]) fun k => by rw [State.ringTestResult_fst]; exact k) e
  | eventAck src x => exact of_next (h.owned _ _ _ (·.eventAck_ground x) (·.eventAck x)) e
  | eventMask src x => exact of_next (h.owned _ _ _ (·.eventMask_ground x) id) e
  | changeMap src x => exact of_next (h.owned _ _ _ (fun _ => rfl) id) e
  | snapshot src x => exact of_next (h.owned _ _ _ (·.snapshot_ground) (·.takeSnapshot)) e
  | counterRead src x =>
    exact of_next (h.owned _ _ _ (fun u => by rw [State.counterRead_fst]) fun k => by rw [State.counterRead_fst]; exact k) e
  | partReset src x => exact of_next (h.takeRequest _ _ _ fun _ => .startUp p _ _) e
  | powerOn => exact of_next (DoorsSound.startUp p _ _) e
  | supplyDip => exact of_next (DoorsSound.startUp p _ _) e
  | resetLineAsserted => exact of_next (DoorsSound.resetAll p _ _ (by decide)) e
  | resetLineReleased => exact of_next (kept fun _ => .startUp p _ _) e
  | startingEnd =>
    refine of_next (kept fun starting d => ?_) e
    have before := h d
    have still : (s.phase = .running) = False := by rw [starting]; decide
    have begun : (s.beginWork.phase = .running) = True := eq_true <| by
      have ground : ((s.loadTables.startCycle 0).judgeLoops.takeFire).ground = s.loadTables.ground := by simp
      exact (congrArg Ground.phase ground).trans (congrArg State.phase s.loadTables_frame)
    rw [still] at before
    rw [begun]
    exact before.beginWork
  | fireChange level =>
    have pinned : DoorsSound p { s with firePin := level } := h
    refine of_next ?_ e
    split
    · exact pinned.of_ground (State.takeFire_ground _) fun k => k.takeFire
    · exact pinned
  | ringCopyReceived port copy => exact of_next (kept (u := { s with drm := s.drm.takeCopy port copy }) fun _ => h) e
  | cycleClose order =>
    exact of_next (kept fun running => h.working (s.closeCycle_ground order) fun k => k.closeCycle running order) e
  | motionTimeout c => exact of_next (h.of_ground (s.motionExpiry_ground c) fun k => k.motionExpiry c) e
  | lockProofTimeout c => exact of_next (h.of_ground (s.lockProofExpiry_ground c) fun k => k.lockProofExpiry c) e
  | recloseTimeout c => exact of_next (h.of_ground (s.recloseExpiry_ground c) fun k => k.recloseExpiry c) e
  | proofTimeout b => exact of_next (kept fun _ => h.of_ground (by simp) fun k => (k.setBerth b _).raise _ _ _) e
  | autoSnapshotTimeout =>
    refine of_next ?_ e
    split
    · exact h
    · have stopped : DoorsSound p { s with er := { s.er with autoTimer := .stopped } } := h
      exact stopped.of_ground rfl fun k => k.takeSnapshot
  | supplyFall => exact of_next (DoorsSound.resetAll p _ _ (by decide)) e

/-- Settles O57: whatever writes a door's record in its state enters another by the acts of R119 to R135, which leave a good record
in service as the door's entry and key have it; the load gives each door its service; and every reset leaves the reset records. -/
theorem doorInvKept : Obligations.DoorInvKept := by
  intro s t inv e
  have before : DoorsSound (ServiceInv s) s := doorsSound_iff.mpr ⟨inv, id⟩
  rcases step_cases e with ⟨c, rest, -, carried⟩ | ⟨-, rfl⟩
  · exact doorsSound_iff.mp (exec_keeps_doors (s := { s with pending := rest }) c before carried)
  · exact ⟨inv, id⟩

end Sys2Proof.Machine

namespace Sys2Proof.Machine

/-! # DOOR_QUERY (R139) -/

/-- A door number in range names its door. -/
theorem doorAt_named {p : List Byte} (good : u8 p 0 ≤ 47) : doorAt p 0 = some (Fin.ofNat 48 (u8 p 0)) := by
  obtain ⟨d, named, val⟩ := doorAt_some good
  rw [named]
  exact congrArg some (Fin.ext (by simp [val]; omega))

/-- Settles O32: the door number is checked, and the record answered. -/
theorem doorQueryReads : Obligations.DoorQueryReads := by
  intro s src p taken
  refine ⟨fun bad => exec_refusesRange taken ?_, fun good => congrArg _ (State.takeRequest_accepted taken ?_)⟩
  · unfold State.doorQuery
    rw [doorAt_none bad]
  · unfold State.doorQuery
    rw [doorAt_named good]
    rfl

/-! # One reason at one door (R119, R120) -/

/-- A door that is UNKNOWN, RELEASED_MANUAL or in FAULT waits, whatever its reasons become. -/
theorem Door.withReasons_waits {r : Door} (waits : r.state = .unknown ∨ r.state = .releasedManual ∨ r.state = .fault)
    (m : MotionLimits) (n : Reasons) : r.withReasons m n = { r with reasons := n } := by
  unfold Door.withReasons Door.reasonsArise Door.reasonsCease
  rw [if_neg (by rcases waits with e | e | e <;> rw [e] <;> decide)]
  rcases waits with e | e | e <;> simp only [e, ite_self]

/-- A moving or HELD door that is driven open counts no cycle (R136). -/
theorem Door.withReasons_reopens_counters {r : Door} (m : MotionLimits) {n : Reasons} (none : r.reasons = .empty) (some : n ≠ .empty)
    (state : r.state = .closing ∨ r.state = .reopening ∨ r.state = .held) : (r.withReasons m n).counters = r.counters := by
  unfold Door.withReasons Door.reasonsArise
  rw [if_neg (by rcases state with e | e | e <;> rw [e] <;> decide), if_pos ⟨none, some⟩]
  rcases state with e | e | e <;> simp only [e] <;> rfl

/-- Settles O34: by what the change makes of the reason set, and by the state it finds. -/
theorem reasonsDriveDoor : Obligations.ReasonsDriveDoor := by
  intro s d k r on off
  have given : on = r.withReasons (s.limits d) (r.reasons.put true k) := s.putReason_door d true k
  have taken : off = r.withReasons (s.limits d) (r.reasons.put false k) := s.putReason_door d false k
  have some : r.reasons.put true k ≠ .empty := Reasons.put_ne_empty _ k
  refine ⟨fun v d' ne => s.putReason_other d d' v k ne,
    fun out => ⟨State.putReason_out out true k, State.putReason_out out false k⟩,
    fun serves => ⟨State.putReason_reasons serves true k, State.putReason_reasons serves false k⟩,
    fun none => ⟨fun closed => ?_, fun moving => ?_, fun waits => ?_⟩, fun held none => ⟨fun motion => ?_, fun waits => ?_⟩,
    fun serves ⟨held, _⟩ => ?_⟩
  · rw [given]
    exact Door.withReasons_opens _ closed none some
  · rw [given]
    obtain ⟨state, order, count⟩ := Door.withReasons_reopens (s.limits d) none some moving
    exact ⟨state, order, count, Door.withReasons_reopens_counters _ none some moving⟩
  · rw [given, Door.withReasons_waits waits]
  · rw [taken, none, Door.withReasons_ceases _ held motion]
    exact ⟨rfl, rfl, rfl⟩
  · rw [taken, none]
    rcases waits with held | waits
    · exact Door.withReasons_held _ held
    · exact Door.withReasons_waits waits _ _
  · rw [given]
    exact Door.withReasons_stays _ ⟨fun empty => absurd empty held, fun empty => absurd empty some⟩ serves

end Sys2Proof.Machine

namespace Sys2Proof.Machine

/-! # A trip at the record (R146 to R149) -/

/-- The record of a door in which a trip was counted: E stands at half the limit. -/
def Door.strained (r : Door) (c : DriveClass) : Door := ({ r with effort := c.limit / 2 } : Door).count DoorCounters.incEffortTrips

/-- What a trip makes of a door's record, by its state. -/
def Door.tripped (r : Door) (m : MotionLimits) (reopenLimit : Nat) : Door :=
  match r.state with
  | .closing => if r.reopenCount < reopenLimit then r.enterReopening m else r.enterHeld .obstructed
  | .opening | .reopening => r.enterHeld .openTrip
  | .closed | .opened | .held | .releasedManual => r.enterFault .driveOverload
  | .fault | .unknown | .outOfService => r

section
variable (r : Door) (m : MotionLimits) (limit : Nat)

theorem Door.tripped_keeps : (r.tripped m limit).effort = r.effort ∧ (r.tripped m limit).reasons = r.reasons
    ∧ (r.tripped m limit).counters.effortTrips = r.counters.effortTrips := by
  unfold Door.tripped
  split
  case h_1 => split <;> exact ⟨rfl, rfl, rfl⟩
  all_goals exact ⟨rfl, rfl, rfl⟩

variable {r}

theorem Door.tripped_reopens (closing : r.state = .closing) (below : r.reopenCount < limit) :
    r.tripped m limit = r.enterReopening m := by
  unfold Door.tripped; rw [closing]; exact if_pos below
theorem Door.tripped_obstructed (closing : r.state = .closing) (reached : limit ≤ r.reopenCount) :
    r.tripped m limit = r.enterHeld .obstructed := by
  unfold Door.tripped; rw [closing]; exact if_neg (Nat.not_lt.mpr reached)
theorem Door.tripped_holds (opens : r.state = .opening ∨ r.state = .reopening) : r.tripped m limit = r.enterHeld .openTrip := by
  unfold Door.tripped; rcases opens with e | e <;> rw [e]
theorem Door.tripped_faults (stands : r.state = .closed ∨ r.state = .opened ∨ r.state = .held ∨ r.state = .releasedManual) :
    r.tripped m limit = r.enterFault .driveOverload := by
  unfold Door.tripped; rcases stands with e | e | e | e <;> rw [e]
theorem Door.tripped_faulted (fault : r.state = .fault) : r.tripped m limit = r := by
  unfold Door.tripped; rw [fault]

end

/-- A trip writes the record and offers what its act offers. -/
theorem State.tripDoor_eq_tell (s : State) (d : DoorNo) : ∃ ts : List Telegram,
    s.tripDoor d = (s.setDoor d ((s.door d).tripped (s.limits d) s.settings.reopenLimit)).tell ts := by
  unfold State.tripDoor
  split
  case h_1 closing =>
    have moves : ¬ (s.door d).state ≠ .closing := not_not.mpr closing
    unfold State.reopenOrHold
    dsimp only
    rw [if_neg moves]
    by_cases below : (s.door d).reopenCount < s.settings.reopenLimit
    · rw [if_pos below, Door.tripped_reopens _ _ closing below]
      exact ⟨[], (State.tell_nil _).symm⟩
    · rw [if_neg below, Door.tripped_obstructed _ _ closing (Nat.not_lt.mp below), State.raise_eq_tell]
      exact ⟨_, rfl⟩
  case h_2 opens | h_3 opens =>
    rw [Door.tripped_holds _ _ (by simp [opens])]
    exact ⟨[], (State.tell_nil _).symm⟩
  case h_4 stands | h_5 stands | h_6 stands | h_7 stands =>
    rw [Door.tripped_faults _ _ (by simp [stands]), State.faultDoor_eq_tell s d (by decide)]
    exact ⟨_, rfl⟩
  case h_8 rests | h_9 rests | h_10 rests =>
    have same : (s.door d).tripped (s.limits d) s.settings.reopenLimit = s.door d := by unfold Door.tripped; rw [rests]
    rw [same, State.setDoor_self]
    exact ⟨[], (State.tell_nil _).symm⟩

theorem TripCause.code_eq (hard : Prop) [Decidable hard] :
    (if hard then TripCause.hard else TripCause.soft).code = if hard then 0 else 1 := by split <;> rfl

/-- An event is its act, handed over or not (R116). -/
theorem State.doorEvent_cases (s : State) (d : DoorNo) (f : State → State) :
    s.doorEvent d f = f s ∨ s.doorEvent d f = (f s).handDoor d := by
  unfold State.doorEvent
  split
  · exact .inl rfl
  · exact .inr rfl

/-- The act of a trip, before its hand-over. -/
def State.tripAct (s : State) (d : DoorNo) (c : DriveClass) (cause : TripCause) (i : Nat) : State :=
  let u := s.setDoor d ((s.door d).strained c)
  (u.raise .effortTrip d.val (enc1 cause.code ++ enc1 i ++ enc1 (u.door d).state.code)).tripDoor d

theorem State.trip_eq (s : State) (d : DoorNo) (c : DriveClass) (cause : TripCause) (i : Nat) :
    s.trip d c cause i = s.doorEvent d fun s => s.tripAct d c cause i := rfl

/-- A trip is one event on the record: it is counted, told by EFFORT_TRIP, and acts by the door's state (R146). -/
theorem State.trip_event (s : State) (d : DoorNo) (c : DriveClass) (cause : TripCause) (i : Nat) :
    ((s.trip d c cause i).door d = ((s.door d).strained c).tripped (s.limits d) s.settings.reopenLimit)
      ∧ (∀ d' : DoorNo, d' ≠ d → (s.trip d c cause i).door d' = s.door d')
      ∧ ∃ ts : List Telegram, Tells s (s.trip d c cause i)
          (s.eventOf .effortTrip d.val (enc1 cause.code ++ enc1 i ++ enc1 (s.door d).state.code) ++ ts) := by
  let told := s.eventOf .effortTrip d.val (enc1 cause.code ++ enc1 i ++ enc1 (s.door d).state.code)
  let u := (s.setDoor d ((s.door d).strained c)).tell told
  have strained : u.door d = (s.door d).strained c := (State.tell_door ..).trans (State.door_setDoor_same ..)
  obtain ⟨ts, tripped⟩ := u.tripDoor_eq_tell d
  rw [strained, show u.limits d = s.limits d from rfl, show u.settings = s.settings from rfl] at tripped
  have act : s.tripAct d c cause i = u.tripDoor d := by
    unfold State.tripAct
    dsimp only
    rw [State.raise_eq_tell, State.door_setDoor_same]
    rfl
  have record : ∀ d' : DoorNo, (s.trip d c cause i).door d' = (u.tripDoor d).door d' := fun d' => by
    rw [State.trip_eq, State.doorEvent_door, act]
  refine ⟨?_, fun d' ne => ?_, ?_⟩
  · rw [record, tripped, State.tell_door, State.door_setDoor_same]
  · rw [record, tripped, State.tell_door, State.door_setDoor_ne _ _ ne, State.tell_door, State.door_setDoor_ne _ _ ne]
  · have worked : SlotWorked d u (s.trip d c cause i) := by
      have moved : SlotWorked d u (u.tripDoor d) := tripped ▸ .setDoor_tell d u _ ts
      rcases s.doorEvent_cases d (fun s => s.tripAct d c cause i) with e | e <;> rw [State.trip_eq, e, act]
      · exact moved
      · exact moved.trans (.handDoor _ d)
    obtain ⟨us, rest⟩ := worked.told
    have first : Tells s u told := ⟨rfl, rfl⟩
    exact ⟨us, tells_append first rest⟩

/-! # One current sample (R141 to R146) -/

theorem DoorState.takesSample_iff {x : DoorState} : x.takesSample = false ↔ x = .unknown ∨ x = .outOfService := by
  cases x <;> simp [DoorState.takesSample]

section
variable {s : State} {d : DoorNo} {i : Nat} {c : DriveClass} (loaded : s.driveClass d = some c)
include loaded

theorem State.takeCurrent_discards (rests : (s.door d).state = .unknown ∨ (s.door d).state = .outOfService) :
    s.takeCurrent d i = s := by
  unfold State.takeCurrent
  rw [loaded]
  exact if_pos (DoorState.takesSample_iff.mpr rests)

variable (takes : ¬ ((s.door d).state = .unknown ∨ (s.door d).state = .outOfService))
include takes

theorem State.takeCurrent_blanks (blank : 0 < (s.door d).blank) : s.takeCurrent d i = s.setDoor d { s.door d with
    blank := (s.door d).blank - 1
    effort := if i ≤ c.iNom then coolEffort (s.door d).effort c i else (s.door d).effort } := by
  unfold State.takeCurrent
  rw [loaded]
  exact (if_neg (mt DoorState.takesSample_iff.mp takes)).trans (if_pos blank)

variable (ready : (s.door d).blank = 0)
include ready

theorem State.takeCurrent_judges : s.takeCurrent d i =
    if c.iHard ≤ i then s.trip d c .hard i
    else if c.iNom < i then
      if heatEffort (s.door d).effort c i = c.limit then s.trip d c .soft i
      else s.setDoor d { s.door d with effort := heatEffort (s.door d).effort c i }
    else s.setDoor d { s.door d with effort := coolEffort (s.door d).effort c i } := by
  unfold State.takeCurrent
  rw [loaded]
  exact (if_neg (mt DoorState.takesSample_iff.mp takes)).trans (if_neg (by omega))

/-- A sample trips by hard current, or by heat that reaches the limit. -/
theorem State.takeCurrent_trips (trips : c.iHard ≤ i ∨ (c.iNom < i ∧ c.limit ≤ (s.door d).effort + i ^ 2 - c.iNom ^ 2)) :
    s.takeCurrent d i = s.trip d c (if c.iHard ≤ i then .hard else .soft) i := by
  rw [State.takeCurrent_judges loaded takes ready]
  split
  · rfl
  next below =>
    obtain ⟨hot, reached⟩ := trips.resolve_left below
    rw [if_pos hot]
    exact if_pos (Nat.min_eq_left reached)

theorem State.takeCurrent_heats (below : i < c.iHard) (hot : c.iNom < i)
    (under : (s.door d).effort + i ^ 2 - c.iNom ^ 2 < c.limit) :
    s.takeCurrent d i = s.setDoor d { s.door d with effort := (s.door d).effort + i ^ 2 - c.iNom ^ 2 } := by
  have heat : heatEffort (s.door d).effort c i = (s.door d).effort + i ^ 2 - c.iNom ^ 2 := Nat.min_eq_right under.le
  rw [State.takeCurrent_judges loaded takes ready, if_neg (by omega), if_pos hot, heat]
  exact if_neg under.ne

theorem State.takeCurrent_cools (below : i < c.iHard) (cold : i ≤ c.iNom) :
    s.takeCurrent d i = s.setDoor d { s.door d with effort := coolEffort (s.door d).effort c i } := by
  rw [State.takeCurrent_judges loaded takes ready, if_neg (by omega), if_neg (by omega)]

end

/-- Settles O36: a sample that is taken blanks, trips, heats or cools; a trip is one event at the record. -/
theorem effortSample : Obligations.EffortSample := by
  intro s d i c loaded r t trips
  have other : ∀ (q : Door) (d' : DoorNo), d' ≠ d → (s.setDoor d q).door d' = s.door d' := fun q _ ne => s.door_setDoor_ne q ne
  have same : ∀ q : Door, (s.setDoor d q).door d = q := fun q => s.door_setDoor_same d q
  refine ⟨State.takeCurrent_discards loaded, fun known serves => ?_, fun d' ne => ?_⟩
  · have takes : ¬ (r.state = .unknown ∨ r.state = .outOfService) := not_or.mpr ⟨known, serves⟩
    refine ⟨fun blank => ?_, fun ready _ => ?_⟩
    · have e : t = _ := congrArg (State.door · d) (State.takeCurrent_blanks loaded takes blank)
      rw [e, same]
      exact ⟨rfl, rfl, rfl⟩
    have tripped : trips → t = (r.strained c).tripped (s.limits d) s.settings.reopenLimit := fun trip =>
      (congrArg (State.door · d) (State.takeCurrent_trips loaded takes ready trip)).trans (s.trip_event d c _ i).1
    have counts : trips → t.effort = c.limit / 2 ∧ t.counters.effortTrips = min 65535 (r.counters.effortTrips + 1) := fun trip => by
      obtain ⟨effort, -, count⟩ := (r.strained c).tripped_keeps (s.limits d) s.settings.reopenLimit
      rw [tripped trip, effort, count]
      exact ⟨rfl, rfl⟩
    refine ⟨fun hard => counts (.inl hard), fun _ hot reached => counts (.inr ⟨hot, reached⟩), fun below hot under => ?_,
      fun cold => ?_, fun trip => ?_⟩
    · exact (congrArg (State.door · d) (State.takeCurrent_heats loaded takes ready below hot under)).trans (same _)
    · exact (congrArg (State.door · d) (State.takeCurrent_cools loaded takes ready (by omega) cold)).trans (same _)
    · obtain ⟨-, reasons, -⟩ := (r.strained c).tripped_keeps (s.limits d) s.settings.reopenLimit
      rw [State.takeCurrent_trips loaded takes ready trip, tripped trip]
      refine ⟨reasons, ?_, fun closing below => ?_, fun closing reached => ?_, fun opens => ?_, fun stands => ?_, fun fault => ?_⟩
      · rw [← TripCause.code_eq]
        exact (s.trip_event d c _ i).2.2
      · rw [Door.tripped_reopens (r := r.strained c) _ _ closing below]
        exact ⟨rfl, rfl, rfl, rfl⟩
      · rw [Door.tripped_obstructed (r := r.strained c) _ _ closing reached]
        exact ⟨rfl, rfl, rfl, rfl⟩
      · rw [Door.tripped_holds (r := r.strained c) _ _ opens]
        exact ⟨rfl, rfl, rfl, rfl, rfl, rfl⟩
      · rw [Door.tripped_faults (r := r.strained c) _ _ stands]
        exact ⟨rfl, rfl, rfl, rfl⟩
      · rw [Door.tripped_faulted (r := r.strained c) _ _ fault]
        exact ⟨fault, rfl, rfl⟩
  · unfold State.takeCurrent
    rw [loaded]
    dsimp only
    split; · rfl
    split; · exact other _ d' ne
    split; · exact (s.trip_event d c _ i).2.1 d' ne
    split
    · split
      · exact (s.trip_event d c _ i).2.1 d' ne
      · exact other _ d' ne
    · exact other _ d' ne

end Sys2Proof.Machine

namespace Sys2Proof.Machine

/-! # What the hand-over of a changed door tells (R116, R205, R206) -/

/-- An act that told `ts` and changed no other door and no berth's state, handed over: the door's DOOR_CHANGE comes last, and every
change is told. -/
theorem State.handDoor_announces {s u : State} {d : DoorNo} {ts : List Telegram} (told : Tells s u ts)
    (others : ∀ c : DoorNo, c ≠ d → u.door c = s.door c) (berths : ∀ b : BerthId, (u.berth b).state = (s.berth b).state) :
    ∃ mid : List Telegram, Tells s (u.handDoor d) (ts ++ mid ++ (u.handDoor d).doorChange d)
      ∧ ChangesTold s (u.handDoor d) (ts ++ mid ++ (u.handDoor d).doorChange d) := by
  obtain ⟨v, worked, handed, e⟩ := u.handDoor_before_report d
  obtain ⟨mid, between⟩ := worked.told
  have mask : (v.reportDoor d).er.mask = v.er.mask := by rw [State.reportDoor_eq]
  have door : ∀ c, (v.reportDoor d).door c = v.door c := fun c => by rw [State.reportDoor_eq]; rfl
  have berth : ∀ b, (v.reportDoor d).berth b = v.berth b := v.reportDoor_berth d
  have flag : (v.reportDoor d).er.doorFlags[d] = true := by rw [State.reportDoor_eq]; simp
  have berthFlag : ∀ b, (v.reportDoor d).er.berthFlag b = v.er.berthFlag b := fun b => by
    rw [State.reportDoor_eq]; cases b <;> rfl
  have change : v.doorChange d = (v.reportDoor d).doorChange d := (State.doorChange_congr mask (by rw [door])).symm
  have report : Tells v (v.reportDoor d) ((v.reportDoor d).doorChange d) := by
    rw [← change, State.reportDoor_eq]
    exact ⟨rfl, rfl⟩
  rw [e]
  refine ⟨mid, tells_append (tells_append told between.tells) report, fun c changed => ?_, fun b changed => ?_⟩
  · by_cases same : c = d
    · rw [same]
      exact ⟨flag, List.subset_append_right _ _⟩
    · refine absurd ?_ changed
      rw [door, handed.door, others c same]
  · rw [berth] at changed
    rw [berthFlag, berth, State.berthChange_congr mask (berth b)]
    obtain ⟨flagged, moved, status⟩ := (between.berths b (by simp)).resolve_left fun same => changed (by rw [same, berths])
    have shown : mid ⊆ ts ++ mid ++ (v.reportDoor d).doorChange d :=
      List.subset_append_of_subset_left _ (List.subset_append_right _ _)
    exact ⟨flagged, List.Subset.trans moved shown, shown status⟩

/-- One event on a door's record that changes its standing and offers telegrams: they come first, and the DOOR_CHANGE last. -/
theorem State.doorEvent_announces {s : State} {d : DoorNo} {f : State → State} {r : Door} {ts : List Telegram}
    (act : f s = (s.setDoor d r).tell ts) (changed : r.standing ≠ (s.door d).standing) :
    ∃ mid : List Telegram, Tells s (s.doorEvent d f) (ts ++ mid ++ (s.doorEvent d f).doorChange d)
      ∧ ChangesTold s (s.doorEvent d f) (ts ++ mid ++ (s.doorEvent d f).doorChange d) := by
  have record : (f s).door d = r := by rw [act, State.tell_door, State.door_setDoor_same]
  have event : s.doorEvent d f = (f s).handDoor d := if_neg (by rw [record]; exact changed)
  rw [event]
  refine State.handDoor_announces ?_ (fun c ne => ?_) fun b => ?_
  · rw [act]; exact ⟨rfl, rfl⟩
  · rw [act, State.tell_door, State.door_setDoor_ne _ _ ne]
  · rw [act, State.tell_berth]; cases b <;> rfl

/-- The records of one event on a door's record that offers telegrams. -/
theorem State.doorEvent_records {s : State} {d : DoorNo} {f : State → State} {r : Door} {ts : List Telegram}
    (act : f s = (s.setDoor d r).tell ts) : (s.doorEvent d f).door d = r
      ∧ (∀ d' : DoorNo, d' ≠ d → (s.doorEvent d f).door d' = s.door d') ∧ DoorsAndBerthsOnly s (s.doorEvent d f) := by
  refine ⟨?_, fun d' ne => ?_, ?_⟩
  · rw [State.doorEvent_door, act, State.tell_door, State.door_setDoor_same]
  · rw [State.doorEvent_door, act, State.tell_door, State.door_setDoor_ne _ _ ne]
  · have wrote : DoorsAndBerthsOnly s (f s) := by
      rw [act]
      exact ⟨rfl, s.lli.offers_queueOnly ts, rfl⟩
    exact doorsAndBerthsOnly_trans wrote (s.doorEvent_handed d f).doorsAndBerthsOnly

/-! # The door timers (R121, R123, R126) -/

theorem State.zone_occupied_iff (s : State) (d : DoorNo) (z : ZoneId) :
    (s.zone d z).map ZoneRec.state = some .occupied ↔ s.zoneState d z = .occupied := by
  unfold State.zoneState
  cases (s.zone d z).map ZoneRec.state <;> simp

theorem ZoneId.outer {z : ZoneId} (outer : z.isGap = false) : z = .th ∨ z = .ed := by revert outer; cases z <;> decide

theorem freeDoorway_iff (s : State) (d : DoorNo) : FreeDoorway s d ↔ s.doorwayFree d = true := by
  have free : ∀ z : ZoneId, ((s.zone d z).map ZoneRec.state != some .occupied) = true ↔ s.zoneState d z ≠ .occupied := fun z => by
    rw [bne_iff_ne, ne_eq, State.zone_occupied_iff]
  unfold State.doorwayFree FreeDoorway
  simp only [List.all_eq_true, Bool.or_eq_true, Bool.and_eq_true, free, bne_iff_ne]
  constructor
  · rintro ⟨threshold, edge, gaps⟩ z -
    cases gap : z.isGap with
    | true =>
      by_cases response : (s.sensing d).map SensingProfile.gapResponse = some .reopen
      · exact .inr (gaps response z gap)
      · exact .inl ⟨rfl, response⟩
    | false => exact .inr ((ZoneId.outer gap).elim (fun e => e ▸ threshold) fun e => e ▸ edge)
  · intro all
    refine ⟨?_, ?_, fun response z gap => ?_⟩
    · exact (all .th (mem_allZoneIds _)).resolve_left fun h => absurd h.1 (by decide)
    · exact (all .ed (mem_allZoneIds _)).resolve_left fun h => absurd h.1 (by decide)
    · exact (all z (mem_allZoneIds z)).resolve_left fun h => h.2 response

/-- A timer's fault is one event that offers DOOR_FAULT (R130). -/
theorem State.faultEvent {s : State} {d : DoorNo} {c : FaultCause} (notLost : c ≠ .commLost) :
    let t := s.doorEvent d fun s => s.faultDoor d c
    t.door d = (s.door d).enterFault c
      ∧ ((s.door d).state ≠ .fault → ∃ mid : List Telegram,
          Tells s t (s.eventOf .doorFault d.val (enc1 c.code) ++ mid ++ t.doorChange d)
          ∧ ChangesTold s t (s.eventOf .doorFault d.val (enc1 c.code) ++ mid ++ t.doorChange d))
      ∧ (∀ d' : DoorNo, d' ≠ d → t.door d' = s.door d') ∧ DoorsAndBerthsOnly s t := by
  have act := s.faultDoor_eq_tell d notLost
  obtain ⟨record, others, only⟩ := State.doorEvent_records (f := fun s => s.faultDoor d c) act
  refine ⟨record, fun changes => ?_, others, only⟩
  exact State.doorEvent_announces (f := fun s => s.faultDoor d c) act fun same => changes (congrArg Prod.fst same).symm

/-- What the reclose timer's expiry does to its door, before the hand-over. -/
def State.recloseAct (s : State) (d : DoorNo) : State :=
  if s.doorwayFree d then s.setDoor d ((s.door d).enterClosing (s.limits d))
  else s.setDoor d { s.door d with reclose := .running s.settings.recloseDelay }

theorem State.recloseExpiry_eq {s : State} {d : DoorNo} (runs : (s.door d).reclose ≠ .stopped) :
    s.recloseExpiry d = s.doorEvent d fun s => s.recloseAct d := if_neg runs

/-- Settles O33: the two faults are events of R130; a reclose is one that closes the door, or writes its timer alone. -/
theorem doorTimersExpire : Obligations.DoorTimersExpire := by
  intro s d r faulted toldAs
  refine ⟨fun runs => ⟨_, congrArg Host.Outcome.next (if_neg runs), State.faultEvent (by decide)⟩,
    fun runs => ⟨_, congrArg Host.Outcome.next (if_neg runs), State.faultEvent (by decide)⟩,
    fun runs free => ⟨s.doorEvent d fun s => s.recloseAct d, congrArg Host.Outcome.next (State.recloseExpiry_eq runs), ?_⟩,
    fun runs blocked => congrArg Host.Outcome.next ((State.recloseExpiry_eq runs).trans ?_)⟩
  · have act : s.recloseAct d = (s.setDoor d (r.enterClosing (s.limits d))).tell [] :=
      (if_pos ((freeDoorway_iff s d).mp free)).trans (State.tell_nil _).symm
    obtain ⟨record, others, only⟩ := State.doorEvent_records (f := fun s => s.recloseAct d) act
    rw [record]
    refine ⟨rfl, rfl, rfl, rfl, rfl, fun changes => ?_, others, only⟩
    exact State.doorEvent_announces (f := fun s => s.recloseAct d) act fun same => changes (congrArg Prod.fst same).symm
  · have act : s.recloseAct d = s.setDoor d { r with reclose := .running s.settings.recloseDelay } :=
      if_neg fun free => blocked ((freeDoorway_iff s d).mpr free)
    refine (State.doorEvent_same (f := fun s => s.recloseAct d) ?_).trans act
    rw [act, State.door_setDoor_same]
    rfl

end Sys2Proof.Machine

namespace Sys2Proof.Machine

/-! # DOOR_COMMAND (R137) -/

/-- DOOR_COMMAND by its fields. -/
theorem State.doorCommand_eq (s : State) (p : List Byte) : s.doorCommand p = s.unlessRefused (doorCommandRefusal s p)
    (if u8 p 1 = 0 then (s.addReason (Fin.ofNat 48 (u8 p 0)) .maint, .ok)
      else ((s.putReason (Fin.ofNat 48 (u8 p 0)) false .maint).latchReset (Fin.ofNat 48 (u8 p 0)), .ok)) := by
  have absent : ∀ k : OverrideKind, s.present k = false ↔ k ∉ s.ou.list := fun k => by
    rw [← State.present_iff, Bool.not_eq_true]
  have out : ∀ d : DoorNo, s.inService d = false ↔ (s.door d).state = .outOfService := fun d => by simp [State.inService]
  unfold State.doorCommand doorCommandRefusal
  simp only [State.unlessRefused_ite, State.unlessRefused_some, State.unlessRefused_none]
  by_cases bad : 47 < u8 p 0
  · rw [doorAt_none bad, if_pos bad]
  · rw [doorAt_named (Nat.not_lt.mp bad), if_neg bad]
    simp only [absent, out, State.present_iff]

section
variable {r : Door} (m : MotionLimits) {n : Reasons}

/-- A door driven open by its first reason begins at count 0 (R127). -/
theorem Door.withReasons_drivesOpen_count (none : r.reasons = .empty) (some : n ≠ .empty)
    (state : r.state = .closed ∨ r.state = .held) : (r.withReasons m n).reopenCount = 0 := by
  unfold Door.withReasons Door.reasonsArise
  rw [if_neg (by rcases state with e | e <;> rw [e] <;> decide), if_pos ⟨none, some⟩]
  rcases state with e | e <;> simp only [e] <;> rfl

/-- A door that neither opens nor stands open rests when its last reason goes. -/
theorem Door.withReasons_rests (serves : r.state ≠ .outOfService) (rests : r.state ≠ .opening ∧ r.state ≠ .opened) :
    r.withReasons m .empty = { r with reasons := .empty } := by
  obtain ⟨notOpening, notOpened⟩ := rests
  unfold Door.withReasons Door.reasonsCease
  rw [if_neg serves, if_neg fun h => h.2 rfl]
  split
  · dsimp only
    split
    next opening => exact absurd opening notOpening
    next opened => exact absurd opened notOpened
    next => rfl
  · rfl

/-- Reasons taken from a door that serves, and then a latch reset (R120, R129). -/
theorem Door.emptied_latchReset (serves : r.state ≠ .outOfService) (shrinks : r.reasons = .empty → n = .empty) :
    let t := (r.withReasons m n).latchReset m
    t.reasons = n ∧ t.state ≠ .held
      ∧ (n = .empty → (r.state = .opening ∨ r.state = .opened) ∧ r.reasons ≠ .empty ∨ r.state = .held →
          t.state = .closing ∧ t.order = .close ∧ t.motion = .running m.closeMs)
      ∧ (n ≠ .empty → r.state = .held → t.state = .opening ∧ t.order = .opn ∧ t.reopenCount = 0)
      ∧ (r.state ≠ .held → n ≠ .empty ∨ r.reasons = .empty ∨ (r.state ≠ .opening ∧ r.state ≠ .opened) →
          t = { r with reasons := n }) := by
  intro t
  have stays : n ≠ .empty ∨ r.reasons = .empty → r.withReasons m n = { r with reasons := n } := fun h => by
    refine Door.withReasons_stays m ⟨shrinks, fun none => h.resolve_left (not_not.mpr none)⟩ serves
  refine ⟨?_, Door.latchReset_not_held _ m, fun none state => ?_, fun some held => ?_, fun notHeld rest => ?_⟩
  · rw [Door.latchReset_reasons, Door.withReasons_reasons, if_neg serves]
  · subst none
    rcases state with ⟨motion, reasons⟩ | held
    · have closes : r.withReasons m .empty = _ := Door.withReasons_ceases m reasons motion
      have closing : t = ({ r with reasons := .empty } : Door).enterClosing m := by
        rw [← closes]
        exact Door.latchReset_keeps m (by rw [closes]; exact DoorState.noConfusion)
      rw [closing]
      exact ⟨rfl, rfl, rfl⟩
    · have closing : t = _ := (congrArg (Door.latchReset · m) (Door.withReasons_held m held)).trans (Door.latchReset_closes m held rfl)
      rw [closing]
      exact ⟨rfl, rfl, rfl⟩
  · have opening : t = _ := (congrArg (Door.latchReset · m) (stays (.inl some))).trans (Door.latchReset_opens m held some)
    rw [opening]
    exact ⟨rfl, rfl, rfl⟩
  · have kept : r.withReasons m n = { r with reasons := n } := by
      by_cases same : n ≠ .empty ∨ r.reasons = .empty
      · exact stays same
      · obtain ⟨none, reasons⟩ := not_or.mp same
        rw [not_not.mp none]
        exact Door.withReasons_rests m serves ((rest.resolve_left none).resolve_left reasons)
    exact (congrArg (Door.latchReset · m) kept).trans (Door.latchReset_keeps m notHeld)

end

/-- What works the doors behind a request. -/
theorem Worked.requested {s t : State} (h : Worked s.popRequest t) :
    DoorsAndBerthsOnly s t ∧ ∃ ts : List Telegram, Tells s.popRequest t ts ∧ ChangesTold s t ts := by
  obtain ⟨ts, told⟩ := h.told
  obtain ⟨doors, berths⟩ := told.changesTold_all
  refine ⟨doorsAndBerthsOnly_of_popRequest told.only, ts, told.tells, doors, fun b moved => berths b ?_⟩
  rw [State.popRequest_berth]
  exact moved

/-- A DOOR_COMMAND that passes its checks names OPEN or CLOSE and a door in service. -/
theorem doorCommandRefusal_none {s : State} {p : List Byte} (passes : doorCommandRefusal s p = none) :
    u8 p 1 ≤ 1 ∧ (s.door (Fin.ofNat 48 (u8 p 0))).state ≠ .outOfService := by
  unfold doorCommandRefusal at passes
  split at passes; · cases passes
  split at passes; · cases passes
  next known =>
    split at passes; · cases passes
    split at passes; · cases passes
    split at passes; · cases passes
    next serves => exact ⟨Nat.not_lt.mp known, serves⟩

/-- Settles O30: OPEN gives MAINT; CLOSE takes it and resets the latch. -/
theorem doorCommandActs : Obligations.DoorCommandActs := by
  intro s src p taken d r
  refine ⟨fun c f refused => ?_, fun passes => ?_⟩
  · have same : doorCommandRefusal s.popRequest p = some (c, f) := refused
    refine exec_refuses taken ((State.doorCommand_eq _ p).trans ?_)
    rw [same, State.unlessRefused_some]
  obtain ⟨known, serves⟩ : u8 p 1 ≤ 1 ∧ r.state ≠ .outOfService := doorCommandRefusal_none passes
  have owner : s.popRequest.doorCommand p = _ := (State.doorCommand_eq _ p).trans
    (congrArg (State.unlessRefused _ · _) (show doorCommandRefusal s.popRequest p = none from passes))
  rw [State.unlessRefused_none] at owner
  by_cases opens : u8 p 1 = 0
  · rw [if_pos opens] at owner
    have door : (s.popRequest.addReason d .maint).door d = r.withReasons (s.limits d) (r.reasons.put true .maint) :=
      s.popRequest.putReason_door d true .maint
    obtain ⟨only, told⟩ := (s.popRequest.addReason_worked d .maint).requested
    refine ⟨s.popRequest.addReason d .maint, exec_accepts taken owner,
      fun d' ne => s.popRequest.putReason_other d d' true .maint ne, only, told, fun _ => ?_, fun closes => by omega⟩
    rw [door]
    have some : r.reasons.put true .maint ≠ .empty := Reasons.put_ne_empty _ _
    refine ⟨(Door.withReasons_reasons ..).trans (if_neg serves), fun none state => ?_, fun waits => ?_⟩
    · obtain ⟨opening, order⟩ := Door.withReasons_drivesOpen (m := s.limits d) none some state
      exact ⟨opening, order, Door.withReasons_drivesOpen_count _ none some state⟩
    · rw [Door.withReasons_waits (by tauto)]
  · rw [if_neg opens] at owner
    let u := s.popRequest.putReason d false .maint
    have worked := s.popRequest.putReason_worked d false .maint
    have door : (u.latchReset d).door d = (r.withReasons (s.limits d) { r.reasons with maint := false }).latchReset (s.limits d) := by
      rw [State.latchReset_door, State.limits_congr worked.ts, State.putReason_door]
      rfl
    obtain ⟨only, told⟩ := (worked.trans (u.latchReset_worked d)).requested
    refine ⟨u.latchReset d, exec_accepts taken owner, fun d' ne => ?_, only, told, fun e => absurd e opens, fun _ => ?_⟩
    · exact (u.latchReset_other ne).trans (s.popRequest.putReason_other d d' false .maint ne)
    · rw [door]
      have shrinks : r.reasons = .empty → ({ r.reasons with maint := false } : Reasons) = .empty := fun none => by rw [none]; rfl
      exact Door.emptied_latchReset (s.limits d) serves shrinks

end Sys2Proof.Machine

namespace Sys2Proof.Machine

/-! # A stuck clear, zone by zone (R161) -/

/-- A zone's record once it is cleared, if it is STUCK with few enough samples set. -/
def ZoneRec.unstuck (p : Option SensingProfile) (x : ZoneRec) : ZoneRec :=
  match p with
  | some p => if x.state = .stuck ∧ x.count ≤ p.kOff then { x with state := .clear, run := 0 } else x
  | none => x

theorem ZoneRec.unstuck_free {x : ZoneRec} (p : Option SensingProfile) (free : x.state ≠ .stuck) : x.unstuck p = x := by
  cases p with
  | none => rfl
  | some p => exact if_neg fun h => free h.1
theorem ZoneRec.unstuck_stuck {x : ZoneRec} (p : SensingProfile) (stuck : x.state = .stuck) :
    x.unstuck (some p) = if x.count ≤ p.kOff then { x with state := .clear, run := 0 } else x := by
  simp only [ZoneRec.unstuck, stuck, true_and]

theorem State.clearZone_zones (s : State) (d : DoorNo) (z : ZoneId) :
    (s.clearZone d z).zones = (s.setZone d z ((s.zone d z).map (ZoneRec.unstuck (s.sensing d)))).zones := by
  have self : s.setZone d z (s.zone d z) = s := s.setZone_self d z
  unfold State.clearZone
  split
  next r p zone sensing =>
    rw [zone, sensing]
    show _ = (s.setZone d z (some (r.unstuck (some p)))).zones
    unfold ZoneRec.unstuck
    dsimp only
    split
    · exact (State.handGap_handed _ d z).zones
    · rw [← zone, self]
  next nothing =>
    have same : (s.zone d z).map (ZoneRec.unstuck (s.sensing d)) = s.zone d z := by
      cases zone : s.zone d z with
      | none => rfl
      | some r =>
        cases sensing : s.sensing d with
        | none => rfl
        | some p => exact absurd sensing (nothing r p zone)
    rw [same, self]

theorem State.clearZone_worked (s : State) (d : DoorNo) (z : ZoneId) : ZonesWorked s (s.clearZone d z) := by
  rcases s.clearZone_cases d z with e | ⟨r, r', -, -, e⟩
  · rw [e]; exact .refl s
  · rw [e]; exact .setZone_handGap s d z _

/-- Each zone's record after a stuck clear. -/
theorem State.stuckClear_cleared (s : State) (d : DoorNo) (z : ZoneId) :
    (s.stuckClear d).zone d z = (s.zone d z).map (ZoneRec.unstuck (s.sensing d)) := by
  rw [State.stuckClear_eq, foldl_each (fun (t : State) z => t.zone d z) (fun t => t.sensing d) (fun t z => t.clearZone d z)
    (fun _ r => r.map (ZoneRec.unstuck (s.sensing d))) (by decide) (fun t z => State.sensing_congr (t.clearZone_worked d z).ts d)
    (fun t same y _ => ?_) (fun t y x ne => ?_) z, if_pos (mem_allZoneIds z)]
  · rw [State.zone_congr (t.clearZone_zones d y), State.zone_setZone_same, same]
  · rw [State.zone_congr (t.clearZone_zones d y), State.zone_setZone_ne _ _ _ ne]

/-! # Acts on one door's records that are told (R116, R138) -/

/-- Every change told so far, and then what hand-overs and door events do. -/
theorem ChangesTold.trans_told {s t u : State} {ts us : List Telegram} (h : ChangesTold s t ts) (k : Told none t u us) :
    ChangesTold s u (ts ++ us) := by
  obtain ⟨doors, berths⟩ := h
  refine ⟨fun d changed => ?_, fun b changed => ?_⟩
  · rcases k.doors d with same | ⟨flag, change⟩
    · obtain ⟨flag, change⟩ := doors d (same ▸ changed)
      rw [State.doorChange_congr k.mask same]
      exact ⟨k.doorFlags d flag, List.subset_append_of_subset_left us change⟩
    · exact ⟨flag, List.subset_append_of_subset_right ts change⟩
  · rcases k.berths b (by simp) with same | ⟨flag, change, status⟩
    · obtain ⟨flag, change, status⟩ := berths b (same ▸ changed)
      rw [State.berthChange_congr k.mask same, same]
      exact ⟨k.berthFlags b flag, List.subset_append_of_subset_left us change, List.mem_append_left us status⟩
    · exact ⟨flag, List.subset_append_of_subset_right ts change, List.mem_append_right ts status⟩

/-- From `s` to `t` the records of door `d` are worked, its zones and its key among them, and every change is told. -/
structure DoorTended (d : DoorNo) (s t : State) : Prop where
  others : ∀ c : DoorNo, c ≠ d → t.door c = s.door c ∧ t.zonesOf c = s.zonesOf c
  only : DoorsAndBerthsOnly { s with zones := t.zones, ou := { s.ou with keys := t.ou.keys } } t
  told : ∃ ts : List Telegram, Tells s t ts ∧ ChangesTold s t ts

namespace DoorTended
variable {d : DoorNo} {s t u : State}

theorem refl (d : DoorNo) (s : State) : DoorTended d s s :=
  ⟨fun _ _ => ⟨rfl, rfl⟩, ⟨rfl, rfl, rfl⟩, [], Tells.refl s, fun _ changed => absurd rfl changed,
    fun _ changed => absurd rfl changed⟩

theorem trans_told (h : DoorTended d s t) {us : List Telegram} (k : Told none t u us)
    (others : ∀ c : DoorNo, c ≠ d → u.door c = t.door c) : DoorTended d s u := by
  obtain ⟨frame, -⟩ := k.only
  have zones : u.zones = t.zones := by rw [frame]
  obtain ⟨ts, tells, changes⟩ := h.told
  refine ⟨fun c ne => ⟨(others c ne).trans (h.others c ne).1, ?_⟩, ?_, ts ++ us, tells_append tells k.tells, changes.trans_told k⟩
  · refine Eq.trans ?_ (h.others c ne).2
    unfold State.zonesOf
    rw [zones]
  · rw [zones, k.ou_eq]
    exact doorsAndBerthsOnly_trans h.only k.only
theorem trans_worked (h : DoorTended d s t) (k : Worked t u)
    (others : ∀ c : DoorNo, c ≠ d → u.door c = t.door c) : DoorTended d s u := by
  obtain ⟨us, told⟩ := k.told
  exact h.trans_told told others

theorem setZone (h : DoorTended d s t) (z : ZoneId) (x : Option ZoneRec) : DoorTended d s (t.setZone d z x) := by
  obtain ⟨frame, lli, er⟩ := h.only
  refine ⟨fun c ne => ⟨(h.others c ne).1, (State.zonesOf_setZones_ne _ _ ne).trans (h.others c ne).2⟩, ⟨?_, lli, er⟩, h.told⟩
  exact congrArg (State.setZone · d z x) frame

theorem clearZone (h : DoorTended d s t) (z : ZoneId) : DoorTended d s (t.clearZone d z) := by
  rcases t.clearZone_cases d z with e | ⟨r, r', -, -, e⟩ <;> rw [e]
  · exact h
  · have written := h.setZone z (some r')
    unfold State.handGap
    split
    · exact written.trans_worked (State.handProofOfZone_worked _ _) fun c _ => (State.handProofOfZone_handed _ _).door c
    · exact written
theorem stuckClear (h : DoorTended d s t) : DoorTended d s (t.stuckClear d) := by
  rw [State.stuckClear_eq]
  generalize allZoneIds = l
  induction l generalizing t with
  | nil => exact h
  | cons z l ih => exact ih (h.clearZone z)

/-- One event at the door, whose act works its records and moves no berth to another state. -/
theorem doorEvent {f : State → State} {ts : List Telegram}
    (others : ∀ c : DoorNo, c ≠ d → (f s).door c = s.door c ∧ (f s).zonesOf c = s.zonesOf c)
    (only : DoorsAndBerthsOnly { s with zones := (f s).zones, ou := { s.ou with keys := (f s).ou.keys } } (f s))
    (tells : Tells s (f s) ts) (berths : ∀ b : BerthId, ((f s).berth b).state = (s.berth b).state) :
    DoorTended d s (s.doorEvent d f) := by
  have handed := s.doorEvent_handed d f
  refine ⟨fun c ne => ⟨(handed.door c).trans (others c ne).1, ?_⟩, ?_, ?_⟩
  · refine Eq.trans ?_ (others c ne).2
    unfold State.zonesOf
    rw [handed.zones]
  · rw [handed.zones, handed.ou]
    exact doorsAndBerthsOnly_trans only handed.doorsAndBerthsOnly
  · by_cases same : ((f s).door d).standing = (s.door d).standing
    · rw [State.doorEvent_same same]
      refine ⟨ts, tells, fun c changed => absurd ?_ changed, fun b changed => absurd (berths b) changed⟩
      by_cases e : c = d
      · rw [e]; exact same
      · rw [(others c e).1]
    · rw [show s.doorEvent d f = (f s).handDoor d from if_neg same]
      obtain ⟨mid, told⟩ := State.handDoor_announces tells (fun c ne => (others c ne).1) berths
      exact ⟨_, told⟩

end DoorTended

theorem State.leaveService_zonesOf (s : State) {d c : DoorNo} (ne : c ≠ d) : (s.leaveService d).zonesOf c = s.zonesOf c := by
  unfold State.leaveService State.leaveZones
  exact (State.zonesOf_setZones_ne _ _ ne).trans (by rw [State.dropFromBerths_eq]; rfl)

/-! ## A re-adoption (R117, R131) -/

section
variable (s : State) (d : DoorNo) (u : UnitStatus) (iso : Bool)

theorem State.readoption_tended (serves : (s.door d).state ≠ .outOfService) : DoorTended d s (s.readoption d u iso false) := by
  by_cases out : iso = true ∨ (s.pdt d).inService = false
  · let q := (s.door d).retaken u iso
    have left : s.readopt d u iso false = (s.setDoor d q).leaveService d := (s.readopt_isolated d u iso false out).trans (if_neg serves)
    refine .doorEvent (ts := []) (fun c ne => ?_) ?_ ?_ fun b => ?_
    · rw [left, State.leaveService_other _ ne, State.leaveService_zonesOf _ ne, State.door_setDoor_ne _ _ ne]
      exact ⟨rfl, rfl⟩
    · rw [left, State.leaveService_frame]
      exact ⟨rfl, rfl, rfl⟩
    · rw [left, State.leaveService_frame]
      exact Tells.refl s
    · rw [left, State.leaveService_berth, Berth.leftBy_state]
      cases b <;> rfl
  · obtain ⟨key, entry⟩ := not_or.mp out
    obtain rfl : iso = false := by simpa using key
    obtain ⟨ts, e⟩ := s.readopt_adopts d u false (by simpa using entry)
    refine .doorEvent (ts := ts) (fun c ne => ?_) ?_ ?_ fun b => ?_ <;> rw [e]
    · exact ⟨(State.tell_door ..).trans (State.door_setDoor_ne _ _ ne), rfl⟩
    · exact ⟨rfl, s.lli.offers_queueOnly ts, rfl⟩
    · exact ⟨rfl, rfl⟩
    · rw [State.tell_berth]; cases b <;> rfl

theorem State.readoptEvent_tended (serves : (s.door d).state ≠ .outOfService) : DoorTended d s (s.readoptEvent d u iso false) := by
  have event := s.readoption_tended d u iso serves
  rcases s.readoptEvent_cases d u iso false with e | e <;> rw [e]
  · exact event
  · exact event.trans_worked (State.addReason_worked _ d .fire) fun c ne => State.putReason_other _ d c true .fire ne

variable {u iso}

/-- A re-adoption in service leaves the zones and the tables. -/
theorem State.readoptEvent_zones (entry : (s.pdt d).inService = true) :
    (s.readoptEvent d u false false).zones = s.zones ∧ (s.readoptEvent d u false false).ts = s.ts := by
  obtain ⟨ts, e⟩ := s.readopt_adopts d u false entry
  have handed := s.readoption_handed d u false false
  have event : (s.readoption d u false false).zones = s.zones ∧ (s.readoption d u false false).ts = s.ts :=
    ⟨by rw [handed.zones, e]; rfl, by rw [handed.ts, e]; rfl⟩
  rcases s.readoptEvent_cases d u false false with e | e <;> rw [e]
  · exact event
  · have given := State.putReason_handed (s.readoption d u false false) d true .fire
    exact ⟨given.zones.trans event.1, given.ts.trans event.2⟩

/-- A re-adoption with the key on, or the entry out of service, takes the door out of service. -/
theorem State.readoptEvent_leaves (serves : (s.door d).state ≠ .outOfService) (out : iso = true ∨ (s.pdt d).inService = false) :
    (s.readoptEvent d u iso false).door d = ((s.door d).retaken u iso).enterOut := by
  have left : (s.readopt d u iso false).door d = ((s.door d).retaken u iso).enterOut := by
    rw [State.readopt_isolated s d u iso false out, if_neg serves, State.leaveService_door, State.door_setDoor_same]
  rw [State.readoptEvent_plain (.inr (.inr (by rw [left]; rfl))), (s.readoption_handed d u iso false).door, left]

end

/-! # RESET_LATCH (R138) -/

/-- A fault clear acts on the record: FAULT, with a cause other than COMM_LOST (R131). -/
abbrev Door.Clears (r : Door) : Prop := r.state = .fault ∧ r.faultCause ≠ some .commLost

section
variable {s : State} {d : DoorNo}

theorem State.faultClear_idle (idle : ¬ (s.door d).Clears ∨ (s.door d).lastStatus = none) : s.faultClear d = s := by
  unfold State.faultClear
  dsimp only
  split
  next u known => exact if_neg (idle.resolve_right (by rw [known]; exact Option.some_ne_none u))
  next => rfl
theorem State.faultClear_readopts {u : UnitStatus} (clears : (s.door d).Clears) (known : (s.door d).lastStatus = some u) :
    s.faultClear d = s.readoptEvent d u ((s.door d).isoKey == some true) false := by
  unfold State.faultClear
  dsimp only
  rw [known]
  exact if_pos clears

theorem State.resetDoor_held (held : (s.door d).state = .held) : s.resetDoor d = (s.latchReset d).stuckClear d := by
  unfold State.resetDoor; rw [held]
theorem State.resetDoor_idle (notHeld : (s.door d).state ≠ .held)
    (idle : ¬ (s.door d).Clears ∨ (s.door d).lastStatus = none) : s.resetDoor d = s.stuckClear d := by
  unfold State.resetDoor
  dsimp only
  split
  next held => exact absurd held notHeld
  next => rw [State.faultClear_idle idle]
  next => rfl
theorem State.resetDoor_clears {u : UnitStatus} (clears : (s.door d).Clears) (known : (s.door d).lastStatus = some u) :
    s.resetDoor d = (s.readoptEvent d u ((s.door d).isoKey == some true) false).stuckClear d := by
  unfold State.resetDoor
  rw [clears.1]
  dsimp only
  rw [State.faultClear_readopts clears known]

variable (s d)

/-- Whatever it finds, RESET_LATCH tends the one door. -/
theorem State.resetDoor_tended : DoorTended d s (s.resetDoor d) := by
  refine DoorTended.stuckClear ?_
  split
  · exact (DoorTended.refl d s).trans_worked (s.latchReset_worked d) fun c ne => s.latchReset_other ne
  next fault =>
    unfold State.faultClear
    dsimp only
    split
    · split
      · exact s.readoptEvent_tended d _ _ (by rw [fault]; decide)
      · exact .refl d s
    · exact .refl d s
  · exact .refl d s

theorem State.stuckClear_door : (s.stuckClear d).door d = s.door d := State.door_congr (s.stuckClear_worked d).doors d

variable {s d}

/-- The zones after a RESET_LATCH: those of a state with the same zones and tables, each cleared if it is STUCK. -/
theorem State.stuckClear_of_zones {t : State} (zones : t.zones = s.zones) (ts : t.ts = s.ts) (z : ZoneId) :
    (t.stuckClear d).zone d z = (s.zone d z).map (ZoneRec.unstuck (s.sensing d)) := by
  rw [State.stuckClear_cleared, State.zone_congr zones, State.sensing_congr ts]

/-- A door that stays in service, or out of it, has its STUCK zones cleared. -/
theorem State.resetDoor_zone
    (stays : ¬ (s.door d).Clears ∨ ((s.door d).isoKey ≠ some true ∧ (s.pdt d).inService = true)) (z : ZoneId) :
    (s.resetDoor d).zone d z = (s.zone d z).map (ZoneRec.unstuck (s.sensing d)) := by
  by_cases held : (s.door d).state = .held
  · rw [State.resetDoor_held held]
    exact State.stuckClear_of_zones (s.latchReset_handed d).zones (s.latchReset_handed d).ts z
  by_cases idle : ¬ (s.door d).Clears ∨ (s.door d).lastStatus = none
  · rw [State.resetDoor_idle held idle]
    exact State.stuckClear_of_zones rfl rfl z
  · obtain ⟨clears, known⟩ := not_or.mp idle
    obtain ⟨u, known⟩ := Option.ne_none_iff_exists'.mp known
    obtain ⟨off, entry⟩ := stays.resolve_left clears
    rw [State.resetDoor_clears (not_not.mp clears) known, beq_eq_false_iff_ne.mpr off]
    obtain ⟨zones, ts⟩ := s.readoptEvent_zones d (u := u) entry
    exact State.stuckClear_of_zones zones ts z

end

/-- What tends a door behind a request. -/
theorem DoorTended.requested {s t : State} {d : DoorNo} (h : DoorTended d s.popRequest t) :
    (∀ c : DoorNo, c ≠ d → t.door c = s.door c ∧ t.zonesOf c = s.zonesOf c)
      ∧ DoorsAndBerthsOnly { s with zones := t.zones, ou := { s.ou with keys := t.ou.keys } } t
      ∧ ∃ ts : List Telegram, Tells s.popRequest t ts ∧ ChangesTold s t ts := by
  obtain ⟨ts, tells, doors, berths⟩ := h.told
  refine ⟨h.others, doorsAndBerthsOnly_of_popRequest (s := { s with zones := t.zones, ou := { s.ou with keys := t.ou.keys } }) h.only,
    ts, tells, doors, fun b moved => berths b ?_⟩
  rw [State.popRequest_berth]
  exact moved

/-- Settles O31: by what RESET_LATCH finds at the door, HELD, a FAULT that it clears, or neither. -/
theorem resetLatchActs : Obligations.ResetLatchActs := by
  intro s src p taken d r clears serves
  refine ⟨fun bad => exec_refusesRange taken ?_, fun good => ?_⟩
  · unfold State.resetLatch
    rw [doorAt_none bad]
  have owner : s.popRequest.resetLatch p = (s.popRequest.resetDoor d, .accepted []) := by
    unfold State.resetLatch
    rw [doorAt_named good]
    rfl
  obtain ⟨others, only, ts, tells, changes⟩ := (s.popRequest.resetDoor_tended d).requested
  refine ⟨s.popRequest.resetDoor d, ts, exec_accepts taken owner, others, only, tells, changes, fun held => ?_, fun notHeld idle => ?_,
    fun u fault known adopted stays => ?_, fun u fault known leaves => ?_, fun stays z => ?_⟩
  · have door : (s.popRequest.resetDoor d).door d = r.latchReset (s.limits d) := by
      rw [State.resetDoor_held (s := s.popRequest) held, State.stuckClear_door, State.latchReset_door]
      rfl
    rw [door]
    refine ⟨Door.latchReset_reasons _ _, ?_⟩
    by_cases none : r.reasons = .empty
    · rw [Door.latchReset_closes _ held none]
      exact ⟨rfl, rfl, fun _ => ⟨rfl, rfl⟩, fun some => absurd none some⟩
    · rw [Door.latchReset_opens _ held none]
      exact ⟨rfl, rfl, fun some => absurd some none, fun _ => ⟨rfl, rfl⟩⟩
  · rw [State.resetDoor_idle (s := s.popRequest) notHeld idle, State.stuckClear_door]
    rfl
  · obtain ⟨off, entry⟩ := stays
    have inService : r.state ≠ .outOfService := by rw [fault.1]; decide
    have door : (s.popRequest.resetDoor d).door d = r.adopt (s.limits d) u .startOpen := by
      rw [State.resetDoor_clears (s := s.popRequest) fault known, State.stuckClear_door,
        show ((s.popRequest.door d).isoKey == some true) = false from beq_eq_false_iff_ne.mpr off,
        State.readoptEvent_plain (s := s.popRequest) (.inl ⟨inService, adopted⟩), State.readoption_door (s := s.popRequest) entry]
      rfl
    rw [door]
    exact Door.adopt_readopted _ _ _ rfl
  · have inService : r.state ≠ .outOfService := by rw [fault.1]; decide
    have out : ((s.popRequest.door d).isoKey == some true) = true ∨ (s.pdt d).inService = false := by
      rcases not_and_or.mp leaves with on | gone
      · exact .inl (beq_iff_eq.mpr (not_not.mp on))
      · exact .inr (Bool.not_eq_true _ ▸ gone)
    rw [State.resetDoor_clears (s := s.popRequest) fault known, State.stuckClear_door,
      State.readoptEvent_leaves s.popRequest d inService out]
    exact ⟨rfl, rfl, rfl⟩
  · have cleared : (s.popRequest.resetDoor d).zone d z = (s.zone d z).map (ZoneRec.unstuck (s.sensing d)) :=
      State.resetDoor_zone (s := s.popRequest) stays z
    refine ⟨fun x fitted stuck q profile => ?_, fun free => ?_⟩
    · rw [cleared, fitted, profile]
      exact congrArg some (ZoneRec.unstuck_stuck q stuck)
    · rw [cleared]
      cases fitted : s.zone d z with
      | none => rfl
      | some x =>
        rw [fitted] at free
        exact congrArg some (ZoneRec.unstuck_free _ fun stuck => free (congrArg some stuck))

end Sys2Proof.Machine
